-- ==== Sys2Proof/Word.lean ====
section
/-! DEFINITION. Words of the Onteru 6420: the byte, the two-byte word, and the plainest arithmetic the manual
uses (saturating counts, rounding up, rounding to nearest with halves away from zero). -/

namespace Sys2Proof

/-- One byte on the line (R189). -/
abbrev Byte := BitVec 8

/-- A two-byte field: a slot value (R190) or a cycle number (R11). -/
abbrev Word := BitVec 16

/-- The cycle number of a cycle frame, 0 to 65,535, wrapping (section 1.2). -/
abbrev CycleNo := BitVec 16

/-- A count that saturates at `top` (R18, R30, R149, R159, R177). -/
def satAdd (top n k : Nat) : Nat := min top (n + k)

/-- The largest value of a 32-bit count. -/
def top32 : Nat := 4294967295

/-- A 32-bit saturating count advanced by one. -/
def bump32 (n : Nat) : Nat := satAdd top32 n 1

/-- Quotient rounded up ("ceil", section Arithmetic). -/
def ceilDiv (a b : Nat) : Nat := (a + (b - 1)) / b

/-- Quotient rounded to the nearest whole unit, halves away from zero (R64, R65). -/
def roundDiv (a : Int) (b : Nat) : Int :=
  let q := ((2 * a.natAbs + b) / (2 * b) : Nat)
  if a < 0 then -(q : Int) else q

end Sys2Proof
end

