-- ==== Sys2Proof/Syntax.lean ====
section
/-! DEFINITION. The commands of the Onteru 6420: one constructor of `Instr` for each row of
spec/opcode_table.json. -/

namespace Sys2Proof

/-- The direction of a frame: OUT enters at port U and leaves at D, BACK the reverse (section 1.2). -/
inductive Dir where
  | out
  | back
deriving DecidableEq, Repr

/-- The level of the BREAK_IN pin (R97). -/
inductive Level where
  | high
  | low
deriving DecidableEq, Repr

/-- The steps of the part, each whole and indivisible (95_what_each_step_holds.md).

The request rows carry no operands of their own: their parameters are the twelve parameter bytes of the request
record at the head of the WAITING places (R167, R169, R192). -/
inductive Instr where
  /-- FRAME_ARRIVAL (R3): the first byte of a frame arrives; `rest` is what the link delivers after it. -/
  | frameArrival (d : Dir) (first : Byte) (rest : List Byte)
  /-- COMMAND_PASSAGE (R137): slot number `slot` of the OUT cycle frame that is leaving streams past. -/
  | commandPassage (slot : Nat)
  /-- STATUS_SLOT_WRITE (R9): slot number `slot` of the BACK cycle frame that is leaving streams past. -/
  | statusSlotWrite (slot : Nat)
  /-- REQUEST_TAKING (R167): request record number `record` of the OUT service frame streams past. -/
  | requestTaking (record : Nat)
  /-- REPLY_PLACE_FILL (R170): reply place number `place` of the BACK service frame streams past. -/
  | replyPlaceFill (place : Nat)
  /-- FRAME_END (R5): the frame that is leaving in direction `d` ends, `elapsed` µs of the part's own time
  base after the previous command that told the time. -/
  | frameEnd (d : Dir) (elapsed : Nat)
  /-- RESUME_TIMER_EXPIRY (R110). -/
  | resumeTimerExpiry
  /-- SCHEDULE_EVALUATION_COMPLETE (R62). -/
  | scheduleEvaluationComplete
  /-- SOLVENT_EVALUATION_COMPLETE (R84). -/
  | solventEvaluationComplete
  /-- SILENCE_TIMER_EXPIRY (R15). -/
  | silenceTimerExpiry
  /-- BREAK_IN_CHANGE (R97): the pin goes to `level`. -/
  | breakInChange (level : Level)
  /-- PURGE_HOLD_EXPIRY (R131). -/
  | purgeHoldExpiry
  /-- ALERT_GAP_EXPIRY (R163). -/
  | alertGapExpiry
  /-- UNKNOWN_REQUEST (R169): the request at the head has a code outside the catalogue. -/
  | unknownRequest
  /-- IDENTIFY (R178). -/
  | identify
  /-- CLEAR_RESET_CAUSE (R178). -/
  | clearResetCause
  /-- OPEN_WINDOW (R172). -/
  | openWindow
  /-- WRITE_NEXT (R174). -/
  | writeNext
  /-- READ_NEXT (R174). -/
  | readNext
  /-- CLOSE_WINDOW (R174). -/
  | closeWindow
  /-- SEAL_BANK (R45). -/
  | sealBank
  /-- BANK_CHECK_END (R47). -/
  | bankCheckEnd
  /-- CLEAR_BANK (R49). -/
  | clearBank
  /-- ACTIVATE_BANK (R50). -/
  | activateBank
  /-- CANCEL_ACTIVATION (R54). -/
  | cancelActivation
  /-- STORE (R183). -/
  | store
  /-- STORE_WRITE_COMPLETE (R185). -/
  | storeWriteComplete
  /-- RELOAD (R186). -/
  | reload
  /-- START_PURGE (R128). -/
  | startPurge
  /-- ABORT_PURGE (R130). -/
  | abortPurge
  /-- RESET_TRIP (R133). -/
  | resetTrip
  /-- SET_PREHEAT (R111). -/
  | setPreheat
  /-- RELEASE (R152). -/
  | release
  /-- RECLAIM (R152). -/
  | reclaim
  /-- RESUME_DISCARD (R107). -/
  | resumeDiscard
  /-- TAKE_INCIDENTS (R161). -/
  | takeIncidents
  /-- READ_TRIP_CAPTURE (R171). -/
  | readTripCapture
  /-- SET_OVERRIDE (R176). -/
  | setOverride
  /-- CLEAR_OVERRIDE (R176). -/
  | clearOverride
  /-- READ_COUNTERS (R177). -/
  | readCounters
  /-- RESET_PART (R179). -/
  | resetPart
  /-- SERVICE_RESET_WAIT_EXPIRY (R179). -/
  | serviceResetWaitExpiry
  /-- POWER_ON (R188). -/
  | powerOn
  /-- RESET_PIN_ASSERT (R188). -/
  | resetPinAssert
  /-- RESET_PIN_RELEASE (R188). -/
  | resetPinRelease
  /-- STORE_LOAD_COMPLETE (R187). -/
  | storeLoadComplete
  /-- SUPPLY_LOSS (R1). -/
  | supplyLoss
deriving DecidableEq, Repr

end Sys2Proof
end

