-- ==== Sys2Proof/Config.lean ====
section
/-! DEFINITION. What the manual leaves to each instant of a running part: the free value of the model. -/

namespace Sys2Proof.Config

/-- FREE VALUE (log 1). Where several blocks react to one event, the manual says that either reaction may be
taken first (R53, R70, R77, R103, R160). The n-th time such an order is taken, `reactionOrder n` is the number
of the order taken (`Machine.arrange` spells it out). It has no body: nothing can be proved of its value. -/
opaque reactionOrder : Nat → Nat

end Sys2Proof.Config
end

