-- ==== Sys2Proof/Machine/Types.lean ====
section
/-! DEFINITION. The data the twelve blocks hold, with each block's values after reset. Plain data throughout.
Zones, circuits, analyzers, sensors and banks are counted from 0 here: zone k of the manual is index k - 1. -/

namespace Sys2Proof.Machine

/-! ## Like things in fixed number -/

/-- Four like things: the zones, the break sensors or the banks. -/
structure Four (α : Type) where
  n0 : α
  n1 : α
  n2 : α
  n3 : α
deriving DecidableEq, Repr

/-- The member with index `i`. -/
def Four.get {α : Type} (q : Four α) : Fin 4 → α
  | 0 => q.n0
  | 1 => q.n1
  | 2 => q.n2
  | 3 => q.n3

/-- Four members computed from their indices. -/
def Four.ofFn {α : Type} (f : Fin 4 → α) : Four α := ⟨f 0, f 1, f 2, f 3⟩

/-- The member with index `i` replaced. -/
def Four.set {α : Type} (q : Four α) (i : Fin 4) (x : α) : Four α :=
  match i with
  | 0 => { q with n0 := x }
  | 1 => { q with n1 := x }
  | 2 => { q with n2 := x }
  | 3 => { q with n3 := x }

/-- The four members in index order. -/
def Four.toList {α : Type} (q : Four α) : List α := [q.n0, q.n1, q.n2, q.n3]

/-- Four equal members. -/
def Four.fill {α : Type} (x : α) : Four α := ⟨x, x, x, x⟩

/-- Three like things: the chill circuits. -/
structure Three (α : Type) where
  n0 : α
  n1 : α
  n2 : α
deriving DecidableEq, Repr

/-- The member with index `i`. -/
def Three.get {α : Type} (q : Three α) : Fin 3 → α
  | 0 => q.n0
  | 1 => q.n1
  | 2 => q.n2

/-- Three members computed from their indices. -/
def Three.ofFn {α : Type} (f : Fin 3 → α) : Three α := ⟨f 0, f 1, f 2⟩

/-- The member with index `i` replaced. -/
def Three.set {α : Type} (q : Three α) (i : Fin 3) (x : α) : Three α :=
  match i with
  | 0 => { q with n0 := x }
  | 1 => { q with n1 := x }
  | 2 => { q with n2 := x }

/-- The three members in index order. -/
def Three.toList {α : Type} (q : Three α) : List α := [q.n0, q.n1, q.n2]

/-- Three equal members. -/
def Three.fill {α : Type} (x : α) : Three α := ⟨x, x, x⟩

/-! ## Roles and the Slot Map -/

/-- A zone, 0 for zone 1. -/
abbrev Zone := Fin 4
/-- A chill circuit, 0 for circuit 1. -/
abbrev Circuit := Fin 3
/-- A recipe bank, 0 to 3. -/
abbrev BankNo := Fin 4

/-- The roles of R21, in the order of its table. -/
inductive Role where
  | webSpeed
  | impression
  | splice
  | lineBreak
  | zoneTemp (k : Zone)
  | zoneFlame (k : Zone)
  | exhaustFlow
  | lel (a : Fin 2)
  | breakSensor (b : Fin 4)
  | webExitTemp
  | chillWebTemp (j : Circuit)
  | liveCoverage
  | zoneTempSp (k : Zone)
  | zoneFanSp (k : Zone)
  | zoneBurnerEn (k : Zone)
  | exhaustSp
  | chillWaterSp (j : Circuit)
  | speedRef
deriving DecidableEq, Repr

/-- The degree to which the part may speak for a command role (R20, R139). -/
inductive Authority where
  | observe
  | supervise
  | full
deriving DecidableEq, Repr

/-- The kind of a Slot Map entry with the fields that apply to it (R20). -/
inductive EntryUse where
  | sample (staleness : Nat)
  | command (authority : Authority) (safe : Option Int) (tolerance missLimit : Nat)
  | echo (staleness : Nat)
  | hold
deriving DecidableEq, Repr

/-- A Slot Map entry (R20). -/
structure SlotEntry where
  node : Nat
  channel : Nat
  role : Role
  use : EntryUse
deriving DecidableEq, Repr

/-- Slot kinds on the line (R190); any other code is of no kind (R191). -/
inductive SlotKind where
  | sample
  | command
  | echo
  | hold
  | status
deriving DecidableEq, Repr

/-- Node quality; codes 3 to 255 read as FAILED (R191). -/
inductive Quality where
  | good
  | suspect
  | failed
deriving DecidableEq, Repr

/-- A slot record as it passes (R190). -/
structure Slot where
  node : Nat
  channel : Nat
  kind : SlotKind
  quality : Quality
  value : Word
deriving DecidableEq, Repr

/-! ## Commissioning (R181, R182) -/

/-- How BREAK_IN is read (R97). -/
inductive PinMode where
  | edge
  | level
deriving DecidableEq, Repr

/-- The alert threshold (R162). -/
inductive Threshold where
  | none
  | advisory
  | process
  | safety
deriving DecidableEq, Repr

/-- The commissioning scalars in COMM_SCALARS order (R182). -/
structure Scalars where
  node : Nat
  period : Nat
  silence : Nat
  zones : Nat
  circuits : Nat
  analyzers : Nat
  sensors : Nat
  pinLevel : Level
  pinMode : PinMode
  lg : Nat
  fMon : Nat
  fUnmon : Nat
  trip : Nat
  confirm : Nat
  margin : Nat
  qFloor : Nat
  qCap : Nat
  volume : Nat
  changes : Nat
  purgeMin : Nat
  purgeHold : Nat
  threshold : Threshold
  gap : Nat
  speedCap : Bool
deriving DecidableEq, Repr

/-- The working scalars of an UNCOMMISSIONED part (R182, last column). -/
def Scalars.uncommissioned : Scalars :=
  { node := 1, period := 10, silence := 500, zones := 1, circuits := 1, analyzers := 0, sensors := 0,
    pinLevel := .high, pinMode := .edge, lg := 40, fMon := 25, fUnmon := 15, trip := 400, confirm := 3,
    margin := 10, qFloor := 2000, qCap := 20000, volume := 10, changes := 5, purgeMin := 2000, purgeHold := 300,
    threshold := .process, gap := 0, speedCap := true }

/-- A commissioning record: the scalars and a Slot Map (R181). -/
structure CommRecord where
  scalars : Scalars
  map : List SlotEntry
deriving DecidableEq, Repr

/-- The working copy of an UNCOMMISSIONED part: R182's scalars and an empty map (R32). -/
def CommRecord.uncommissioned : CommRecord := { scalars := Scalars.uncommissioned, map := [] }

/-- The three versions of the record (R181). `stored` is `none` while the stored record fails its check;
`inForce` is `none` while the part is UNCOMMISSIONED. -/
structure CommStore where
  stored : Option CommRecord
  inForce : Option CommRecord
  working : CommRecord
deriving DecidableEq, Repr

/-! ## Recipe banks (R39 to R42) -/

/-- A breakpoint of a schedule (R40). -/
structure Breakpoint where
  speed : Nat
  value : Int
deriving DecidableEq, Repr

/-- A zone profile (R39). -/
structure ZoneProfile where
  preheatTemp : Int
  preheatFan : Int
  breakTemp : Int
  breakFan : Int
deriving DecidableEq, Repr

/-- A circuit profile (R39). -/
structure CircuitProfile where
  standby : Int
  limit : Int
deriving DecidableEq, Repr

/-- What a bank holds beside its state and last check (R39). -/
structure Recipe where
  tag : List Byte
  width : Nat
  films : List Nat
  evap : Nat
  crawl : Nat
  thread : Nat
  run : Nat
  zoneTemp : Four (List Breakpoint)
  zoneFan : Four (List Breakpoint)
  exhaust : List Breakpoint
  chill : Three (List Breakpoint)
  zoneProfiles : Four ZoneProfile
  circuitProfiles : Three CircuitProfile
  dwell : Nat
  resumeTimeout : Nat
  devBand : Nat
  devConfirm : Nat
  tolerance : Nat
deriving DecidableEq, Repr

/-- The values of an EMPTY bank (R41); a space of its tag is the byte 32 (log 34). -/
def Recipe.empty : Recipe :=
  { tag := List.replicate 8 32, width := 300, films := List.replicate 8 0, evap := 100,
    crawl := 5, thread := 60, run := 100,
    zoneTemp := Four.fill [], zoneFan := Four.fill [], exhaust := [], chill := Three.fill [],
    zoneProfiles := Four.fill ⟨0, 0, 0, 0⟩, circuitProfiles := Three.fill ⟨150, 400⟩,
    dwell := 0, resumeTimeout := 6000, devBand := 100, devConfirm := 50, tolerance := 0 }

/-- The tables the window reaches, in the order of R173. -/
inductive Table where
  | commScalars
  | slotMap
  | recipeScalars (b : BankNo)
  | profiles (b : BankNo)
  | zoneTemp (b : BankNo) (k : Zone)
  | zoneFan (b : BankNo) (k : Zone)
  | exhaust (b : BankNo)
  | chill (b : BankNo) (j : Circuit)
  | board
  | commands
  | sequencer
  | dryer
  | safetyParams
  | publications
deriving DecidableEq, Repr

/-- The reject reasons of the seal check, in the order of R46's table. -/
inductive SealReason where
  | count
  | speedOrder
  | tempOrder
  | thresholdOrder
  | countsChanged
deriving DecidableEq, Repr

/-- The outcome of a seal check (R46, R47). -/
inductive CheckOutcome where
  | passed
  | rejected (reason : SealReason) (table : Option Table) (index : Option Nat)
deriving DecidableEq, Repr

/-- When a PENDING bank changes over (R50). -/
inductive PendingMode where
  | atSplice
  | atStop
deriving DecidableEq, Repr

/-- Bank states (R42). CHECKING keeps the counts the check took at its start (R46, R48). -/
inductive BankState where
  | empty
  | editing
  | checking (zones circuits : Nat)
  | sealed
  | pending (mode : PendingMode)
  | active
deriving DecidableEq, Repr

/-- One recipe bank. -/
structure Bank where
  state : BankState
  recipe : Recipe
  lastCheck : Option CheckOutcome
deriving DecidableEq, Repr

/-- A bank after reset, and after CLEAR_BANK (R41, R57). -/
def Bank.cleared : Bank := { state := .empty, recipe := Recipe.empty, lastCheck := none }

/-! ## States of the line, the web and the dryer -/

/-- Line states (section 1.8), in the order of R194's codes. -/
inductive LineState where
  | bypass
  | syncing
  | online
  | silent
deriving DecidableEq, Repr

/-- Web states (section 6.1), in the order of R194's codes. -/
inductive WebState where
  | stopped
  | threading
  | running
  | break
  | resuming
deriving DecidableEq, Repr

/-- Dryer states (section 7.1), in the order of R194's codes. -/
inductive DryerState where
  | unpurged
  | purging
  | purged
  | firing
  | tripped
deriving DecidableEq, Repr

/-- Analyzer mode (R36). -/
inductive AnalyzerMode where
  | monitored
  | unmonitored
deriving DecidableEq, Repr

/-! ## Sample Board (R25, R32, R33) -/

/-- Quality of a record (R25). -/
inductive RecQuality where
  | good
  | held
  | lost
deriving DecidableEq, Repr

/-- A Sample Board record (R25). -/
structure BoardRec where
  value : Option Int
  quality : RecQuality
  age : Nat
  lastGood : Option Int
  clamps : Nat
deriving DecidableEq, Repr

/-- A record as created and as reset leaves it (R31, R32). -/
def BoardRec.fresh : BoardRec := { value := none, quality := .lost, age := 255, lastGood := none, clamps := 0 }

/-- The role of a record; `echo` tells an ECHO record from a sample or SPEED_REF record (R25). -/
structure RecKey where
  role : Role
  echo : Bool
deriving DecidableEq, Repr

/-- The Sample Board. -/
structure Board where
  records : List (RecKey × BoardRec)
  actual : Nat
  lead : Nat
  measuredLel : Option Nat
  mode : AnalyzerMode
  splice : Bool
  clamped : Nat
  speedLost : Bool
  lelUnmonitored : Bool
deriving DecidableEq, Repr

/-- The Sample Board after reset, before the load (R32, R33). -/
def Board.afterReset : Board :=
  { records := [], actual := 0, lead := 0, measuredLel := none, mode := .unmonitored, splice := false,
    clamped := 0, speedLost := false, lelUnmonitored := false }

/-! ## Schedule Unit (R58 to R62) -/

/-- The inputs of a running schedule evaluation, taken at its start (R59). -/
structure SchedJob where
  cycle : Option CycleNo
  bank : BankNo
  recipe : Recipe
  lead : Nat
  temps : Four (Option Int)
  zones : Nat
  circuits : Nat
deriving DecidableEq, Repr

/-- The schedule publication record (R62); a zone or circuit beyond the counts is absent. -/
structure SchedPub where
  bank : BankNo
  cycle : Option CycleNo
  lead : Nat
  zoneTemp : Four (Option Int)
  zoneFan : Four (Option Int)
  exhaust : Int
  chill : Three (Option Int)
  ceiling : Four (Option Nat)
deriving DecidableEq, Repr

/-- The Schedule Unit. -/
structure SchedUnit where
  job : Option SchedJob
  publication : Option SchedPub
  devCount : Four Nat
  deviation : Four Bool
  shortCount : Three Nat
  shortfall : Three Bool
deriving DecidableEq, Repr

/-- The Schedule Unit after reset (R58). -/
def SchedUnit.afterReset : SchedUnit :=
  { job := none, publication := none, devCount := Four.fill 0, deviation := Four.fill false,
    shortCount := Three.fill 0, shortfall := Three.fill false }

/-! ## Solvent Unit (R72 to R84) -/

/-- The effective safety parameters (R73). -/
structure EffParams where
  fEff : Nat
  trip : Nat
  margin : Nat
  qFloor : Nat
deriving DecidableEq, Repr

/-- The inputs of a running solvent evaluation, taken at its start (R75). -/
structure SolvJob where
  bank : BankNo
  cycle : Option CycleNo
  line : LineState
  web : WebState
  dryer : DryerState
  speed : Nat
  substituted : Bool
  coverage : Nat
  width : Nat
  evap : Nat
  thread : Nat
  mode : AnalyzerMode
  lel : Option Nat
  eff : EffParams
  flow : Option Nat
  lg : Nat
  qCap : Nat
  zones : Nat
deriving DecidableEq, Repr

/-- The source of the thermal ceilings a solvent publication used (R83). -/
inductive CeilingSource where
  | publication (cycle : Option CycleNo) (bank : BankNo)
  | thread (speed : Nat)
deriving DecidableEq, Repr

/-- The solvent publication record (R84). -/
structure SolvPub where
  bank : BankNo
  cycle : Option CycleNo
  covered : Nat
  line : LineState
  web : WebState
  dryer : DryerState
  speed : Nat
  substituted : Bool
  coverage : Nat
  mode : AnalyzerMode
  lel : Option Nat
  eff : EffParams
  flow : Option Nat
  rate : Nat
  predicted : Option Nat
  qMin : Nat
  floor : Nat
  solventCeiling : Nat
  measuredCeiling : Nat
  source : CeilingSource
  combined : Nat
deriving DecidableEq, Repr

/-- The six counters of the LEL histogram (R90). -/
structure Histogram where
  b1 : Nat
  b2 : Nat
  b3 : Nat
  b4 : Nat
  b5 : Nat
  b6 : Nat
deriving DecidableEq, Repr

/-- All six at 0 (R90). -/
def Histogram.zero : Histogram := ⟨0, 0, 0, 0, 0, 0⟩

/-- The Solvent Unit. -/
structure SolvUnit where
  job : Option SolvJob
  pendingCycles : Nat
  publication : Option SolvPub
  eff : Option EffParams
  limited : Bool
  mismatchCount : Nat
  mismatch : Bool
  disagree : Bool
  histogram : Histogram
deriving DecidableEq, Repr

/-- The Solvent Unit after reset, before the load (R72). -/
def SolvUnit.afterReset : SolvUnit :=
  { job := none, pendingCycles := 0, publication := none, eff := none, limited := false, mismatchCount := 0,
    mismatch := false, disagree := false, histogram := Histogram.zero }

/-! ## Web Sequencer (R91, R106) -/

/-- A break source (R100). -/
inductive BreakSource where
  | breakIn
  | lineBreak
  | sensor (b : Fin 4)
deriving DecidableEq, Repr

/-- The resume record (R106). -/
structure ResumeRecord where
  bank : BankNo
  cycle : Option CycleNo
  lead : Nat
  source : BreakSource
  temps : Four (Option Int)
  fans : Four (Option Int)
  exhaust : Option Int
  second : Nat
deriving DecidableEq, Repr

/-- The Web Sequencer. `countDue` says that the latest judged refresh took a break named by a LEVEL detector, which is
counted once as ignored where it still stands at the next (R99, log 20); `returnDue` is a line return owed at the next
judged refresh (R112). -/
structure WebSeq where
  state : WebState
  preheat : Bool
  dwell : Nat
  timer : Option Nat
  record : Option ResumeRecord
  latch : Bool
  reference : Level
  source : Option BreakSource
  exhaustAtBreak : Option Int
  memLine : Bool
  memPin : Bool
  countDue : Bool
  ignored : Nat
  returnDue : Bool
deriving DecidableEq, Repr

/-- The Web Sequencer after reset (R91); the reference level is taken when the relay opens. -/
def WebSeq.afterReset : WebSeq :=
  { state := .stopped, preheat := false, dwell := 0, timer := none, record := none, latch := false,
    reference := .low, source := none, exhaustAtBreak := none, memLine := false, memPin := false, countDue := false,
    ignored := 0, returnDue := false }

/-! ## Dryer Safety Unit (R115, R119, R127) -/

/-- The safety conditions in the order of R119. -/
inductive SafetyCondition where
  | lelMeasuredHigh
  | lelPredictedHigh
  | exhaustLow
  | exhaustUnresponsive
  | flameWithoutEnable
  | lineSilent
deriving DecidableEq, Repr

/-- A condition with a confirm counter (R119). -/
structure Cond where
  active : Bool
  count : Nat
deriving DecidableEq, Repr

/-- A condition not active with its counter at 0. -/
def Cond.clear : Cond := { active := false, count := 0 }

/-- The subject of a record (R154). -/
inductive Subject where
  | none
  | role (r : Role)
  | breakIn
  | bank (b : BankNo)
deriving DecidableEq, Repr

/-- The first-trip capture (R127). -/
structure Capture where
  condition : SafetyCondition
  subject : Subject
  value : Option Int
  before : DryerState
  web : WebState
  cycle : Option CycleNo
  trip : Option Nat
  qFloor : Option Nat
  mode : AnalyzerMode
  accumulator : Nat
deriving DecidableEq, Repr

/-- The Dryer Safety Unit. `hold` is the deadline of the purge hold timer on the part's own time base. -/
structure DryerUnit where
  state : DryerState
  accumulator : Nat
  remainder : Nat
  hold : Option Nat
  lelMeasured : Bool
  lelPredicted : Cond
  exhaustLow : Cond
  exhaustUnresponsive : Bool
  flame : Four Cond
  lineSilent : Bool
  capture : Option Capture
  furtherTrips : Nat
  permit : Bool
deriving DecidableEq, Repr

/-- The Dryer Safety Unit after reset (R115). -/
def DryerUnit.afterReset : DryerUnit :=
  { state := .unpurged, accumulator := 0, remainder := 0, hold := none, lelMeasured := false,
    lelPredicted := Cond.clear, exhaustLow := Cond.clear, exhaustUnresponsive := false,
    flame := Four.fill Cond.clear, lineSilent := false, capture := none, furtherTrips := 0, permit := false }

/-! ## Command Table (R135) -/

/-- Who speaks for a command role (R139). -/
inductive Owner where
  | line
  | schedule
  | sequence
  | safe
deriving DecidableEq, Repr

/-- Responsiveness of an entry (R151). -/
inductive Responsiveness where
  | unchecked
  | responsive
  | unresponsive
deriving DecidableEq, Repr

/-- A forwarded value with the cycle number of the OUT frame that carried it (R148). -/
structure Forwarded where
  value : Int
  cycle : CycleNo
deriving DecidableEq, Repr

/-- A command entry (R135). -/
structure CmdEntry where
  owner : Owner
  released : Bool
  last : Option Forwarded
  previous : Option Forwarded
  hold : Nat
  miss : Nat
  responsiveness : Responsiveness
  limited : Bool
deriving DecidableEq, Repr

/-- An entry after reset, and as created (R135). -/
def CmdEntry.fresh : CmdEntry :=
  { owner := .line, released := false, last := none, previous := none, hold := 0, miss := 0,
    responsiveness := .unchecked, limited := false }

/-- The Command Table. `kept` holds the arriving SPEED_REF values, newest first (R29). -/
structure CmdTable where
  entries : List (Role × CmdEntry)
  late : Nat
  kept : List (CycleNo × Word)
  speedCapped : Bool
deriving DecidableEq, Repr

/-- The Command Table after reset, before the load (R135). -/
def CmdTable.afterReset : CmdTable := { entries := [], late := 0, kept := [], speedCapped := false }

/-! ## Incident Log (R154, R166) -/

/-- Incident classes (R154). -/
inductive IncidentClass where
  | advisory
  | process
  | safety
deriving DecidableEq, Repr

/-- Incident codes in the order of the table of R154. -/
inductive IncidentCode where
  | lelMeasuredHigh
  | lelPredictedHigh
  | exhaustLow
  | exhaustUnresponsive
  | flameWithoutEnable
  | lineSilent
  | webBreak
  | secondBreak
  | zoneDeviation
  | chillShortfall
  | dryerLimited
  | speedLost
  | actuatorUnresponsive
  | solventMismatch
  | lelUnmonitored
  | commissioningInvalid
  | purgeExpired
  | bankChecked
  | bankActivated
  | resumeDiscarded
  | storeFinished
  | analyzerDisagree
  | frameErrors
  | lateForward
  | speedCapped
  | tripReset
  | purgeDone
deriving DecidableEq, Repr

/-- Why a resume record was discarded (R107). -/
inductive DiscardCause where
  | timeout
  | changeover
  | dryer
  | request
deriving DecidableEq, Repr

/-- The value of an incident record (R154). -/
inductive IncidentValue where
  | absent
  | num (n : Int)
  | outcome (o : CheckOutcome)
  | cause (c : DiscardCause)
  | condition (c : SafetyCondition)
  | written
deriving DecidableEq, Repr

/-- An incident record (R154). -/
structure Incident where
  seq : Word
  cycle : Option CycleNo
  code : IncidentCode
  subject : Subject
  value : IncidentValue
  web : WebState
  dryer : DryerState
deriving DecidableEq, Repr

/-- The Incident Log. `gap` is the deadline of the gap timer. -/
structure IncidentLog where
  queue : List Incident
  nextSeq : Word
  dropped : Nat
  quietErrors : Nat
  quietLate : Nat
  alert : Bool
  gap : Option Nat
deriving DecidableEq, Repr

/-- The Incident Log after reset (R166). -/
def IncidentLog.afterReset : IncidentLog :=
  { queue := [], nextSeq := 0, dropped := 0, quietErrors := 0, quietLate := 0, alert := false, gap := none }

/-! ## Service Agent (R167, R172, R176, R178, R180) -/

/-- Reply statuses in the order of R192's codes. -/
inductive Status where
  | done
  | started
  | busy
  | state
  | range
  | locked
  | unknown
  | noWindow
  | check
deriving DecidableEq, Repr

/-- A reply formed at execution: its status and its data bytes, cut into parts of twelve when placed (R192). -/
structure Reply where
  status : Status
  data : List Byte
deriving DecidableEq, Repr

/-- The stages of a place (R167). In `reply`, `next` parts are already placed, and `inFrame` says whether one of
them went into the BACK service frame now passing. -/
inductive Stage where
  | provisional
  | waiting
  | reply (r : Reply) (next : Nat) (inFrame : Bool)
  | inFrame (r : Reply)
deriving DecidableEq, Repr

/-- One of the 8 places, held by a request (R167), with the request record's fields (R192). -/
structure Place where
  tag : Byte
  code : Nat
  length : Nat
  params : List Byte
  stage : Stage
deriving DecidableEq, Repr

/-- Window modes (R172). -/
inductive WindowMode where
  | read
  | write
  | replace
deriving DecidableEq, Repr

/-- The open table window (R172); the cursor may stand below 0 (R174). `forward` is direction +1. -/
structure Window where
  table : Table
  mode : WindowMode
  forward : Bool
  cursor : Int
deriving DecidableEq, Repr

/-- The overrides (R176). -/
structure Overrides where
  fMon : Option Nat
  fUnmon : Option Nat
  trip : Option Nat
  margin : Option Nat
  qFloor : Option Nat
deriving DecidableEq, Repr

/-- No override held. -/
def Overrides.absent : Overrides := ⟨none, none, none, none, none⟩

/-- The reset cause record (R178). -/
structure ResetCauses where
  powerOn : Bool
  pin : Bool
  service : Bool
deriving DecidableEq, Repr

/-- The Service Agent. `newMarks` are the BUSY marks of the OUT service frame in transit, `marks` those that
stand and wait for a BACK service frame (R168). `resetWait` is the deadline of the service reset wait (R179). -/
structure Agent where
  places : List Place
  newMarks : List Byte
  marks : List Byte
  window : Option Window
  overrides : Overrides
  causes : ResetCauses
  storeRunning : Bool
  checking : Option BankNo
  resetWait : Option Nat
  busyRefusals : Nat
deriving DecidableEq, Repr

/-- The Service Agent after a reset that leaves the reset cause record `c` (R180). -/
def Agent.afterReset (c : ResetCauses) : Agent :=
  { places := [], newMarks := [], marks := [], window := none, overrides := Overrides.absent, causes := c,
    storeRunning := false, checking := none, resetWait := none, busyRefusals := 0 }

/-! ## Line Interface (R3, R11, R12, R14, R18, R19) -/

/-- A frame in an elastic store place: the bytes as the link delivers them and as they leave, whether the frame's
start came after the line state last became ONLINE (R7, R9), the position up to which it has streamed past, the BUSY
marks that belong to it (R168), and the slots captured from a BACK cycle frame up to that position (R8). -/
structure Transit where
  arrived : List Byte
  forwarded : List Byte
  sinceOnline : Bool
  cursor : Nat
  marks : List Byte
  captured : List Slot
deriving DecidableEq, Repr

/-- The Line Interface. `silence` is the deadline of the silence timer; `refreshCycle` the cycle number of the
latest board refresh; `sentOut` and `sentBack` the last whole frames that left D and U. The head of a store is
the frame that is leaving. -/
structure LineIf where
  state : LineState
  relayClosed : Bool
  outStore : List Transit
  backStore : List Transit
  syncCount : Nat
  remembered : List CycleNo
  lastCycle : Option CycleNo
  refreshCycle : Option CycleNo
  lastRefreshAt : Option Nat
  interval : Option Nat
  silence : Option Nat
  goodOut : Nat
  goodBack : Nat
  poisoned : Nat
  overruns : Nat
  longFrames : Nat
  serviceFrames : Nat
  irregular : Nat
  sentOut : Option (List Byte)
  sentBack : Option (List Byte)
deriving DecidableEq, Repr

/-- The Line Interface in reset (R1, R19). -/
def LineIf.afterReset : LineIf :=
  { state := .bypass, relayClosed := true, outStore := [], backStore := [], syncCount := 0, remembered := [],
    lastCycle := none, refreshCycle := none, lastRefreshAt := none, interval := none, silence := none,
    goodOut := 0, goodBack := 0, poisoned := 0, overruns := 0, longFrames := 0, serviceFrames := 0,
    irregular := 0, sentOut := none, sentBack := none }

/-- What a board refresh carries to every block (R10). `entry` says that the line became ONLINE at this frame end
(R14); `errors` that the Line Interface owes a FRAME_ERRORS offer for this frame (R19). -/
structure Refresh where
  good : Bool
  cycle : Option CycleNo
  step : Nat
  regular : Bool
  slots : List Slot
  line : LineState
  entry : Bool
  errors : Bool
deriving DecidableEq, Repr

/-! ## Supply and pins -/

/-- Where the part stands between power and running (R1, R187, R188). -/
inductive Phase where
  | unpowered
  | heldByPin
  | loading
  | running
deriving DecidableEq, Repr

/-- The input pins. -/
structure Pins where
  breakIn : Level
  resetAsserted : Bool
deriving DecidableEq, Repr

end Sys2Proof.Machine
end

