-- ==== Sys2Proof/Machine/Bytes.lean ====
section
/-! DEFINITION. The byte layouts of chapter 12: byte order, the CRC-32 of the trailer, frames, slot records,
request records and reply places. -/

namespace Sys2Proof.Machine

/-- A byte holding the low eight bits of `n`. -/
def byte (n : Nat) : Byte := BitVec.ofNat 8 n

/-- Two bytes, most significant first (chapter 12). -/
def be16 (n : Nat) : List Byte := [byte (n / 256), byte n]

/-- Two bytes of a two's complement number (R191). -/
def be16Int (z : Int) : List Byte := be16 (z % 65536).toNat

/-- Four bytes, most significant first. -/
def be32 (n : Nat) : List Byte := [byte (n / 16777216), byte (n / 65536), byte (n / 256), byte n]

/-- The unsigned number two bytes carry. -/
def fromBe16 (hi lo : Byte) : Nat := hi.toNat * 256 + lo.toNat

/-- The signed number an unsigned two-byte number stands for (R191). -/
def signed16 (n : Nat) : Int := if n < 32768 then (n : Int) else (n : Int) - 65536

/-- The part of a byte list from position `at'` on replaced by `new`, the length unchanged. -/
def overwrite (bs : List Byte) (at' : Nat) (new : List Byte) : List Byte :=
  bs.take at' ++ (new ++ bs.drop (at' + new.length))

/-! ## The trailer (R189) -/

/-- One bit of the CRC-32 register, held with the lowest power of x in its top bit (log 6). -/
def crcBit (c : Nat) : Nat := if c % 2 = 1 then (c / 2) ^^^ 0xEDB88320 else c / 2

/-- One byte, least significant bit first. -/
def crcByte (c : Nat) (b : Byte) : Nat :=
  crcBit (crcBit (crcBit (crcBit (crcBit (crcBit (crcBit (crcBit (c ^^^ b.toNat))))))))

/-- The CRC-32 over a run of bytes: generator 04C11DB7, all ones at the start, complemented (R189). -/
def crc32 (bs : List Byte) : Nat := (bs.foldl crcByte 0xFFFFFFFF) ^^^ 0xFFFFFFFF

/-- The trailer that checks (R5). -/
def freshTrailer (bs : List Byte) : List Byte := be32 (crc32 bs)

/-- The bitwise complement of the fresh trailer (R5, R189). -/
def poisonedTrailer (bs : List Byte) : List Byte := (freshTrailer bs).map (fun b => ~~~b)

/-! ## Frames (R189) -/

/-- The kind a frame's first byte names (R2, R189). -/
inductive FrameKind where
  | cycle
  | service
  | foreign
deriving DecidableEq, Repr

/-- The kind of a frame from its first byte. -/
def frameKind (first : Byte) : FrameKind :=
  if first.toNat = 1 then .cycle else if first.toNat = 2 then .service else .foreign

/-- The kind of a run of bytes. -/
def kindOf : List Byte → FrameKind
  | [] => .foreign
  | b :: _ => frameKind b

/-- Byte `i` as a number, 0 beyond the end. -/
def byteAt (bs : List Byte) (i : Nat) : Nat := (bs.getD i 0).toNat

/-- How many bytes the header takes (R189). -/
def headerLength : FrameKind → Nat
  | .cycle => 4
  | .service => 3
  | .foreign => 0

/-- The slot count a cycle frame's header announces. -/
def slotCount (bs : List Byte) : Nat := byteAt bs 1

/-- The cycle number of a cycle frame's header. -/
def cycleNumber (bs : List Byte) : CycleNo := BitVec.ofNat 16 (byteAt bs 2 * 256 + byteAt bs 3)

/-- The request places a service frame's header announces. -/
def requestPlaces (bs : List Byte) : Nat := byteAt bs 1

/-- The reply places a service frame's header announces. -/
def replyPlaces (bs : List Byte) : Nat := byteAt bs 2

/-- The body length the header announces (R189). -/
def bodyLength (bs : List Byte) : Nat :=
  match kindOf bs with
  | .cycle => 5 * slotCount bs
  | .service => 16 * requestPlaces bs + 17 * replyPlaces bs
  | .foreign => 0

/-- Whether all bytes of the header have arrived (R189). -/
def headerComplete (bs : List Byte) : Bool := decide (headerLength (kindOf bs) ≤ bs.length)

/-- Header and body of a frame: all but the trailer, which takes the last four bytes after the header (log 7). A
frame that ended before its header was complete has only what arrived (R5). -/
def headAndBody (bs : List Byte) : List Byte :=
  if headerComplete bs then bs.take (max (headerLength (kindOf bs)) (bs.length - 4)) else bs

/-- Whether a CYCLE or SERVICE frame is good (R5). -/
def goodFrame (bs : List Byte) : Bool :=
  headerComplete bs && decide (bs.length = headerLength (kindOf bs) + bodyLength bs + 4)
    && decide (bs.drop (bs.length - 4) = freshTrailer (bs.take (bs.length - 4)))

/-- Whether a cycle frame is long: its header announces more than 96 slots (R6). That a frame which ends after its slot
count but before its header is complete announces nothing, and is not long, is the model's choice (log 7). -/
def longFrame (bs : List Byte) : Bool :=
  headerComplete bs && decide (kindOf bs = .cycle) && decide (96 < slotCount bs)

/-! ## Slot records (R190, R191) -/

/-- Where slot `i` begins in a cycle frame. -/
def slotOffset (i : Nat) : Nat := 4 + 5 * i

/-- The kind code of R190. -/
def slotKindOf : Nat → Option SlotKind
  | 1 => some .sample
  | 2 => some .command
  | 3 => some .echo
  | 4 => some .hold
  | 5 => some .status
  | _ => none

/-- The node quality code; 3 to 255 read as FAILED (R191). -/
def qualityOf : Nat → Quality
  | 0 => .good
  | 1 => .suspect
  | _ => .failed

/-- The slot record in five bytes; none when its kind code names no kind (R191). -/
def parseSlot : List Byte → Option Slot
  | b0 :: b1 :: b2 :: b3 :: b4 :: _ =>
    (slotKindOf (b1.toNat % 16)).map fun k =>
      { node := b0.toNat, channel := b1.toNat / 16, kind := k, quality := qualityOf b2.toNat,
        value := BitVec.ofNat 16 (fromBe16 b3 b4) }
  | _ => none

/-- Slot `i` of a cycle frame, read only among the first 96 and among those the header announces (R6). In a frame
shorter than its header announces, a slot whose five bytes run into the last four still passes as a slot; that is the
model's choice (R7; log 7). -/
def slotAt (bs : List Byte) (i : Nat) : Option Slot :=
  if i < 96 ∧ i < slotCount bs then parseSlot (bs.drop (slotOffset i)) else none

/-- The slots of a cycle frame that the part reads from position `a` up to but not with `b`, in slot order (R6, R8). -/
def slotsBetween (bs : List Byte) (a b : Nat) : List Slot :=
  ((List.range (min b (min 96 (slotCount bs)))).drop a).filterMap (slotAt bs)

/-! ## Request records and reply places (R192, R193) -/

/-- Where request record `i` begins in a service frame. -/
def requestOffset (i : Nat) : Nat := 3 + 16 * i

/-- Where reply place `i` begins in a service frame. -/
def replyOffset (bs : List Byte) (i : Nat) : Nat := 3 + 16 * requestPlaces bs + 17 * i

/-- The sixteen bytes of request record `i`, when the frame has it. In a frame shorter than its header announces, a
record that runs into the last four bytes is still a record; that is the model's choice (R17, R168; log 7). -/
def requestAt (bs : List Byte) (i : Nat) : Option (List Byte) :=
  let r := (bs.drop (requestOffset i)).take 16
  if i < requestPlaces bs ∧ r.length = 16 then some r else none

/-- A blanked request record (R193). -/
def blankRequest : List Byte := byte 255 :: List.replicate 15 0

/-- Whether reply place `i` is there, whole and free (R193). In a frame shorter than its header announces, a place that
runs into the last four bytes is still a place; that is the model's choice (R17, R168; log 7). -/
def freePlaceAt (bs : List Byte) (i : Nat) : Bool :=
  decide (i < replyPlaces bs) && decide (replyOffset bs i + 17 ≤ bs.length)
    && decide (byteAt bs (replyOffset bs i) = 255)

/-- The status codes of R192. -/
def statusCode : Status → Nat
  | .done => 0
  | .started => 1
  | .busy => 2
  | .state => 3
  | .range => 4
  | .locked => 5
  | .unknown => 6
  | .noWindow => 7
  | .check => 8

/-- How many parts a reply has: one for each twelve data bytes begun, at least one (R192). -/
def partCount (r : Reply) : Nat := max 1 (ceilDiv r.data.length 12)

/-- The data bytes of part `n`, counted from 0. -/
def partData (r : Reply) (n : Nat) : List Byte := (r.data.drop (12 * n)).take 12

/-- The seventeen bytes of a reply part, with zeros beyond the data length (R192, R193). -/
def replyPart (node : Nat) (tag : Byte) (r : Reply) (n : Nat) : List Byte :=
  let d := partData r n
  [byte node, tag, byte (statusCode r.status), byte ((n + 1) * 16 + partCount r), byte d.length]
    ++ (d ++ List.replicate (12 - d.length) 0)

/-- The reply a BUSY mark stands for: one part, status BUSY, no data (R168). -/
def busyReply : Reply := { status := .busy, data := [] }

/-! ## Encoding of data (R192; log 12 to log 16) -/

/-- A flag or other field of two values (R192). -/
def encFlag (b : Bool) : List Byte := [if b then 1 else 0]

/-- A one-byte field that may be absent: 255 (R192). -/
def encOpt8 : Option Nat → List Byte
  | none => [255]
  | some n => [byte n]

/-- An unsigned two-byte field that may be absent: 65,535 (R192). -/
def encOpt16 : Option Nat → List Byte
  | none => be16 65535
  | some n => be16 n

/-- A signed two-byte field that may be absent: −32,768 (R192). -/
def encOptInt16 : Option Int → List Byte
  | none => be16 32768
  | some z => be16Int z

/-- A four-byte field that may be absent: its largest value (R192). -/
def encOpt32 : Option Nat → List Byte
  | none => be32 4294967295
  | some n => be32 n

/-- A two-byte field whose range fills its width, preceded by a presence byte (R192; log 15 for the two bytes
of an absent one). -/
def encPresent16 : Option Nat → List Byte
  | none => 0 :: be16 0
  | some n => 1 :: be16 n

/-- A cycle number that may be absent (R192). -/
def encCycle (c : Option CycleNo) : List Byte := encPresent16 (c.map BitVec.toNat)

end Sys2Proof.Machine
end

