-- ==== Sys2Proof/Machine/Roles.lean ====
section
/-! DEFINITION. The roles of R21: kind, range, signedness and wire number, and how a slot value is read in a
role's terms (R26, R138, R191). -/

namespace Sys2Proof.Machine

/-- Whether a role is a command role (R21). -/
def Role.isCommand : Role → Bool
  | .zoneTempSp _ | .zoneFanSp _ | .zoneBurnerEn _ | .exhaustSp | .chillWaterSp _ | .speedRef => true
  | .webSpeed | .impression | .splice | .lineBreak | .zoneTemp _ | .zoneFlame _ | .exhaustFlow | .lel _
  | .breakSensor _ | .webExitTemp | .chillWebTemp _ | .liveCoverage => false

/-- Whether a role is binary (R21). -/
def Role.isBinary : Role → Bool
  | .impression | .lineBreak | .zoneFlame _ | .breakSensor _ | .zoneBurnerEn _ => true
  | .webSpeed | .splice | .zoneTemp _ | .exhaustFlow | .lel _ | .webExitTemp | .chillWebTemp _ | .liveCoverage
  | .zoneTempSp _ | .zoneFanSp _ | .exhaustSp | .chillWaterSp _ | .speedRef => false

/-- Whether a role's slot value is a two's complement number (R191). -/
def Role.isSigned : Role → Bool
  | .zoneTemp _ | .webExitTemp | .chillWebTemp _ | .zoneTempSp _ | .chillWaterSp _ => true
  | .webSpeed | .impression | .splice | .lineBreak | .zoneFlame _ | .exhaustFlow | .lel _ | .breakSensor _
  | .liveCoverage | .zoneFanSp _ | .zoneBurnerEn _ | .exhaustSp | .speedRef => false

/-- The lowest value of a role's range (R21). -/
def Role.lowest : Role → Int
  | .zoneTemp _ | .webExitTemp | .chillWebTemp _ | .zoneTempSp _ | .chillWaterSp _ => -400
  | .webSpeed | .impression | .splice | .lineBreak | .zoneFlame _ | .exhaustFlow | .lel _ | .breakSensor _
  | .liveCoverage | .zoneFanSp _ | .zoneBurnerEn _ | .exhaustSp | .speedRef => 0

/-- The highest value of a role's range (R21). -/
def Role.highest : Role → Int
  | .webSpeed | .speedRef => 1500
  | .impression | .lineBreak | .zoneFlame _ | .breakSensor _ | .zoneBurnerEn _ => 1
  | .splice => 65535
  | .zoneTemp _ | .webExitTemp | .zoneTempSp _ => 4500
  | .exhaustFlow | .exhaustSp => 60000
  | .lel _ | .zoneFanSp _ | .chillWebTemp _ | .chillWaterSp _ => 1000
  | .liveCoverage => 12000

/-- A role's position in the table of R21, from 0 (R192). -/
def Role.number : Role → Nat
  | .webSpeed => 0
  | .impression => 1
  | .splice => 2
  | .lineBreak => 3
  | .zoneTemp _ => 4
  | .zoneFlame _ => 5
  | .exhaustFlow => 6
  | .lel _ => 7
  | .breakSensor _ => 8
  | .webExitTemp => 9
  | .chillWebTemp _ => 10
  | .liveCoverage => 11
  | .zoneTempSp _ => 12
  | .zoneFanSp _ => 13
  | .zoneBurnerEn _ => 14
  | .exhaustSp => 15
  | .chillWaterSp _ => 16
  | .speedRef => 17

/-- A role's index on the wire, 1 to 4, or 0 for an unindexed role (R192). -/
def Role.wireIndex : Role → Nat
  | .zoneTemp k | .zoneFlame k | .zoneTempSp k | .zoneFanSp k | .zoneBurnerEn k => k.val + 1
  | .lel a => a.val + 1
  | .breakSensor b => b.val + 1
  | .chillWebTemp j | .chillWaterSp j => j.val + 1
  | .webSpeed | .impression | .splice | .lineBreak | .exhaustFlow | .webExitTemp | .liveCoverage | .exhaustSp
  | .speedRef => 0

/-- A wire index counted from 0, when it lies in 1 to `n`. -/
def wireFin (n : Nat) (i : Nat) : Option (Fin n) := if h : 1 ≤ i ∧ i ≤ n then some ⟨i - 1, by omega⟩ else none

/-- The role a number and an index name; none outside their ranges (R193). -/
def roleOfWire (n i : Nat) : Option Role :=
  match n with
  | 0 => if i = 0 then some .webSpeed else none
  | 1 => if i = 0 then some .impression else none
  | 2 => if i = 0 then some .splice else none
  | 3 => if i = 0 then some .lineBreak else none
  | 4 => (wireFin 4 i).map .zoneTemp
  | 5 => (wireFin 4 i).map .zoneFlame
  | 6 => if i = 0 then some .exhaustFlow else none
  | 7 => (wireFin 2 i).map .lel
  | 8 => (wireFin 4 i).map .breakSensor
  | 9 => if i = 0 then some .webExitTemp else none
  | 10 => (wireFin 3 i).map .chillWebTemp
  | 11 => if i = 0 then some .liveCoverage else none
  | 12 => (wireFin 4 i).map .zoneTempSp
  | 13 => (wireFin 4 i).map .zoneFanSp
  | 14 => (wireFin 4 i).map .zoneBurnerEn
  | 15 => if i = 0 then some .exhaustSp else none
  | 16 => (wireFin 3 i).map .chillWaterSp
  | 17 => if i = 0 then some .speedRef else none
  | _ => none

/-- The two bytes of a role (R192). -/
def encRole (r : Role) : List Byte := [byte r.number, byte r.wireIndex]

/-- The two bytes of a role that may be absent. -/
def encOptRole : Option Role → List Byte
  | none => be16 65535
  | some r => encRole r

/-- The number a slot value carries for a role (R191). -/
def readWord (r : Role) (w : Word) : Int := if r.isSigned then w.toInt else (w.toNat : Int)

/-- A number taken to the nearer end of a role's range when it lies outside (R26, R138). -/
def clampToRange (r : Role) (n : Int) : Int := max r.lowest (min r.highest n)

/-- A slot value read in a role's terms: a binary role carries 0 or 1, any other is clamped (R26, R138). -/
def readValue (r : Role) (w : Word) : Int :=
  if r.isBinary then (if readWord r w = 0 then 0 else 1) else clampToRange r (readWord r w)

/-- Whether reading a slot value clamped it; the reading of a binary value is no clamp (R26). -/
def wasClamped (r : Role) (w : Word) : Bool :=
  !r.isBinary && (decide (readWord r w < r.lowest) || decide (r.highest < readWord r w))

/-- A value in a role's range, as two bytes in the role's signedness (R191). -/
def encValue (z : Int) : List Byte := be16Int z

/-- A value of a role that may be absent, in the encoding its range asks for (R192). -/
def encRoleValue (r : Role) (v : Option Int) : List Byte :=
  if r = .splice then encPresent16 (v.map Int.toNat)
  else if r.isSigned then encOptInt16 v else encOpt16 (v.map Int.toNat)

/-! ## What a role asks of the commissioned counts (R23 INDEX) -/

/-- Whether a role's index lies within the commissioned counts (R23). -/
def Role.withinCounts (c : Scalars) : Role → Bool
  | .zoneTemp k | .zoneFlame k | .zoneTempSp k | .zoneFanSp k | .zoneBurnerEn k => decide (k.val < c.zones)
  | .chillWebTemp j | .chillWaterSp j => decide (j.val < c.circuits)
  | .lel a => decide (a.val < c.analyzers)
  | .breakSensor b => decide (b.val < c.sensors)
  | .webSpeed | .impression | .splice | .lineBreak | .exhaustFlow | .webExitTemp | .liveCoverage | .exhaustSp
  | .speedRef => true

end Sys2Proof.Machine
end

