-- ==== Sys2Proof/Machine/State.lean ====
section
/-! DEFINITION. The state of the part with its queue of waiting commands, the two ways a step could stop, and the
machine right after reset. -/

namespace Sys2Proof.Machine

/-- The reasons a step could stop with a fault. There is none: the manual describes no event at which the part
stops (a refused request is a reply, a trip is a state). -/
inductive Fault where
deriving DecidableEq, Repr

/-- The reasons a command could have no meaning. -/
inductive Refusal where
  /-- Raised by an arm of `exec` whose command has not been given its meaning yet. Safe: nothing is claimed. No
  arm raises it. -/
  | notModelled (mnemonic : String)
deriving DecidableEq, Repr

/-- The whole part: everything the manual gives it, and the queue of commands that wait. -/
structure State where
  /-- Commands that wait, first in first out (model's own). -/
  pending : List Instr
  /-- The part's own time base, µs (R12). -/
  now : Nat
  /-- How many open orders have been taken (model's own: the argument of `Config.reactionOrder`). -/
  choices : Nat
  phase : Phase
  pins : Pins
  line : LineIf
  comm : CommStore
  board : Board
  banks : Four Bank
  sched : SchedUnit
  solv : SolvUnit
  web : WebSeq
  dryer : DryerUnit
  cmds : CmdTable
  log : IncidentLog
  agent : Agent
deriving DecidableEq, Repr

/-- The part right after a power-on reset: the load at start is running, every block holds its values after
reset, and the store has never been written (R188; logs 8 to 10). -/
def State.reset : State :=
  { pending := []
    now := 0
    choices := 0
    phase := .loading
    pins := { breakIn := .low, resetAsserted := false }
    line := LineIf.afterReset
    comm := { stored := none, inForce := none, working := CommRecord.uncommissioned }
    board := Board.afterReset
    banks := Four.fill Bank.cleared
    sched := SchedUnit.afterReset
    solv := SolvUnit.afterReset
    web := WebSeq.afterReset
    dryer := DryerUnit.afterReset
    cmds := CmdTable.afterReset
    log := IncidentLog.afterReset
    agent := Agent.afterReset { powerOn := true, pin := false, service := false } }

end Sys2Proof.Machine
end

