-- ==== Sys2Proof/Machine/Lookup.lean ====
section
/-! DEFINITION. How a block reads what another holds: keyed lists, the commissioning in force, map entries,
records, command entries, the ACTIVE bank. -/

namespace Sys2Proof.Machine

/-! ## Keyed lists -/

/-- What a keyed list holds for a key: the first entry. -/
def lookupKey {κ α : Type} [DecidableEq κ] (k : κ) : List (κ × α) → Option α
  | [] => none
  | (k', x) :: rest => if k' = k then some x else lookupKey k rest

/-- The entry of a key changed, every other entry as it stands. -/
def updateKey {κ α : Type} [DecidableEq κ] (k : κ) (f : α → α) : List (κ × α) → List (κ × α)
  | [] => []
  | (k', x) :: rest => if k' = k then (k', f x) :: rest else (k', x) :: updateKey k f rest

/-! ## Commissioning in force -/

/-- The scalars in force; none while UNCOMMISSIONED (R181). -/
def State.scalars? (s : State) : Option Scalars := s.comm.inForce.map CommRecord.scalars

/-- The Slot Map in force; empty while UNCOMMISSIONED, when every slot is unmapped (R24). -/
def State.map (s : State) : List SlotEntry :=
  match s.comm.inForce with
  | some r => r.map
  | none => []

/-- Whether the part is COMMISSIONED (R181). -/
def State.commissioned (s : State) : Bool := s.comm.inForce.isSome

/-- The zone count in force, 0 while UNCOMMISSIONED (R55). -/
def State.zoneCount (s : State) : Nat :=
  match s.scalars? with
  | some c => c.zones
  | none => 0

/-- The circuit count in force, 0 while UNCOMMISSIONED (R55). -/
def State.circuitCount (s : State) : Nat :=
  match s.scalars? with
  | some c => c.circuits
  | none => 0

/-- The service node, also the status node: the commissioned address, or 0 (R9, R17). -/
def State.node (s : State) : Nat :=
  match s.scalars? with
  | some c => c.node
  | none => 0

/-- The silence limit in force, ms (R13). -/
def State.silenceLimit (s : State) : Nat :=
  match s.scalars? with
  | some c => c.silence
  | none => 500

/-- The alert threshold in force (R164). -/
def State.alertThreshold (s : State) : Threshold :=
  match s.scalars? with
  | some c => c.threshold
  | none => .process

/-- The alert gap in force, ms (R164). -/
def State.alertGap (s : State) : Nat :=
  match s.scalars? with
  | some c => c.gap
  | none => 0

/-- A deadline `ms` milliseconds from now. -/
def State.after (s : State) (ms : Nat) : Nat := s.now + 1000 * ms

/-! ## The Slot Map (R20) -/

/-- Whether an entry is a COMMAND entry. -/
def SlotEntry.isCommand (e : SlotEntry) : Bool :=
  match e.use with
  | .command _ _ _ _ => true
  | .sample _ | .echo _ | .hold => false

/-- Whether an entry is a SAMPLE entry. -/
def SlotEntry.isSample (e : SlotEntry) : Bool :=
  match e.use with
  | .sample _ => true
  | .command _ _ _ _ | .echo _ | .hold => false

/-- Whether an entry is an ECHO entry. -/
def SlotEntry.isEcho (e : SlotEntry) : Bool :=
  match e.use with
  | .echo _ => true
  | .sample _ | .command _ _ _ _ | .hold => false

/-- Whether an entry is a HOLD entry. -/
def SlotEntry.isHold (e : SlotEntry) : Bool :=
  match e.use with
  | .hold => true
  | .sample _ | .command _ _ _ _ | .echo _ => false

/-- The kind of an entry, which with node and channel is its key (R20). -/
def SlotEntry.kind (e : SlotEntry) : SlotKind :=
  match e.use with
  | .sample _ => .sample
  | .command _ _ _ _ => .command
  | .echo _ => .echo
  | .hold => .hold

/-- The staleness limit of a SAMPLE or ECHO entry (R20). -/
def SlotEntry.staleness? (e : SlotEntry) : Option Nat :=
  match e.use with
  | .sample n => some n
  | .echo n => some n
  | .command _ _ _ _ | .hold => none

/-- The entry with a key (R20). -/
def entryAt (m : List SlotEntry) (node channel : Nat) (k : SlotKind) : Option SlotEntry :=
  m.find? fun e => decide (e.node = node) && decide (e.channel = channel) && decide (e.kind = k)

/-- The COMMAND entry of a role. -/
def commandEntry (m : List SlotEntry) (r : Role) : Option SlotEntry :=
  m.find? fun e => decide (e.role = r) && e.isCommand

/-- The ECHO entry of a role. -/
def echoEntry (m : List SlotEntry) (r : Role) : Option SlotEntry := m.find? fun e => decide (e.role = r) && e.isEcho

/-- The HOLD entry of a role. -/
def holdEntry (m : List SlotEntry) (r : Role) : Option SlotEntry := m.find? fun e => decide (e.role = r) && e.isHold

/-- The SAMPLE entry of a role. -/
def sampleEntry (m : List SlotEntry) (r : Role) : Option SlotEntry :=
  m.find? fun e => decide (e.role = r) && e.isSample

/-- The entry whose slots feed a record (R25). -/
def recordEntry (m : List SlotEntry) (k : RecKey) : Option SlotEntry :=
  if k.echo then echoEntry m k.role
  else if k.role = .speedRef then commandEntry m k.role
  else sampleEntry m k.role

/-- A record's staleness limit: its entry's, and WEB_SPEED's for SPEED_REF (R25). -/
def stalenessLimit (m : List SlotEntry) (k : RecKey) : Nat :=
  let e := if k.echo then echoEntry m k.role
    else if k.role = .speedRef then sampleEntry m .webSpeed else sampleEntry m k.role
  match e with
  | some e => e.staleness?.getD 0
  | none => 0

/-- The last captured slot of an entry's key: each role takes the last occurrence (R8, R26). -/
def lastSlotFor (e : SlotEntry) (slots : List Slot) : Option Slot :=
  (slots.filter fun t => decide (t.node = e.node) && decide (t.channel = e.channel)
    && decide (t.kind = e.kind)).getLast?

/-! ## Sample Board records -/

/-- The record of a sample role or of SPEED_REF. -/
def Board.rec? (b : Board) (r : Role) : Option BoardRec := lookupKey ⟨r, false⟩ b.records

/-- The ECHO record of a command role. -/
def Board.echo? (b : Board) (r : Role) : Option BoardRec := lookupKey ⟨r, true⟩ b.records

/-- Quality of a role's record; a role without a record reads as LOST (R25). -/
def Board.quality (b : Board) (r : Role) : RecQuality :=
  match b.rec? r with
  | some x => x.quality
  | none => .lost

/-- The value of a role's record while it is GOOD or HELD. -/
def Board.current (b : Board) (r : Role) : Option Int :=
  match b.rec? r with
  | some x => if x.quality = .lost then none else x.value
  | none => none

/-- The value of a role's record while it is GOOD. -/
def Board.fresh (b : Board) (r : Role) : Option Int :=
  match b.rec? r with
  | some x => if x.quality = .good then x.value else none
  | none => none

/-- The last good value of a role's record. -/
def Board.lastGood (b : Board) (r : Role) : Option Int :=
  match b.rec? r with
  | some x => x.lastGood
  | none => none

/-- Both speed records LOST (R34). -/
def Board.speedsLost (b : Board) : Bool :=
  decide (b.quality .webSpeed = .lost) && decide (b.quality .speedRef = .lost)

/-! ## Command Table entries -/

/-- The entry of a command role. -/
def CmdTable.entry? (t : CmdTable) (r : Role) : Option CmdEntry := lookupKey r t.entries

/-- The last forwarded value of a command role (R148). -/
def CmdTable.lastValue (t : CmdTable) (r : Role) : Option Int :=
  match t.entry? r with
  | some e => e.last.map Forwarded.value
  | none => none

/-! ## Recipe banks -/

/-- The bank numbers in order. -/
def bankNumbers : List BankNo := [0, 1, 2, 3]

/-- The zones in order. -/
def zoneNumbers : List Zone := [0, 1, 2, 3]

/-- The circuits in order. -/
def circuitNumbers : List Circuit := [0, 1, 2]

/-- Whether a bank is PENDING. -/
def BankState.isPending : BankState → Bool
  | .pending _ => true
  | .empty | .editing | .checking _ _ | .sealed | .active => false

/-- The ACTIVE bank (R42). -/
def activeBank (q : Four Bank) : Option BankNo := bankNumbers.find? fun b => decide ((q.get b).state = .active)

/-- The PENDING bank (R42). -/
def pendingBank (q : Four Bank) : Option BankNo := bankNumbers.find? fun b => (q.get b).state.isPending

/-- The recipe of the ACTIVE bank. -/
def State.activeRecipe (s : State) : Option Recipe := (activeBank s.banks).map fun b => (s.banks.get b).recipe

/-- A bank's state replaced. -/
def setBankState (q : Four Bank) (b : BankNo) (st : BankState) : Four Bank :=
  q.set b { q.get b with state := st }

/-- The configured zones, in order. -/
def State.zones (s : State) : List Zone := zoneNumbers.filter fun k => decide (k.val < s.zoneCount)

/-- The configured circuits, in order. -/
def State.circuits (s : State) : List Circuit := circuitNumbers.filter fun j => decide (j.val < s.circuitCount)

/-- Whether a dryer state is PURGED or FIRING. -/
def DryerState.burning : DryerState → Bool
  | .purged | .firing => true
  | .unpurged | .purging | .tripped => false

end Sys2Proof.Machine
end

