-- ==== Sys2Proof/Machine/Ops.lean ====
section
/-! DEFINITION. The operations several commands share: offering an incident record and judging ALERT, discarding
the resume record, a changeover and its events, a change of the dryer state, the onset of a safety condition. -/

namespace Sys2Proof.Machine

/-! ## Incident Log (chapter 9) -/

/-- The class of a code (R154). -/
def IncidentCode.cls : IncidentCode → IncidentClass
  | .lelMeasuredHigh | .lelPredictedHigh | .exhaustLow | .exhaustUnresponsive | .flameWithoutEnable
  | .lineSilent => .safety
  | .webBreak | .secondBreak | .zoneDeviation | .chillShortfall | .dryerLimited | .speedLost
  | .actuatorUnresponsive | .solventMismatch | .lelUnmonitored | .commissioningInvalid | .purgeExpired => .process
  | .bankChecked | .bankActivated | .resumeDiscarded | .storeFinished | .analyzerDisagree | .frameErrors
  | .lateForward | .speedCapped | .tripReset | .purgeDone => .advisory

/-- The rank of a class: SAFETY above PROCESS above ADVISORY (R154). -/
def IncidentClass.rank : IncidentClass → Nat
  | .advisory => 1
  | .process => 2
  | .safety => 3

/-- The lowest class rank that qualifies under a threshold; none qualifies under NONE (R162). -/
def Threshold.rank : Threshold → Option Nat
  | .none => Option.none
  | .advisory => some 1
  | .process => some 2
  | .safety => some 3

/-- Whether a record is qualifying (R162). -/
def qualifies (t : Threshold) (r : Incident) : Bool :=
  match t.rank with
  | none => false
  | some n => decide (n ≤ r.code.cls.rank)

/-- The most records the queue holds (R157). -/
def queueLimit : Nat := 32

/-- The judgement of ALERT (R162, R163). -/
def judgeAlert (s : State) : State :=
  let any := s.log.queue.any (qualifies s.alertThreshold)
  if s.log.alert then
    if any then s
    else { s with log.alert := false, log.gap := if s.alertGap = 0 then none else some (s.after s.alertGap) }
  else
    match s.log.gap with
    | some _ => s
    | none => if any then { s with log.alert := true } else s

/-- The queue without its oldest record of a class. -/
def dropOldest (c : IncidentClass) : List Incident → List Incident
  | [] => []
  | r :: rest => if r.code.cls = c then rest else r :: dropOldest c rest

/-- Whether the queue holds a record of a class. -/
def holdsClass (c : IncidentClass) (q : List Incident) : Bool := q.any fun r => decide (r.code.cls = c)

/-- The class whose oldest record a new record of class `c` displaces from a full queue (R158). -/
def displaced (c : IncidentClass) (q : List Incident) : Option IncidentClass :=
  match c with
  | .advisory => none
  | .process => if holdsClass .advisory q then some .advisory else none
  | .safety =>
    if holdsClass .advisory q then some .advisory
    else if holdsClass .process q then some .process else none

/-- Admission, displacement or loss of a record that has passed the rate limit (R157 to R159). -/
def placeRecord (r : Incident) (s : State) : State :=
  if s.log.queue.length < queueLimit then judgeAlert { s with log.queue := s.log.queue ++ [r] }
  else
    match displaced r.code.cls s.log.queue with
    | some c =>
      judgeAlert { s with log.queue := dropOldest c s.log.queue ++ [r], log.dropped := bump32 s.log.dropped }
    | none => { s with log.dropped := bump32 s.log.dropped }

/-- Whether the rate limit discards an offer (R156). -/
def rateLimited (c : IncidentCode) (l : IncidentLog) : Bool :=
  match c with
  | .frameErrors => decide (0 < l.quietErrors)
  | .lateForward => decide (0 < l.quietLate)
  | _ => false

/-- The quiet counter a passing offer sets (R156). -/
def startQuiet (c : IncidentCode) (l : IncidentLog) : IncidentLog :=
  match c with
  | .frameErrors => { l with quietErrors := 1000 }
  | .lateForward => { l with quietLate := 1000 }
  | _ => l

/-- The record an offer becomes at its arrival (R154, R155). -/
def incidentOf (c : IncidentCode) (sub : Subject) (v : IncidentValue) (s : State) : Incident :=
  { seq := s.log.nextSeq, cycle := s.line.refreshCycle, code := c, subject := sub, value := v,
    web := s.web.state, dryer := s.dryer.state }

/-- A block offers a record to the Incident Log (R154 to R159). -/
def offer (c : IncidentCode) (sub : Subject) (v : IncidentValue) (s : State) : State :=
  if rateLimited c s.log then s
  else
    placeRecord (incidentOf c sub v s) { s with log := { startQuiet c s.log with nextSeq := s.log.nextSeq + 1 } }

/-- The refresh as the log takes it: the quiet counters decrease by the cycle step (R156). -/
def quietDown (step : Nat) (s : State) : State :=
  { s with log.quietErrors := s.log.quietErrors - step, log.quietLate := s.log.quietLate - step }

/-! ## The resume record (R107, R108) -/

/-- A standing resume record is discarded with a cause; a RESUMING web goes to THREADING (R107). -/
def discardResume (c : DiscardCause) (s : State) : State :=
  match s.web.record with
  | none => s
  | some r =>
    let w := { s.web with record := none }
    let w := if s.web.state = .resuming then { w with state := .threading, timer := none } else w
    offer .resumeDiscarded (.bank r.bank) (.cause c) { s with web := w }

/-! ## Changeover (R51 to R53, R113) -/

/-- The banks after a changeover to `b`: the former ACTIVE bank becomes SEALED (R53). -/
def changeoverBanks (b : BankNo) (q : Four Bank) : Four Bank :=
  let q := match activeBank q with
    | some a => setBankState q a .sealed
    | none => q
  setBankState q b .active

/-- The Web Sequencer is notified that `b` is ACTIVE (R113). -/
def notifyChangeover (b : BankNo) (s : State) : State :=
  match s.web.record with
  | some r => if r.bank = b then s else discardResume .changeover s
  | none => s

/-- The number of a bank that may be absent, as an incident value. -/
def bankValue : Option BankNo → IncidentValue
  | none => .absent
  | some b => .num (b.val : Int)

/-- Bank `b` becomes ACTIVE (R53). -/
def changeover (b : BankNo) (s : State) : State :=
  notifyChangeover b
    (offer .bankActivated (.bank b) (bankValue (activeBank s.banks)) { s with banks := changeoverBanks b s.banks })

/-- A changeover event: a bank PENDING with that mode changes over, otherwise the event is lost (R51, R52). -/
def changeoverEvent (m : PendingMode) (s : State) : State :=
  match pendingBank s.banks with
  | some b => if (s.banks.get b).state = .pending m then changeover b s else s
  | none => s

/-! ## The dryer state (R116, R117, R126, R127) -/

/-- Whether a change of the dryer state is announced to the Web Sequencer (R108, R117). -/
def announced (old new : DryerState) : Bool :=
  old.burning && (decide (new = .unpurged) || decide (new = .tripped))

/-- A change of the dryer state: PERMIT follows at once, and a change that leaves PURGED or FIRING for UNPURGED
or TRIPPED discards a standing resume record (R108, R116, R117). -/
def setDryer (new : DryerState) (s : State) : State :=
  let t := { s with dryer.state := new, dryer.permit := new.burning }
  if announced s.dryer.state new then discardResume .dryer t else t

/-- The code of a safety condition's record: the condition's name (R119). -/
def SafetyCondition.code : SafetyCondition → IncidentCode
  | .lelMeasuredHigh => .lelMeasuredHigh
  | .lelPredictedHigh => .lelPredictedHigh
  | .exhaustLow => .exhaustLow
  | .exhaustUnresponsive => .exhaustUnresponsive
  | .flameWithoutEnable => .flameWithoutEnable
  | .lineSilent => .lineSilent

/-- A number that may be absent, as an incident value. -/
def numValue : Option Int → IncidentValue
  | none => .absent
  | some n => .num n

/-- The capture an onset fills, from the state at the onset (R127; log 19 for the web state). -/
def captureOf (c : SafetyCondition) (sub : Subject) (v : Option Int) (s : State) : Capture :=
  { condition := c, subject := sub, value := v, before := s.dryer.state, web := s.web.state,
    cycle := s.line.refreshCycle, trip := s.solv.eff.map EffParams.trip, qFloor := s.solv.eff.map EffParams.qFloor,
    mode := s.board.mode, accumulator := s.dryer.accumulator }

/-- The capture is filled if absent; otherwise the further-trips count increments (R126, R127). -/
def fillCapture (c : Capture) (d : DryerUnit) : DryerUnit :=
  match d.capture with
  | none => { d with capture := some c }
  | some _ => { d with furtherTrips := satAdd 65535 d.furtherTrips 1 }

/-- Every released flag cleared, as a trip does (R126, R152). -/
def clearReleased (t : CmdTable) : CmdTable :=
  { t with entries := t.entries.map fun p => (p.1, { p.2 with released := false }) }

/-- The onset of a safety condition: a trip, or a further trip when the dryer is TRIPPED (R126). -/
def onset (c : SafetyCondition) (sub : Subject) (v : Option Int) (s : State) : State :=
  if s.dryer.state = .tripped then
    offer c.code sub (numValue v) { s with dryer.furtherTrips := satAdd 65535 s.dryer.furtherTrips 1 }
  else
    let cap := captureOf c sub v s
    let t := setDryer .tripped s
    let t := { t with dryer := fillCapture cap { t.dryer with hold := none } }
    let t := offer c.code sub (numValue v) t
    { t with cmds := clearReleased t.cmds }

/-! ## Elapsed time -/

/-- The time base after `µs` microseconds more. -/
def elapse (us : Nat) (s : State) : State := { s with now := s.now + us }

/-- The time base when a timer with this deadline has run out (log 2). -/
def reachDeadline (deadline : Nat) (s : State) : State := { s with now := max s.now deadline }

end Sys2Proof.Machine
end

