-- ==== Sys2Proof/Machine/SampleBoard.lean ====
section
/-! DEFINITION. The Sample Board (chapter 2): taking samples at a board refresh, ageing, the derived figures, its
two conditions, and the rebuild at a STORE completion. -/

namespace Sys2Proof.Machine

/-! ## Records (R25 to R30) -/

/-- A record that a GOOD slot updates (R26, R30). -/
def updateRec (r : Role) (w : Word) (x : BoardRec) : BoardRec :=
  { value := some (readValue r w), quality := .good, age := 0, lastGood := some (readValue r w),
    clamps := if wasClamped r w then satAdd 65535 x.clamps 1 else x.clamps }

/-- A record that a refresh of step `step` does not update (R27). -/
def ageRec (limit step : Nat) (x : BoardRec) : BoardRec :=
  let age := satAdd 255 x.age step
  match x.lastGood with
  | none => { x with age := age, quality := .lost, value := none }
  | some v =>
    if age ≤ limit then { x with age := age, quality := .held, value := some v }
    else { x with age := age, quality := .lost, value := none }

/-- The arriving SPEED_REF value kept for the refresh's cycle number (R29). -/
def keptValue (s : State) (r : Refresh) : Option Word :=
  match r.cycle with
  | some c => lookupKey c s.cmds.kept
  | none => none

/-- Whether a key is that of the SPEED_REF record, which takes the kept arriving value (R29). -/
def RecKey.isSpeedRef (k : RecKey) : Bool := decide (k.role = .speedRef) && !k.echo

/-- The captured slot that feeds a record, whatever its quality (R26). -/
def feedingSlot (s : State) (r : Refresh) (k : RecKey) : Option Slot :=
  match recordEntry s.map k with
  | some e => lastSlotFor e r.slots
  | none => none

/-- The GOOD value a refresh brings for a record: the slot's, or for SPEED_REF the kept one (R26, R29). -/
def freshWord (s : State) (r : Refresh) (k : RecKey) : Option Word :=
  match feedingSlot s r k with
  | some t =>
    if t.quality = .good then some (if k.isSpeedRef then (keptValue s r).getD t.value else t.value) else none
  | none => none

/-- One record after a refresh (R26, R27). -/
def takeRecord (s : State) (r : Refresh) (k : RecKey) (x : BoardRec) : BoardRec :=
  match freshWord s r k with
  | some w => updateRec k.role w x
  | none => ageRec (stalenessLimit s.map k) r.step x

/-- How many records a refresh clamps (R30). -/
def clampsAt (s : State) (r : Refresh) : Nat :=
  (s.board.records.filter fun p =>
    match freshWord s r p.1 with
    | some w => wasClamped p.1.role w
    | none => false).length

/-- The kept values after a refresh: one whose BACK pass carries no SPEED_REF slot is discarded (R29). -/
def keptAfter (s : State) (r : Refresh) : List (CycleNo × Word) :=
  match r.cycle with
  | some c =>
    if feedingSlot s r ⟨.speedRef, false⟩ = none then s.cmds.kept.filter fun p => !decide (p.1 = c)
    else s.cmds.kept
  | none => s.cmds.kept

/-! ## Derived figures (R33 to R38) -/

/-- A value as a natural number; the roles it is used for have no negative values. -/
def natOf : Option Int → Option Nat := Option.map Int.toNat

/-- The actual speed (R34). -/
def actualSpeed (b : Board) : Nat :=
  match natOf (b.current .webSpeed) with
  | some v => v
  | none =>
    match natOf (b.current .speedRef) with
    | some v => v
    | none => (natOf (b.lastGood .webSpeed)).getD 0

/-- Whether the actual speed is frozen (R34, R93). -/
def Board.frozen (b : Board) : Bool := b.speedsLost && (b.lastGood .webSpeed).isSome

/-- The lead speed (R35). -/
def leadSpeed (b : Board) : Nat :=
  match natOf (b.current .webSpeed), natOf (b.current .speedRef) with
  | some v, some w => max v w
  | some v, none => v
  | none, some w => w
  | none, none => actualSpeed b

/-- The effective measured LEL (R36). -/
def measuredLel (b : Board) : Option Nat :=
  match natOf (b.current (.lel 0)), natOf (b.current (.lel 1)) with
  | some v, some w => some (max v w)
  | some v, none => some v
  | none, some w => some w
  | none, none => none

/-- The analyzer mode (R36). -/
def analyzerMode (b : Board) : AnalyzerMode := if (measuredLel b).isSome then .monitored else .unmonitored

/-- Whether a refresh that turns the board's records from `old` into `new` carries a splice event (R38). -/
def spliceEvent (old new : Board) : Bool :=
  match old.lastGood .splice, new.fresh .splice with
  | some a, some b => decide (a ≠ b)
  | _, _ => false

/-- The derived figures formed from the records (R33). -/
def derive (b : Board) : Board :=
  { b with actual := actualSpeed b, lead := leadSpeed b, measuredLel := measuredLel b, mode := analyzerMode b }

/-- The board takes a refresh in: records, clamp counter and derived figures (R26 to R38). -/
def takeSamples (r : Refresh) (s : State) : State :=
  let records := s.board.records.map fun p => (p.1, takeRecord s r p.1 p.2)
  let b := { s.board with records := records, clamped := satAdd top32 s.board.clamped (clampsAt s r) }
  { s with board := { derive b with splice := spliceEvent s.board b }, cmds.kept := keptAfter s r }

/-- The recipe total: the sum of the eight films (R37). -/
def recipeTotal (x : Recipe) : Nat := x.films.sum

/-- The effective coverage with a bank ACTIVE (R37). -/
def coverageWith (x : Recipe) (b : Board) : Nat :=
  match natOf (b.fresh .liveCoverage) with
  | some v => max (recipeTotal x) v
  | none => recipeTotal x

/-! ## Conditions (R34, R36) -/

/-- Whether a block's ONLINE judgements are made at a refresh: line state ONLINE and COMMISSIONED. -/
def judged (r : Refresh) (s : State) : Bool := decide (r.line = .online) && s.commissioned

/-- SPEED_LOST (R34). -/
def judgeSpeedLost (s : State) : State :=
  if s.board.speedsLost then
    if s.board.speedLost then s
    else offer .speedLost .none (.num (s.board.actual : Int)) { s with board.speedLost := true }
  else { s with board.speedLost := false }

/-- The analyzer count in force. -/
def State.analyzerCount (s : State) : Nat :=
  match s.scalars? with
  | some c => c.analyzers
  | none => 0

/-- LEL_UNMONITORED (R36). -/
def judgeUnmonitored (s : State) : State :=
  if s.analyzerCount ≠ 0 ∧ s.board.mode = .unmonitored then
    if s.board.lelUnmonitored then s
    else offer .lelUnmonitored .none .absent { s with board.lelUnmonitored := true }
  else { s with board.lelUnmonitored := false }

/-- The Sample Board's own judgements at a refresh (R34, R36). -/
def boardReaction (r : Refresh) (s : State) : State :=
  if judged r s then judgeUnmonitored (judgeSpeedLost s) else s

/-! ## Building the board from a map (R25, R31) -/

/-- The records a map asks for, in entry order, SPEED_REF last (R25, R173). -/
def recordKeys (m : List SlotEntry) : List RecKey :=
  (m.filterMap fun e =>
    if e.isSample then some ⟨e.role, false⟩ else if e.isEcho then some ⟨e.role, true⟩ else none)
    ++ (if (commandEntry m .speedRef).isSome then [⟨.speedRef, false⟩] else [])

/-- The records of a map: a role that already had one keeps it whole (R31). -/
def rebuildRecords (m : List SlotEntry) (old : List (RecKey × BoardRec)) : List (RecKey × BoardRec) :=
  (recordKeys m).map fun k => (k, (lookupKey k old).getD BoardRec.fresh)

end Sys2Proof.Machine
end

