-- ==== Sys2Proof/Machine/Sequencer.lean ====
section
/-! DEFINITION. The Web Sequencer (chapter 6): thresholds, break sources, break entry, the transitions of a judged
refresh, the line return, BREAK_IN, and the commands BREAK_IN_CHANGE and RESUME_TIMER_EXPIRY. -/

namespace Sys2Proof.Machine

/-! ## What the sequencer reads (R92, R93) -/

/-- The crawl threshold: the ACTIVE bank's, or 5 m/min (R92). -/
def State.crawl (s : State) : Nat :=
  match s.activeRecipe with
  | some x => x.crawl
  | none => 5

/-- The thread speed: the ACTIVE bank's, or 60 m/min (R92). -/
def State.threadSpeed (s : State) : Nat :=
  match s.activeRecipe with
  | some x => x.thread
  | none => 60

/-- The run threshold: the ACTIVE bank's, or 100 m/min (R92). -/
def State.runThreshold (s : State) : Nat :=
  match s.activeRecipe with
  | some x => x.run
  | none => 100

/-- The break dwell: the ACTIVE bank's, or 0 (R92). -/
def State.breakDwell (s : State) : Nat :=
  match s.activeRecipe with
  | some x => x.dwell
  | none => 0

/-- The resume timeout of the ACTIVE bank; a resume record exists only with one (R92, R109). -/
def State.resumeTimeout (s : State) : Nat :=
  match s.activeRecipe with
  | some x => x.resumeTimeout
  | none => 0

/-- Impression on, off or unknown (R93). -/
def State.impression (s : State) : Option Bool := (s.board.current .impression).map fun v => decide (v = 1)

/-- Whether LINE_BREAK is a source present (R100). -/
def State.lineBreakPresent (s : State) : Bool := decide (s.board.current .lineBreak = some 1)

/-- Whether BREAK_IN is commissioned in LEVEL mode and stands at its active level (R99). -/
def State.pinPresent (s : State) : Bool :=
  match s.scalars? with
  | some c => decide (c.pinMode = .level) && decide (s.pins.breakIn = c.pinLevel)
  | none => false

/-- Whether the break sensors are armed: in RUNNING, and in RESUMING from thread speed on (R100). -/
def State.sensorsArmed (s : State) : Bool :=
  match s.web.state with
  | .running => true
  | .resuming => decide (s.threadSpeed ≤ s.board.actual)
  | .stopped | .threading | .break => false

/-- The break sensors that are sources: armed, and GOOD with value 0 (R100). -/
def State.sensorSources (s : State) : List BreakSource :=
  if s.sensorsArmed then
    (zoneNumbers.filter fun b => decide (s.board.fresh (.breakSensor b) = some 0)).map .sensor
  else []

/-- The break sources present at a judged refresh, in the order of R100. -/
def State.sources (s : State) : List BreakSource :=
  (if s.web.latch || s.pinPresent then [.breakIn] else [])
    ++ ((if s.lineBreakPresent then [.lineBreak] else []) ++ s.sensorSources)

/-! ## Break entry (R102 to R104) -/

/-- The subject a break source gives a record (R154). -/
def BreakSource.subject : BreakSource → Subject
  | .breakIn => .breakIn
  | .lineBreak => .role .lineBreak
  | .sensor b => .role (.breakSensor b)

/-- The last forwarded values of a per-zone role for the configured zones (R106). -/
def zoneSetpoints (s : State) (f : Zone → Role) : Four (Option Int) :=
  Four.ofFn fun k => if k.val < s.zoneCount then s.cmds.lastValue (f k) else none

/-- The resume record a break writes (R106). -/
def newRecord (b : BankNo) (src : BreakSource) (s : State) : ResumeRecord :=
  { bank := b, cycle := s.line.refreshCycle, lead := s.board.lead, source := src,
    temps := zoneSetpoints s .zoneTempSp, fans := zoneSetpoints s .zoneFanSp,
    exhaust := s.cmds.lastValue .exhaustSp, second := 0 }

/-- The resume record after a break from web state `from'` (R103, R104). -/
def recordAtBreak (from' : WebState) (src : BreakSource) (s : State) : Option ResumeRecord :=
  match from' with
  | .running =>
    match activeBank s.banks with
    | some b => if s.dryer.state.burning then some (newRecord b src s) else s.web.record
    | none => s.web.record
  | .resuming => s.web.record.map fun r => { r with second := satAdd 255 r.second 1 }
  | .stopped | .threading | .break => s.web.record

/-- The sequencer after a break entry, before the records are offered (R102). -/
def breakWeb (src : BreakSource) (s : State) : WebSeq :=
  { s.web with
    state := .break
    source := some src
    dwell := s.breakDwell
    exhaustAtBreak := s.cmds.lastValue .exhaustSp
    record := recordAtBreak s.web.state src s
    timer := if s.web.state = .resuming then none else s.web.timer }

/-- The SECOND_BREAK record of a break taken from RESUMING (R104). -/
def offerSecond (from' : WebState) (src : BreakSource) (s : State) : State :=
  match from', s.web.record with
  | .resuming, some r => offer .secondBreak src.subject (.num (r.second : Int)) s
  | _, _ => s

/-- A break is entered from THREADING, RUNNING or RESUMING (R102 to R104). -/
def breakEntry (src : BreakSource) (s : State) : State :=
  let t := offer .webBreak src.subject (.num (s.board.actual : Int)) { s with web := breakWeb src s }
  offerSecond s.web.state src t

/-! ## Entries to the other states (R95, R96, R109, R112) -/

/-- What a STOPPED entry and a line return clear (R95, R112). -/
def clearBreakData (w : WebSeq) : WebSeq := { w with timer := none, dwell := 0, source := none, exhaustAtBreak := none }

/-- Entry to STOPPED, with the AT_STOP changeover event (R95). -/
def stoppedEntry (s : State) : State :=
  changeoverEvent .atStop { s with web := { clearBreakData s.web with state := .stopped } }

/-- Entry to RUNNING consumes a resume record (R96). -/
def runningEntry (s : State) : State := { s with web.state := .running, web.record := none, web.timer := none }

/-- Entry to RESUMING loads the resume timer (R109). -/
def resumingEntry (s : State) : State := { s with web.state := .resuming, web.timer := some s.resumeTimeout }

/-- The resume timer expires: the record is discarded with cause TIMEOUT and the web is THREADING (R110). -/
def resumeExpiry (s : State) : State :=
  let t := discardResume .timeout s
  { t with web.state := .threading, web.timer := none }

/-! ## The judged refresh (R94, R101, R105, R109) -/

/-- Whether a moving web may start or step down at this refresh: not while the speed is frozen (R93, log 18). -/
def State.speedMoves (s : State) : Bool := !s.board.frozen

/-- The actual speed is below the crawl threshold. -/
def State.belowCrawl (s : State) : Bool := decide (s.board.actual < s.crawl)

/-- Impression on and the press at or above the run threshold (R94). -/
def State.runCondition (s : State) : Bool :=
  decide (s.impression = some true) && decide (s.runThreshold ≤ s.board.actual)

/-- The counts of a judged refresh: the dwell in BREAK, the resume timer in RESUMING (R105, R109). -/
def countDown (step : Nat) (w : WebSeq) : WebSeq :=
  match w.state with
  | .break => { w with dwell := w.dwell - step }
  | .resuming => { w with timer := w.timer.map fun n => n - step }
  | .stopped | .threading | .running => w

/-- The one transition of a judged refresh, `src` naming the first source present (R94). -/
def transition (src : Option BreakSource) (s : State) : State :=
  match s.web.state with
  | .stopped =>
    if !s.belowCrawl && s.speedMoves then
      match s.web.record with
      | some _ => resumingEntry s
      | none => { s with web.state := .threading }
    else s
  | .threading =>
    match src with
    | some b => breakEntry b s
    | none =>
      if s.belowCrawl && s.speedMoves then stoppedEntry s
      else if s.runCondition then runningEntry s else s
  | .running =>
    match src with
    | some b => breakEntry b s
    | none =>
      if s.belowCrawl && s.speedMoves then stoppedEntry s
      else if s.impression = some false then { s with web.state := .threading } else s
  | .break => if s.web.dwell = 0 ∧ s.belowCrawl = true then stoppedEntry s else s
  | .resuming =>
    match src with
    | some b => breakEntry b s
    | none =>
      if s.belowCrawl && s.speedMoves then stoppedEntry s
      else if s.runCondition then runningEntry s
      else if s.web.timer = some 0 then resumeExpiry s else s

/-- Whether a BREAK_IN level present in STOPPED or BREAK is counted at this judged refresh: it was not present at the
previous one (R101), or it named the break there and, held on, is counted once (R99). Which refresh makes that one count
is the model's reading (log 20). -/
def State.pinCounts (s : State) : Bool := s.pinPresent && (!s.web.memPin || s.web.countDue)

/-- Whether a LEVEL detector names the break that this judged refresh takes: in a moving web it is the first source of
all (R94, R100). -/
def State.pinNames (s : State) : Bool :=
  match s.web.state with
  | .threading | .running | .resuming => s.pinPresent
  | .stopped | .break => false

/-- How many sources a judged refresh ignores (R99, R101). -/
def ignoredAt (s : State) : Nat :=
  match s.web.state with
  | .stopped | .break =>
    (if s.web.latch then 1 else 0)
      + ((if s.pinCounts then 1 else 0) + (if s.lineBreakPresent && !s.web.memLine then 1 else 0))
  | .threading | .running | .resuming => s.sources.length - 1

/-- A judged refresh (R94, R98, R99, R101, R105, R109). -/
def judgeWeb (step : Nat) (s : State) : State :=
  let w := { s.web with
    ignored := satAdd top32 s.web.ignored (ignoredAt s)
    latch := false
    memLine := s.lineBreakPresent
    memPin := s.pinPresent
    countDue := s.pinNames }
  transition s.sources.head? { s with web := countDown step w }

/-- The line return (R112). -/
def lineReturn (s : State) : State :=
  let w := { clearBreakData s.web with
    memLine := s.lineBreakPresent
    memPin := s.pinPresent
    countDue := false
    returnDue := false }
  if s.belowCrawl then changeoverEvent .atStop { s with web := { w with state := .stopped } }
  else { s with web := { w with state := .threading } }

/-- The hand-over of a splice event, in any line state (R51, R113). -/
def handSplice (s : State) : State := if s.board.splice then changeoverEvent .atSplice s else s

/-- The Web Sequencer's reaction to a board refresh (R92, R112, R113). R113 puts the splice hand-over after the
transition of R94; that it also comes after a line return is the model's choice (log 33). -/
def webReaction (r : Refresh) (s : State) : State :=
  handSplice
    (if judged r s then
      (if r.entry || s.web.returnDue then lineReturn s else judgeWeb r.step s)
    else s)

/-! ## BREAK_IN (R97, R98) -/

/-- An edge taken at once in ONLINE while COMMISSIONED: the latch is consumed (R98). -/
def takeEdge (s : State) : State :=
  let t := { s with web.latch := false }
  match s.web.state with
  | .threading | .running | .resuming => breakEntry .breakIn t
  | .stopped | .break => { t with web.ignored := bump32 s.web.ignored }

/-- Whether a pin going to `l` makes an edge: EDGE mode, from the inactive reference to the active level (R97). -/
def isEdge (l : Level) (s : State) : Bool :=
  match s.scalars? with
  | some c => decide (c.pinMode = .edge) && decide (l = c.pinLevel) && decide (s.web.reference ≠ c.pinLevel)
  | none => false

/-- The BREAK_IN pin goes to level `l`: the reference follows; an edge sets the latch and is taken at once in
ONLINE (R97, R98). A part that is not running only sees the pin at relay opening. -/
def breakInChange (l : Level) (s : State) : State :=
  let t := { s with pins.breakIn := l }
  if s.phase = .running then
    let t := { t with web.reference := l }
    if isEdge l s then
      if s.line.state = .online then takeEdge t else { t with web.latch := true }
    else t
  else t

/-- BREAK_IN_CHANGE (R97). -/
def execBreakInChange (l : Level) (s : State) : Host.Outcome State Fault Refusal := .next (breakInChange l s)

/-- The resume timer of a RESUMING web stands at 0: it has expired (R109, R110). With the count above 0 there is no
expiry, and the web stays RESUMING (log 3). -/
def resumeTimerExpiry (s : State) : State :=
  if s.web.state = .resuming ∧ s.web.timer = some 0 then resumeExpiry s else s

/-- RESUME_TIMER_EXPIRY (R110). -/
def execResumeTimerExpiry (s : State) : Host.Outcome State Fault Refusal := .next (resumeTimerExpiry s)

/-! ## STORE completion (R97, R112) -/

/-- The sequencer at a STORE completion: the latch, BREAK_IN memory and reference are taken anew when the level or
mode changed or the part becomes COMMISSIONED; then a line return is owed while ONLINE (R97, R112). -/
def webAtStore (old : Option Scalars) (new : Scalars) (s : State) : State :=
  match old with
  | some o =>
    if o.pinLevel = new.pinLevel ∧ o.pinMode = new.pinMode then s
    else { s with web.latch := false, web.memPin := false, web.countDue := false, web.reference := s.pins.breakIn }
  | none =>
    { s with
      web.latch := false, web.memPin := false, web.countDue := false, web.reference := s.pins.breakIn,
      web.returnDue := decide (s.line.state = .online) }

end Sys2Proof.Machine
end

