-- ==== Sys2Proof/Machine/DryerSafety.lean ====
section
/-! DEFINITION. The Dryer Safety Unit (chapter 7): its reaction to a board refresh, to a solvent publication, to
the Command Table's reports and to SILENT entry, and the command PURGE_HOLD_EXPIRY. -/

namespace Sys2Proof.Machine

/-! ## Figures in force -/

/-- The confirm count in force (R119). -/
def State.confirmCount (s : State) : Nat :=
  match s.scalars? with
  | some c => c.confirm
  | none => 0

/-- The required purge volume in litres: V × air changes × 1,000 (R129). -/
def requiredVolume (c : Scalars) : Nat := c.volume * c.changes * 1000

/-- The configured zones that have a ZONE_FLAME entry (R124, R129). -/
def State.flameZones (s : State) : List Zone := s.zones.filter fun k => (sampleEntry s.map (.zoneFlame k)).isSome

/-! ## Judging the conditions (R118 to R124) -/

/-- A circumstance that holds at a judgement: the counter advances, and the onset comes when it reaches the
confirm count (R119). The Bool says whether this is the onset. -/
def confirm (limit step : Nat) (c : Cond) : Cond × Bool :=
  let n := satAdd 50 c.count step
  if limit ≤ n ∧ c.active = false then ({ active := true, count := n }, true)
  else ({ c with count := n }, false)

/-- R118 step 1: LINE_SILENT is cleared by a refresh carrying ONLINE (R125). -/
def clearLineSilent (r : Refresh) (s : State) : State :=
  if r.line = .online then { s with dryer.lineSilent := false } else s

/-- R118 step 2: without a solvent publication LEL_PREDICTED_HIGH is cleared. -/
def clearPredicted (s : State) : State :=
  match s.solv.publication with
  | none => { s with dryer.lelPredicted := Cond.clear }
  | some _ => s

/-- LEL_MEASURED_HIGH (R120). -/
def judgeLelMeasured (s : State) : State :=
  match s.board.measuredLel, s.solv.eff with
  | some v, some e =>
    if e.trip ≤ v then
      if s.dryer.lelMeasured then s
      else onset .lelMeasuredHigh .none (some (v : Int)) { s with dryer.lelMeasured := true }
    else { s with dryer.lelMeasured := false }
  | none, some _ => { s with dryer.lelMeasured := false }
  | _, none => s

/-- The exhaust flow while its record is GOOD or HELD. -/
def State.flow (s : State) : Option Nat := natOf (s.board.current .exhaustFlow)

/-- EXHAUST_LOW (R122). -/
def judgeExhaustLow (r : Refresh) (s : State) : State :=
  if s.dryer.state ≠ .firing then { s with dryer.exhaustLow := Cond.clear }
  else
    match s.flow with
    | none =>
      let t := { s with dryer.exhaustLow := { active := true, count := 0 } }
      if s.dryer.exhaustLow.active then t else onset .exhaustLow .none none t
    | some q =>
      match s.solv.eff with
      | none => s
      | some e =>
        if q < e.qFloor then
          let c := confirm s.confirmCount r.step s.dryer.exhaustLow
          let t := { s with dryer.exhaustLow := c.1 }
          if c.2 then onset .exhaustLow .none (some (q : Int)) t else t
        else { s with dryer.exhaustLow := Cond.clear }

/-- A zone's burner enable as FLAME_WITHOUT_ENABLE takes it (R124). -/
def burnerEnable (k : Zone) (s : State) : Bool :=
  if (commandEntry s.map (.zoneBurnerEn k)).isSome then decide (s.cmds.lastValue (.zoneBurnerEn k) = some 1)
  else s.dryer.state.burning

/-- FLAME_WITHOUT_ENABLE for one zone (R124). -/
def judgeFlame (r : Refresh) (s : State) (k : Zone) : State :=
  match s.board.fresh (.zoneFlame k) with
  | none => { s with dryer.flame := s.dryer.flame.set k { s.dryer.flame.get k with count := 0 } }
  | some v =>
    if v = 1 ∧ burnerEnable k s = false then
      let c := confirm s.confirmCount r.step (s.dryer.flame.get k)
      let t := { s with dryer.flame := s.dryer.flame.set k c.1 }
      if c.2 then onset .flameWithoutEnable (.role (.zoneFlame k)) none t else t
    else { s with dryer.flame := s.dryer.flame.set k Cond.clear }

/-! ## Purge (R129, R131) -/

/-- Some flame of the zones given is GOOD or HELD with value 1 (R129). -/
def anyFlame (b : Board) (ks : List Zone) : Bool := ks.any fun k => decide (b.current (.zoneFlame k) = some 1)

/-- Every flame of the zones given is GOOD 0 (R129, R132, R133). -/
def allFlamesOut (b : Board) (ks : List Zone) : Bool := ks.all fun k => decide (b.fresh (.zoneFlame k) = some 0)

/-- What a refresh does to a running purge (R129). -/
inductive PurgeCase where
  | reset
  | pause
  | count (flow : Nat)
deriving DecidableEq, Repr

/-- The case of R129 that applies, in its precedence. -/
def purgeCase (c : Scalars) (r : Refresh) (s : State) : PurgeCase :=
  if anyFlame s.board s.flameZones then .reset
  else
    match s.flow with
    | none => .reset
    | some q =>
      if s.board.quality .exhaustFlow = .good ∧ q < c.purgeMin then .reset
      else if r.regular = false then .pause
      else if s.board.quality .exhaustFlow ≠ .good then .pause
      else if allFlamesOut s.board s.flameZones = false then .pause
      else .count q

/-- The sum of a counting refresh: Q × P and the remainder (R129). -/
def purgeSum (c : Scalars) (q : Nat) (d : DryerUnit) : Nat := q * c.period + d.remainder

/-- The accumulator and remainder after a counting refresh (R129). -/
def creditPurge (c : Scalars) (q : Nat) (d : DryerUnit) : DryerUnit :=
  { d with accumulator := d.accumulator + purgeSum c q d / 3600, remainder := purgeSum c q d % 3600 }

/-- The change from PURGING to PURGED (R131). -/
def purgeDone (c : Scalars) (s : State) : State :=
  let t := setDryer .purged s
  let t := { t with dryer.hold := some (t.after (1000 * c.purgeHold)) }
  offer .purgeDone .none (.num (t.dryer.accumulator : Int)) t

/-- Purge counting at a refresh (R129). -/
def judgePurge (r : Refresh) (s : State) : State :=
  match s.scalars? with
  | none => s
  | some c =>
    match purgeCase c r s with
    | .reset => { s with dryer.accumulator := 0, dryer.remainder := 0 }
    | .pause => s
    | .count q =>
      let t := { s with dryer := creditPurge c q s.dryer }
      if requiredVolume c ≤ t.dryer.accumulator then purgeDone c t else t

/-- The flame changes between PURGED and FIRING (R132). -/
def judgeFlameChange (s : State) : State :=
  match s.dryer.state with
  | .purged =>
    if s.flameZones.any fun k => decide (s.board.fresh (.zoneFlame k) = some 1) then
      let t := setDryer .firing s
      { t with dryer.hold := none }
    else s
  | .firing =>
    if allFlamesOut s.board s.flameZones then
      let t := setDryer .purged s
      match s.scalars? with
      | some c => { t with dryer.hold := some (t.after (1000 * c.purgeHold)) }
      | none => t
    else s
  | .unpurged | .purging | .tripped => s

/-- R118 step 4. -/
def purgeStep (r : Refresh) (s : State) : State := if s.dryer.state = .purging then judgePurge r s else s

/-- R118 step 3. -/
def refreshConditions (r : Refresh) (s : State) : State :=
  s.flameZones.foldl (judgeFlame r) (judgeExhaustLow r (judgeLelMeasured s))

/-- The Dryer Safety Unit's reaction to a board refresh, in the five steps of R118. -/
def dryerReaction (r : Refresh) (s : State) : State :=
  if s.commissioned then
    judgeFlameChange (purgeStep r (refreshConditions r (clearPredicted (clearLineSilent r s))))
  else s

/-! ## Other events -/

/-- LEL_PREDICTED_HIGH at a publication announced to the unit (R121). -/
def judgePredicted (p : SolvPub) (s : State) : State :=
  match p.web with
  | .stopped | .break => { s with dryer.lelPredicted := Cond.clear }
  | .threading | .running | .resuming =>
    match p.predicted, s.solv.eff with
    | some v, some e =>
      if e.trip ≤ v then
        let c := confirm s.confirmCount p.covered s.dryer.lelPredicted
        let t := { s with dryer.lelPredicted := c.1 }
        if c.2 then onset .lelPredictedHigh .none (some (v : Int)) t else t
      else { s with dryer.lelPredicted := Cond.clear }
    | _, _ => s

/-- EXHAUST_SP has become UNRESPONSIVE (R123). -/
def exhaustUnresponsiveReport (s : State) : State :=
  if s.dryer.exhaustUnresponsive then s
  else
    onset .exhaustUnresponsive (.role .exhaustSp) (s.cmds.lastValue .exhaustSp)
      { s with dryer.exhaustUnresponsive := true }

/-- EXHAUST_SP has left UNRESPONSIVE (R123). -/
def exhaustResponsiveReport (s : State) : State := { s with dryer.exhaustUnresponsive := false }

/-- SILENT entry as the unit takes it (R125). -/
def silentEntry (s : State) : State :=
  match s.dryer.state with
  | .purged | .firing =>
    if s.dryer.lineSilent then s else onset .lineSilent .none none { s with dryer.lineSilent := true }
  | .purging =>
    let t := setDryer .unpurged s
    { t with dryer.accumulator := 0, dryer.remainder := 0 }
  | .unpurged | .tripped => s

/-- The purge hold timer expires in PURGED (R131). -/
def purgeHoldExpiry (s : State) : State :=
  match s.dryer.state, s.dryer.hold with
  | .purged, some d =>
    let t := reachDeadline d s
    let t := setDryer .unpurged { t with dryer.hold := none }
    offer .purgeExpired .none .absent t
  | _, _ => s

/-- PURGE_HOLD_EXPIRY (R131). -/
def execPurgeHoldExpiry (s : State) : Host.Outcome State Fault Refusal := .next (purgeHoldExpiry s)

/-- The flame conditions at a STORE completion: one that is no longer judged is cleared (R124). -/
def flamesAtStore (s : State) : State :=
  { s with dryer.flame := Four.ofFn fun k => if k ∈ s.flameZones then s.dryer.flame.get k else Cond.clear }

end Sys2Proof.Machine
end

