-- ==== Sys2Proof/Machine/CommandTable.lean ====
section
/-! DEFINITION. The Command Table (chapter 8): owner resolution, the values by owner, hold, the limit stage, the
passage of a command slot (COMMAND_PASSAGE), the holds and echoes of a board refresh, and the rebuild at a STORE. -/

namespace Sys2Proof.Machine

/-! ## Owner resolution (R139) -/

/-- The parameters a COMMAND entry of the map gives (R20, R135). -/
structure CommandParams where
  authority : Authority
  safe : Option Int
  tolerance : Nat
  missLimit : Nat
deriving DecidableEq, Repr

/-- The parameters of an entry, when it is a COMMAND entry. -/
def commandParams (e : SlotEntry) : Option CommandParams :=
  match e.use with
  | .command a v t m => some ⟨a, v, t, m⟩
  | .sample _ | .echo _ | .hold => none

/-- A burner role: ZONE_BURNER_EN(k) or ZONE_TEMP_SP(k) (R139). -/
def Role.isBurner : Role → Bool
  | .zoneBurnerEn _ | .zoneTempSp _ => true
  | _ => false

/-- Dryer UNPURGED or PURGING. -/
def DryerState.unready : DryerState → Bool
  | .unpurged | .purging => true
  | .purged | .firing | .tripped => false

/-- Step 3 of R139: the authority decides. -/
def ownerByAuthority (a : Authority) (bankActive : Bool) (web : WebState) (dryer : DryerState) : Owner :=
  match a with
  | .observe => .line
  | .supervise => if web = .break ∨ dryer.unready = true then .sequence else .line
  | .full =>
    if bankActive then
      if (web = .threading ∨ web = .running) ∧ dryer.burning = true then .schedule else .sequence
    else if dryer.unready then .sequence else .line

/-- The owner of an entry at a passage (R139). -/
def resolveOwner (r : Role) (p : CommandParams) (e : CmdEntry) (s : State) : Owner :=
  if s.dryer.state = .tripped ∧ (r.isBurner = true ∨ p.safe.isSome = true) then .safe
  else if e.released then .line
  else ownerByAuthority p.authority (activeBank s.banks).isSome s.web.state s.dryer.state

/-! ## Values by owner (R140 to R142) -/

/-- The fan capacity in force. -/
def State.qCap (s : State) : Nat :=
  match s.scalars? with
  | some c => c.qCap
  | none => 0

/-- The schedule value of a role in the Schedule Unit's standing publication, the exhaust clamped to Q_cap (R140,
R141). -/
def scheduleValue (r : Role) (s : State) : Option Int :=
  match s.sched.publication with
  | none => none
  | some p =>
    match r with
    | .zoneTempSp k => p.zoneTemp.get k
    | .zoneFanSp k => p.zoneFan.get k
    | .exhaustSp => some (min p.exhaust (s.qCap : Int))
    | .chillWaterSp j => p.chill.get j
    | _ => none

/-- The ACTIVE bank's profile of a zone. -/
def State.zoneProfile (s : State) (k : Zone) : Option ZoneProfile := s.activeRecipe.map fun x => x.zoneProfiles.get k

/-- The ACTIVE bank's standby setpoint of a circuit. -/
def State.standby (s : State) (j : Circuit) : Option Int :=
  s.activeRecipe.map fun x => (x.circuitProfiles.get j).standby

/-- The SEQUENCE value of ZONE_TEMP_SP(k), `c` being the controller's value (R140). -/
def sequenceTemp (k : Zone) (c : Int) (s : State) : Int :=
  if s.dryer.state.unready then c
  else
    match s.web.state with
    | .break => ((s.zoneProfile k).map ZoneProfile.breakTemp).getD c
    | .resuming =>
      let sched := (scheduleValue (.zoneTempSp k) s).getD c
      match s.web.record with
      | some r =>
        match r.temps.get k with
        | some v => max sched v
        | none => sched
      | none => sched
    | .stopped =>
      if s.web.preheat then ((s.zoneProfile k).map ZoneProfile.preheatTemp).getD c
      else ((s.zoneProfile k).map ZoneProfile.breakTemp).getD c
    | .threading | .running => c

/-- The SEQUENCE value of ZONE_FAN_SP(k) (R140). -/
def sequenceFan (k : Zone) (c : Int) (s : State) : Int :=
  if s.dryer.state.unready then 1000
  else
    match s.web.state with
    | .break => ((s.zoneProfile k).map ZoneProfile.breakFan).getD c
    | .resuming | .threading | .running => (scheduleValue (.zoneFanSp k) s).getD c
    | .stopped =>
      if s.web.preheat then ((s.zoneProfile k).map ZoneProfile.preheatFan).getD c
      else ((s.zoneProfile k).map ZoneProfile.breakFan).getD c

/-- The SEQUENCE value of ZONE_BURNER_EN(k) (R140). -/
def sequenceBurner (c : Int) (s : State) : Int :=
  if s.dryer.state.unready then 0
  else
    match s.web.state with
    | .break | .resuming => 1
    | .stopped => if s.web.preheat then 1 else 0
    | .threading | .running => c

/-- The SEQUENCE value of EXHAUST_SP (R140). -/
def sequenceExhaust (c : Int) (s : State) : Int :=
  if s.dryer.state.unready then (s.qCap : Int)
  else
    let sched := (scheduleValue .exhaustSp s).getD c
    match s.web.state with
    | .break =>
      match s.web.exhaustAtBreak with
      | some v => max v sched
      | none => sched
    | .stopped | .threading | .running | .resuming => sched

/-- The SEQUENCE value of CHILL_WATER_SP(j), `last` being its last forwarded value (R140). -/
def sequenceChill (j : Circuit) (c : Int) (last : Option Int) (s : State) : Int :=
  if s.dryer.state.unready then c
  else
    match s.web.state with
    | .break => last.getD c
    | .stopped => (s.standby j).getD c
    | .threading | .running | .resuming => (scheduleValue (.chillWaterSp j) s).getD c

/-- The SEQUENCE value of a role (R140); SPEED_REF never has owner SEQUENCE (R139, R23). -/
def sequenceValue (r : Role) (c : Int) (last : Option Int) (s : State) : Int :=
  match r with
  | .zoneTempSp k => sequenceTemp k c s
  | .zoneFanSp k => sequenceFan k c s
  | .zoneBurnerEn _ => sequenceBurner c s
  | .exhaustSp => sequenceExhaust c s
  | .chillWaterSp j => sequenceChill j c last s
  | _ => c

/-- The SCHEDULE value of a role (R141). -/
def scheduleOwnerValue (r : Role) (c : Int) (s : State) : Int :=
  match r with
  | .zoneBurnerEn _ => if s.sched.publication.isSome then 1 else c
  | _ => (scheduleValue r s).getD c

/-- The value of the resolved owner (R140 to R142). -/
def ownerValue (o : Owner) (r : Role) (p : CommandParams) (c : Int) (e : CmdEntry) (s : State) : Int :=
  match o with
  | .line => c
  | .safe => p.safe.getD (if r.isBinary then 0 else c)
  | .schedule => scheduleOwnerValue r c s
  | .sequence => sequenceValue r c (e.last.map Forwarded.value) s

/-! ## Hold and limits (R144 to R147) -/

/-- The hold: a SCHEDULE or SEQUENCE value is replaced by the last forwarded value (R144). -/
def applyHold (o : Owner) (e : CmdEntry) (v : Int) : Int :=
  match o with
  | .schedule | .sequence => if 0 < e.hold then (e.last.map Forwarded.value).getD v else v
  | .line | .safe => v

/-- Whether the speed cap applies at a passage (R147). -/
def capApplies (o : Owner) (s : State) : Bool :=
  (match s.scalars? with
    | some c => c.speedCap
    | none => false)
    && s.solv.publication.isSome
    && (decide (s.web.state = .threading) || decide (s.web.state = .running) || decide (s.web.state = .resuming))
    && decide (o ≠ .safe)

/-- The figure the cap holds acceleration to: the larger of the published combined ceiling and the actual speed
(R147). -/
def capFigure (s : State) : Int :=
  match s.solv.publication with
  | some p => (max p.combined s.board.actual : Nat)
  | none => (s.board.actual : Int)

/-- The SPEED_REF value after the cap and the bound by the controller's value `c` (R147). -/
def capSpeed (o : Owner) (c v : Int) (s : State) : Int :=
  min (if capApplies o s then min c (capFigure s) else v) c

/-- The exhaust raised to the smaller of Q_cap and the published floor (R146). -/
def floorExhaust (a : Authority) (v : Int) (s : State) : Int :=
  match s.solv.publication with
  | some p => if a = .observe then v else max v (min s.qCap p.floor : Nat)
  | none => v

/-- The limit stage (R145 to R147). -/
def applyLimits (r : Role) (o : Owner) (p : CommandParams) (c v : Int) (s : State) : Int :=
  match r with
  | .zoneBurnerEn _ => if s.dryer.state.burning then v else 0
  | .exhaustSp => floorExhaust p.authority v s
  | .speedRef => capSpeed o c v s
  | _ => v

/-- The value forwarded for a role at a passage, with the owner and the limited flag (R137 steps 1 to 3, R148). -/
def forwardValue (r : Role) (p : CommandParams) (e : CmdEntry) (w : Word) (s : State) : Owner × Int × Bool :=
  let c := readValue r w
  let o := resolveOwner r p e s
  let held := applyHold o e (ownerValue o r p c e s)
  let v := applyLimits r o p c held s
  (o, v, decide (v ≠ held))

/-! ## The passage (R137, R147 to R149) -/

/-- The record of a forwarding (R148). -/
def recordForwarding (o : Owner) (v : Int) (limited : Bool) (cycle : CycleNo) (e : CmdEntry) : CmdEntry :=
  { e with owner := o, last := some ⟨v, cycle⟩, previous := e.last, limited := limited }

/-- The arriving SPEED_REF value kept, for the last two cycle numbers offered (R29). A key that occurs twice in one
frame is offered twice (R137); that the later value is the one kept for that cycle number is the model's choice
(log 32). -/
def keepArriving (cycle : CycleNo) (w : Word) (kept : List (CycleNo × Word)) : List (CycleNo × Word) :=
  (cycle, w) :: (kept.filter fun p => !decide (p.1 = cycle)).take 1

/-- A late forward: an evaluation is RUNNING at the passage (R149). -/
def lateForward (s : State) : State :=
  if s.sched.job.isSome || s.solv.job.isSome then
    offer .lateForward .none .absent { s with cmds.late := bump32 s.cmds.late }
  else s

/-- SPEED_CAPPED at a SPEED_REF passage that forwards `v` for the controller's value `c` (R147). -/
def judgeCapped (o : Owner) (c v : Int) (s : State) : State :=
  if capApplies o s ∧ v < c then
    if s.cmds.speedCapped then s
    else offer .speedCapped (.role .speedRef) (.num v) { s with cmds.speedCapped := true }
  else if v = c then { s with cmds.speedCapped := false } else s

/-- The forwarding of a mapped role whose slot carries `w`: what the Command Table and the log take from it. The
value is forwarded from the publications that stand (R147, R148). -/
def forwardRole (r : Role) (p : CommandParams) (e : CmdEntry) (w : Word) (cycle : CycleNo) (s : State) : State :=
  let f := forwardValue r p e w s
  let t := { s with cmds.entries := updateKey r (recordForwarding f.1 f.2.1 f.2.2 cycle) s.cmds.entries }
  if r = .speedRef then
    judgeCapped f.1 (readValue r w) f.2.1 { t with cmds.kept := keepArriving cycle w t.cmds.kept }
  else t

/-- Whether the command slots of an OUT frame are offered (R7). -/
def offered (t : Transit) (s : State) : Bool :=
  decide (s.line.state = .online) && t.sinceOnline && s.commissioned

/-- The frame after slot `i` was rewritten with value `v` (R137 step 4, R191). -/
def rewriteSlot (i : Nat) (v : Int) (t : Transit) : Transit :=
  { t with forwarded := overwrite t.forwarded (slotOffset i + 3) (be16Int v) }

/-- The head of the OUT store replaced. -/
def setOutHead (t : Transit) (s : State) : State := { s with line.outStore := t :: s.line.outStore.tail }

/-- An offered command slot streams past (R7, R137). An unmapped key passes unaltered. -/
def passSlot (i : Nat) (t : Transit) (slot : Slot) (s : State) : State :=
  let t := { t with cursor := i + 1 }
  match entryAt s.map slot.node slot.channel .command with
  | none => setOutHead t s
  | some m =>
    match commandParams m, s.cmds.entry? m.role with
    | some p, some e =>
      setOutHead (rewriteSlot i (forwardValue m.role p e slot.value s).2.1 t)
        (forwardRole m.role p e slot.value (cycleNumber t.arrived) s)
    | _, _ => setOutHead t s

/-- Slot `i` of the OUT cycle frame that is leaving streams past (R7, R137). A slot that is not offered, or that
has already streamed past, is no passage. Every passage, of a mapped key or not, may be a late forward (R149). That
LATE_FORWARD is offered before SPEED_CAPPED where one passage offers both is the model's choice (R147, R149, R160;
log 17). -/
def commandPassage (i : Nat) (s : State) : State :=
  match s.line.outStore with
  | [] => s
  | t :: _ =>
    if kindOf t.arrived = .cycle ∧ headerComplete t.arrived = true ∧ t.cursor ≤ i ∧ offered t s = true then
      match slotAt t.arrived i with
      | some slot => if slot.kind = .command then passSlot i t slot (lateForward s) else s
      | none => s
    else s

/-- COMMAND_PASSAGE (R137). -/
def execCommandPassage (i : Nat) (s : State) : Host.Outcome State Fault Refusal := .next (commandPassage i s)

/-! ## Holds and echoes at a board refresh (R143, R150, R151) -/

/-- The hold count of one entry after a refresh (R143). -/
def holdAfter (m : List SlotEntry) (r : Refresh) (role : Role) (n : Nat) : Nat :=
  match holdEntry m role with
  | none => n
  | some h =>
    match lastSlotFor h r.slots with
    | some t => if t.quality = .good then min 1000 t.value.toNat else n - r.step
    | none => n - r.step

/-- Every hold count after a refresh (R143). -/
def loadHolds (r : Refresh) (s : State) : State :=
  { s with
    cmds.entries := s.cmds.entries.map fun p => (p.1, { p.2 with hold := holdAfter s.map r p.1 p.2.hold }) }

/-- Whether an echo lies within the tolerance of a forwarded value (R150). -/
def within (tol : Nat) (echo : Int) (f : Option Forwarded) : Bool :=
  match f with
  | some x => decide ((echo - x.value).natAbs ≤ tol)
  | none => false

/-- Whether an entry forwarded with a cycle number (R150). -/
def forwardedAt (c : CycleNo) (e : CmdEntry) : Bool :=
  decide (e.last.map Forwarded.cycle = some c) || decide (e.previous.map Forwarded.cycle = some c)

/-- Whether the ECHO record matches the last or the previous forwarded value (R150). -/
def echoMatches (tol : Nat) (x : Option BoardRec) (e : CmdEntry) : Bool :=
  match x with
  | some b =>
    match b.quality, b.value with
    | .good, some v => within tol v e.last || within tol v e.previous
    | _, _ => false
  | none => false

/-- An entry that has become UNRESPONSIVE is reported, or offers ACTUATOR_UNRESPONSIVE (R151). -/
def becameUnresponsive (role : Role) (s : State) : State :=
  if role = .exhaustSp then exhaustUnresponsiveReport s
  else offer .actuatorUnresponsive (.role role) (numValue (s.cmds.lastValue role)) s

/-- A match (R150, R151). -/
def echoMatch (role : Role) (e : CmdEntry) (s : State) : State :=
  let t := { s with
    cmds.entries := updateKey role (fun x => { x with miss := 0, responsiveness := .responsive }) s.cmds.entries }
  if e.responsiveness = .unresponsive ∧ role = .exhaustSp then exhaustResponsiveReport t else t

/-- A miss (R150, R151). -/
def echoMiss (limit : Nat) (role : Role) (e : CmdEntry) (s : State) : State :=
  let n := satAdd 64 e.miss 1
  if limit ≤ n ∧ e.responsiveness ≠ .unresponsive then
    becameUnresponsive role { s with
      cmds.entries :=
        updateKey role (fun x => { x with miss := n, responsiveness := .unresponsive }) s.cmds.entries }
  else { s with cmds.entries := updateKey role (fun x => { x with miss := n }) s.cmds.entries }

/-- The echo judgement of one role at a GOOD refresh of cycle `c` (R150, R151). -/
def judgeEcho (c : CycleNo) (s : State) (role : Role) : State :=
  match s.cmds.entry? role, (commandEntry s.map role).bind commandParams, echoEntry s.map role with
  | some e, some p, some _ =>
    if forwardedAt c e then
      if echoMatches p.tolerance (s.board.echo? role) e then echoMatch role e s
      else if 0 < e.hold then s else echoMiss p.missLimit role e s
    else s
  | _, _, _ => s

/-- The echo judgements of a refresh (R150). That the entries are judged in Slot Map entry order, and their records
offered in that order, is the model's choice (R151, R160; log 17). -/
def judgeEchoes (r : Refresh) (s : State) : State :=
  match r.cycle with
  | some c => if r.good then (s.cmds.entries.map Prod.fst).foldl (judgeEcho c) s else s
  | none => s

/-- The Command Table's reaction to a board refresh (R143, R150). -/
def commandReaction (r : Refresh) (s : State) : State :=
  if s.commissioned then judgeEchoes r (loadHolds r s) else s

/-! ## Rebuild at a STORE completion (R136) -/

/-- The command roles of a map, in entry order. -/
def commandRoles (m : List SlotEntry) : List Role :=
  (m.filter SlotEntry.isCommand).map SlotEntry.role

/-- An entry under a new map: unpaired roles lose echo and hold standing (R136). -/
def repair (m : List SlotEntry) (role : Role) (e : CmdEntry) : CmdEntry :=
  let e := if (echoEntry m role).isNone then { e with responsiveness := .unchecked, miss := 0 } else e
  if (holdEntry m role).isNone then { e with hold := 0 } else e

/-- The entries of a map; a role that already had one keeps it (R136). -/
def rebuildEntries (m : List SlotEntry) (old : List (Role × CmdEntry)) : List (Role × CmdEntry) :=
  (commandRoles m).map fun r => (r, repair m r ((lookupKey r old).getD CmdEntry.fresh))

/-- Whether EXHAUST_SP stands UNRESPONSIVE. -/
def exhaustStandsUnresponsive (es : List (Role × CmdEntry)) : Bool :=
  match lookupKey Role.exhaustSp es with
  | some e => decide (e.responsiveness = .unresponsive)
  | none => false

/-- The Command Table at a STORE completion (R136). -/
def commandsAtStore (s : State) : State :=
  let es := rebuildEntries s.map s.cmds.entries
  let t := { s with cmds.entries := es }
  if exhaustStandsUnresponsive s.cmds.entries && !exhaustStandsUnresponsive es then exhaustResponsiveReport t else t

end Sys2Proof.Machine
end

