-- ==== Sys2Proof/Machine/Schedule.lean ====
section
/-! DEFINITION. The Schedule Unit (chapter 4): interpolation, the thermal ceiling, the evaluation and its
publication (SCHEDULE_EVALUATION_COMPLETE), the deviation and shortfall watches, withdrawal. -/

namespace Sys2Proof.Machine

/-! ## Interpolation (R64, R65) -/

/-- The value on the segment from `p` to `q` at speed `v` (R64). -/
def onSegment (p q : Breakpoint) (v : Nat) : Int :=
  p.value + roundDiv (((v : Int) - (p.speed : Int)) * (q.value - p.value)) (q.speed - p.speed)

/-- A schedule read at a speed, `p` being the breakpoint the search stands at: flat beyond the last (R64). -/
def interpolateFrom (p : Breakpoint) (v : Nat) : List Breakpoint → Int
  | [] => p.value
  | q :: rest =>
    if v ≤ p.speed then p.value
    else if v < q.speed then onSegment p q v else interpolateFrom q v rest

/-- A schedule of breakpoints read at a speed (R64). An ACTIVE bank's schedules hold at least two (R40). -/
def interpolate (l : List Breakpoint) (v : Nat) : Int :=
  match l with
  | [] => 0
  | p :: rest => interpolateFrom p v rest

/-! ## Thermal ceiling (R66, R67) -/

/-- The ceiling on the segment from `p` to `q` for temperature `x` (R66). -/
def ceilingOnSegment (p q : Breakpoint) (x : Int) : Nat :=
  p.speed + ((x - p.value) * ((q.speed : Int) - (p.speed : Int)) / (q.value - p.value)).toNat

/-- The speed a zone temperature supports, `p` being a breakpoint whose value is at most `x`: the last such index
counts, and at or above the last breakpoint there is no limit (R66). -/
def ceilingFrom (p : Breakpoint) (x : Int) : List Breakpoint → Nat
  | [] => 1500
  | q :: rest => if x < q.value then ceilingOnSegment p q x else ceilingFrom q x rest

/-- The ceiling of R66 for X = `x`, before it is raised to the thread speed. -/
def formedCeiling (l : List Breakpoint) (thread : Nat) (x : Int) : Nat :=
  match l with
  | [] => thread
  | p :: rest => if x < p.value then thread else ceilingFrom p x rest

/-- The thermal ceiling of a zone: raised to the thread speed, and the thread speed for a LOST record (R66, R67). -/
def thermalCeiling (l : List Breakpoint) (thread tolerance : Nat) (temp : Option Int) : Nat :=
  match temp with
  | none => thread
  | some t => max thread (formedCeiling l thread (t + (tolerance : Int)))

/-! ## The evaluation (R59 to R62) -/

/-- The inputs a schedule evaluation takes at a refresh, with bank `b` ACTIVE (R59). -/
def schedInputs (b : BankNo) (r : Refresh) (s : State) : SchedJob :=
  { cycle := r.cycle, bank := b, recipe := (s.banks.get b).recipe, lead := s.board.lead,
    temps := Four.ofFn fun k => s.board.current (.zoneTemp k), zones := s.zoneCount, circuits := s.circuitCount }

/-- The evaluation after a refresh: a running one is abandoned, and one starts if a bank is ACTIVE (R59, R60). -/
def startSchedule (r : Refresh) (s : State) : State :=
  { s with sched.job := (activeBank s.banks).map fun b => schedInputs b r s }

/-- The publication record an evaluation gives (R62). -/
def schedResult (j : SchedJob) : SchedPub :=
  { bank := j.bank, cycle := j.cycle, lead := j.lead,
    zoneTemp := Four.ofFn fun k =>
      if k.val < j.zones then some (interpolate (j.recipe.zoneTemp.get k) j.lead) else none,
    zoneFan := Four.ofFn fun k =>
      if k.val < j.zones then some (interpolate (j.recipe.zoneFan.get k) j.lead) else none,
    exhaust := interpolate j.recipe.exhaust j.lead,
    chill := Three.ofFn fun i =>
      if i.val < j.circuits then some (interpolate (j.recipe.chill.get i) j.lead) else none,
    ceiling := Four.ofFn fun k =>
      if k.val < j.zones then
        some (thermalCeiling (j.recipe.zoneTemp.get k) j.recipe.thread j.recipe.tolerance (j.temps.get k))
      else none }

/-- A running schedule evaluation completes: its record replaces the former one whole (R62). -/
def scheduleEvaluationComplete (s : State) : State :=
  match s.sched.job with
  | some j => { s with sched.job := none, sched.publication := some (schedResult j) }
  | none => s

/-- SCHEDULE_EVALUATION_COMPLETE (R62). -/
def execScheduleEvaluationComplete (s : State) : Host.Outcome State Fault Refusal :=
  .next (scheduleEvaluationComplete s)

/-! ## Deviation and shortfall (R68, R69) -/

/-- The deviation watch of one zone (R68). -/
def judgeDeviation (x : Recipe) (r : Refresh) (s : State) (k : Zone) : State :=
  let count (n : Nat) (t : State) : State := { t with sched.devCount := t.sched.devCount.set k n }
  let active (b : Bool) (t : State) : State := { t with sched.deviation := t.sched.deviation.set k b }
  if s.web.state ≠ .running then count 0 (active false s)
  else
    match s.cmds.lastValue (.zoneTempSp k) with
    | none => count 0 s
    | some sp =>
      match s.board.fresh (.zoneTemp k) with
      | none => count 0 s
      | some v =>
        if (v - sp).natAbs ≤ x.devBand then count 0 (active false s)
        else
          let n := satAdd 500 (s.sched.devCount.get k) r.step
          let t := count n s
          if x.devConfirm ≤ n ∧ s.sched.deviation.get k = false then
            offer .zoneDeviation (.role (.zoneTemp k)) (.num (v - sp)) (active true t)
          else t

/-- The shortfall watch of one circuit (R69). -/
def judgeShortfall (x : Recipe) (r : Refresh) (s : State) (j : Circuit) : State :=
  let count (n : Nat) (t : State) : State := { t with sched.shortCount := t.sched.shortCount.set j n }
  let active (b : Bool) (t : State) : State := { t with sched.shortfall := t.sched.shortfall.set j b }
  if s.web.state ≠ .running then count 0 (active false s)
  else
    match s.board.current (.chillWebTemp j) with
    | none => count 0 s
    | some v =>
      if v ≤ (x.circuitProfiles.get j).limit then count 0 (active false s)
      else
        let n := satAdd 100 (s.sched.shortCount.get j) r.step
        let t := count n s
        if 100 ≤ n ∧ s.sched.shortfall.get j = false then
          offer .chillShortfall (.role (.chillWebTemp j)) (.num v) (active true t)
        else t

/-- The watches of a refresh: ONLINE, COMMISSIONED and a bank ACTIVE (R68, R69). -/
def watch (r : Refresh) (s : State) : State :=
  match s.activeRecipe with
  | some x =>
    if judged r s then s.circuits.foldl (judgeShortfall x r) (s.zones.foldl (judgeDeviation x r) s) else s
  | none => s

/-- The Schedule Unit's reaction to a board refresh (R59, R60, R68, R69). -/
def scheduleReaction (r : Refresh) (s : State) : State := startSchedule r (watch r s)

/-- Withdrawal (R63). -/
def withdrawSchedule (s : State) : State := { s with sched := SchedUnit.afterReset }

end Sys2Proof.Machine
end

