-- ==== Sys2Proof/Machine/Solvent.lean ====
section
/-! DEFINITION. The Solvent Unit (chapter 5): effective safety parameters, the evaluation and its results
(SOLVENT_EVALUATION_COMPLETE), its conditions and histogram, withdrawal. -/

namespace Sys2Proof.Machine

/-! ## Effective safety parameters (R73, R74) -/

/-- The stricter of a stored figure and an override, where the smaller is stricter. -/
def stricterLow (stored : Nat) (o : Option Nat) : Nat := min stored (o.getD stored)

/-- The stricter of a stored figure and an override, where the larger is stricter. -/
def stricterHigh (stored : Nat) (o : Option Nat) : Nat := max stored (o.getD stored)

/-- The effective parameters from the stored figures, the overrides and the analyzer mode (R73). -/
def effectiveParams (c : Scalars) (o : Overrides) (m : AnalyzerMode) : EffParams :=
  { fEff := match m with
      | .monitored => stricterLow c.fMon o.fMon
      | .unmonitored => stricterLow c.fUnmon o.fUnmon
    trip := stricterLow c.trip o.trip
    margin := stricterHigh c.margin o.margin
    qFloor := stricterHigh c.qFloor o.qFloor }

/-- The effective parameters are formed anew (R74). -/
def formParams (s : State) : State :=
  { s with solv.eff := s.scalars?.map fun c => effectiveParams c s.agent.overrides s.board.mode }

/-! ## The results (R78 to R83) -/

/-- The solvent rate G (R78). -/
def solventRate (v w cov evap : Nat) : Nat := ceilDiv (v * w * cov * evap * 60) 100000000

/-- The predicted LEL P; absent without a flow (R79). -/
def predictedLel (g lg : Nat) (q : Option Nat) : Option Nat :=
  match q with
  | none => none
  | some q =>
    if q = 0 then some (if 0 < g then 1000 else 0) else some (min 1000 (ceilDiv (g * 1000) (q * lg)))

/-- Qmin (R80). -/
def minimumFlow (g lg fEff : Nat) : Nat := ceilDiv (g * 100) (lg * fEff)

/-- The exhaust floor (R80). -/
def exhaustFloor (d : DryerState) (qMin margin qFloor : Nat) : Nat :=
  let f := ceilDiv (qMin * (100 + margin)) 100
  if d = .firing then max f qFloor else f

/-- The solvent ceiling (R81). -/
def solventCeiling (q : Option Nat) (cov w evap lg fEff : Nat) : Nat :=
  if cov = 0 then 1500
  else
    match q with
    | none => 0
    | some q => min 1500 (q * lg * fEff * 1000000 / (w * cov * evap * 60))

/-- The measured ceiling (R82). -/
def measuredCeiling (web : WebState) (m : AnalyzerMode) (lel : Option Nat) (v fEff : Nat) : Nat :=
  if web = .running ∧ m = .monitored then
    match lel with
    | some p => if p = 0 then 1500 else min 1500 (v * fEff * 10 / p)
    | none => 1500
  else 1500

/-- The lowest thermal ceiling of the configured zones: from the schedule publication that stands, or the thread
speed (R83). -/
def lowestThermal (pub : Option SchedPub) (thread zones : Nat) : Nat :=
  (zoneNumbers.filter fun k => decide (k.val < zones)).foldl (fun m k =>
    min m (match pub with
      | some p => (p.ceiling.get k).getD thread
      | none => thread)) 1500

/-- The source of the thermal ceilings (R83). -/
def ceilingSource (pub : Option SchedPub) (thread : Nat) : CeilingSource :=
  match pub with
  | some p => .publication p.cycle p.bank
  | none => .thread thread

/-! ## The evaluation (R75, R76, R84) -/

/-- The inputs a solvent evaluation takes at a refresh, with bank `b` ACTIVE (R75). -/
def solvInputs (b : BankNo) (c : Scalars) (e : EffParams) (r : Refresh) (s : State) : SolvJob :=
  let x := (s.banks.get b).recipe
  { bank := b, cycle := r.cycle, line := r.line, web := s.web.state, dryer := s.dryer.state,
    speed := if s.board.speedsLost then 1500 else s.board.lead, substituted := s.board.speedsLost,
    coverage := coverageWith x s.board, width := x.width, evap := x.evap, thread := x.thread,
    mode := s.board.mode, lel := s.board.measuredLel, eff := e, flow := s.flow, lg := c.lg, qCap := c.qCap,
    zones := c.zones }

/-- The evaluation after a refresh: a running one is abandoned; with a bank ACTIVE the cycles pending grow and one
starts (R75, R76). Only a COMMISSIONED part has an ACTIVE bank. -/
def startSolvent (r : Refresh) (s : State) : State :=
  match activeBank s.banks, s.scalars?, s.solv.eff with
  | some b, some c, some e =>
    { s with
      solv.job := some (solvInputs b c e r s),
      solv.pendingCycles := satAdd 65535 s.solv.pendingCycles r.step }
  | _, _, _ => { s with solv.job := none }

/-- The publication record an evaluation gives, with the cycles covered and the schedule publication that stands
at its completion (R78 to R84). -/
def solvResult (j : SolvJob) (covered : Nat) (pub : Option SchedPub) : SolvPub :=
  let g := solventRate j.speed j.width j.coverage j.evap
  let q := minimumFlow g j.lg j.eff.fEff
  let sc := solventCeiling j.flow j.coverage j.width j.evap j.lg j.eff.fEff
  let mc := measuredCeiling j.web j.mode j.lel j.speed j.eff.fEff
  { bank := j.bank, cycle := j.cycle, covered := covered, line := j.line, web := j.web, dryer := j.dryer,
    speed := j.speed, substituted := j.substituted, coverage := j.coverage, mode := j.mode, lel := j.lel,
    eff := j.eff, flow := j.flow, rate := g, predicted := predictedLel g j.lg j.flow, qMin := q,
    floor := exhaustFloor j.dryer q j.eff.margin j.eff.qFloor, solventCeiling := sc, measuredCeiling := mc,
    source := ceilingSource pub j.thread, combined := min sc (min mc (lowestThermal pub j.thread j.zones)) }

/-! ## Conditions and histogram (R87 to R90) -/

/-- DRYER_LIMITED at a publication, against the Q_cap the evaluation took (R87, log 25). -/
def judgeLimited (qCap : Nat) (p : SolvPub) (s : State) : State :=
  if p.line = .online then
    if qCap < p.floor then
      if s.solv.limited then s
      else offer .dryerLimited .none (.num (p.floor : Int)) { s with solv.limited := true }
    else { s with solv.limited := false }
  else s

/-- SOLVENT_MISMATCH at a publication (R88). -/
def judgeMismatch (p : SolvPub) (s : State) : State :=
  if p.line ≠ .online then s
  else
    match p.web, p.mode, p.lel with
    | .running, .monitored, some m =>
      match p.predicted with
      | none => { s with solv.mismatchCount := 0 }
      | some q =>
        let d : Int := (m : Int) - (q : Int)
        if d ≤ 100 then { s with solv.mismatchCount := 0, solv.mismatch := false }
        else
          let n := satAdd 50 s.solv.mismatchCount p.covered
          if 50 ≤ n ∧ s.solv.mismatch = false then
            offer .solventMismatch .none (.num d) { s with solv.mismatchCount := n, solv.mismatch := true }
          else { s with solv.mismatchCount := n }
    | _, _, _ => { s with solv.mismatchCount := 0, solv.mismatch := false }

/-- The histogram with the bucket of a predicted LEL incremented (R90). -/
def countBucket (p : Nat) (h : Histogram) : Histogram :=
  if p < 100 then { h with b1 := bump32 h.b1 }
  else if p < 200 then { h with b2 := bump32 h.b2 }
  else if p < 250 then { h with b3 := bump32 h.b3 }
  else if p < 300 then { h with b4 := bump32 h.b4 }
  else if p < 400 then { h with b5 := bump32 h.b5 }
  else { h with b6 := bump32 h.b6 }

/-- The histogram at a publication (R90). -/
def judgeHistogram (p : SolvPub) (s : State) : State :=
  match p.web, p.predicted with
  | .running, some v => { s with solv.histogram := countBucket v s.solv.histogram }
  | _, _ => s

/-- The Solvent Unit's own judgements of the record being published (R87, R88, R90). -/
def judgePublication (qCap : Nat) (p : SolvPub) (s : State) : State :=
  judgeHistogram p (judgeMismatch p (judgeLimited qCap p s))

/-- A running solvent evaluation completes: the record replaces the former one whole, the cycles pending become
0, and the publication is announced to the Dryer Safety Unit (R84). `dryerFirst` is the order in which that
reaction and the Solvent Unit's own judgements are taken, which R160 leaves open. -/
def publishSolvent (dryerFirst : Bool) (s : State) : State :=
  match s.solv.job with
  | some j =>
    let p := solvResult j s.solv.pendingCycles s.sched.publication
    let t := { s with solv.job := none, solv.pendingCycles := 0, solv.publication := some p }
    if dryerFirst then judgePublication j.qCap p (judgePredicted p t)
    else judgePredicted p (judgePublication j.qCap p t)
  | none => s

/-- The number of the next open order, and the state after it is taken (log 1). -/
def takeChoice (s : State) : State := { s with choices := s.choices + 1 }

/-- SOLVENT_EVALUATION_COMPLETE (R84), with the open order given. -/
def solventEvaluationComplete (choice : Nat) (s : State) : State :=
  publishSolvent (decide (choice % 2 = 1)) (takeChoice s)

/-- SOLVENT_EVALUATION_COMPLETE (R84). -/
def execSolventEvaluationComplete (s : State) : Host.Outcome State Fault Refusal :=
  .next (solventEvaluationComplete (Config.reactionOrder s.choices) s)

/-! ## The reaction to a board refresh (R74, R75, R89) -/

/-- ANALYZER_DISAGREE (R89). -/
def judgeDisagree (s : State) : State :=
  match s.board.quality (.lel 0), s.board.quality (.lel 1) with
  | .lost, _ => { s with solv.disagree := false }
  | _, .lost => { s with solv.disagree := false }
  | .good, .good =>
    match s.board.fresh (.lel 0), s.board.fresh (.lel 1) with
    | some a, some b =>
      if 50 < (a - b).natAbs then
        if s.solv.disagree then s
        else offer .analyzerDisagree .none (.num (a - b)) { s with solv.disagree := true }
      else { s with solv.disagree := false }
    | _, _ => s
  | _, _ => s

/-- The Solvent Unit's reaction to a board refresh (R74, R75, R89). -/
def solventReaction (r : Refresh) (s : State) : State :=
  let t := formParams s
  startSolvent r (if judged r t then judgeDisagree t else t)

/-- Withdrawal (R85). -/
def withdrawSolvent (s : State) : State :=
  { s with
    solv.publication := none, solv.job := none, solv.pendingCycles := 0, solv.mismatchCount := 0,
    solv.limited := false, solv.mismatch := false }

end Sys2Proof.Machine
end

