-- ==== Sys2Proof/Machine/LineInterface.lean ====
section
/-! DEFINITION. The Line Interface (chapter 1): frame arrival (FRAME_ARRIVAL), silence (SILENCE_TIMER_EXPIRY), and
what a frame end does to the line state, numbering, regularity and counters. -/

namespace Sys2Proof.Machine

/-! ## Elastic stores (R3, R4) -/

/-- The elastic store of a direction. -/
def LineIf.store (l : LineIf) : Dir → List Transit
  | .out => l.outStore
  | .back => l.backStore

/-- The elastic store of a direction replaced. -/
def LineIf.setStore (l : LineIf) (d : Dir) (q : List Transit) : LineIf :=
  match d with
  | .out => { l with outStore := q }
  | .back => { l with backStore := q }

/-- The places of an elastic store (R3). -/
def storePlaces : Nat := 2

/-- The Line Interface offers FRAME_ERRORS (R19). -/
def frameErrors (s : State) : State := offer .frameErrors .none .absent s

/-- In SYNCING the sync count becomes 0 (R4, R14). -/
def dropSync (l : LineIf) : LineIf := if l.state = .syncing then { l with syncCount := 0 } else l

/-- An overrun frame of kind `k` (R4). -/
def overrun (k : FrameKind) (s : State) : State :=
  match k with
  | .foreign => s
  | .service => frameErrors { s with line.overruns := bump32 s.line.overruns }
  | .cycle => frameErrors { s with line := dropSync { s.line with overruns := bump32 s.line.overruns } }

/-- The place a frame takes: its bytes, whether the line was ONLINE at its start, and for a BACK service frame
the BUSY marks that stand (R3, R7, R168). -/
def newTransit (d : Dir) (first : Byte) (rest : List Byte) (s : State) : Transit :=
  { arrived := first :: rest, forwarded := first :: rest, sinceOnline := decide (s.line.state = .online),
    cursor := 0, marks := if d = .back ∧ frameKind first = .service then s.agent.marks else [], captured := [] }

/-- The standing marks belong to the first BACK service frame whose start arrives (R168). -/
def bindMarks (d : Dir) (first : Byte) (s : State) : State :=
  if d = .back ∧ frameKind first = .service then { s with agent.marks := [] } else s

/-- The first byte of a frame arrives: it takes a place, or is an overrun (R3, R4). In BYPASS the part sees no
frame (R1). -/
def frameArrival (d : Dir) (first : Byte) (rest : List Byte) (s : State) : State :=
  if s.line.state = .bypass then s
  else if (s.line.store d).length < storePlaces then
    bindMarks d first { s with line := s.line.setStore d (s.line.store d ++ [newTransit d first rest s]) }
  else overrun (frameKind first) (bindMarks d first s)

/-- FRAME_ARRIVAL (R3). -/
def execFrameArrival (d : Dir) (first : Byte) (rest : List Byte) (s : State) : Host.Outcome State Fault Refusal :=
  .next (frameArrival d first rest s)

/-! ## Captured slots (R8) -/

/-- Whether a slot that streams past on the BACK pass is captured under the map in force: a SAMPLE, ECHO or HOLD slot,
or a COMMAND slot whose key maps SPEED_REF (R8). -/
def isCaptured (m : List SlotEntry) (x : Slot) : Bool :=
  match x.kind with
  | .sample | .echo | .hold => true
  | .command => decide ((entryAt m x.node x.channel .command).map SlotEntry.role = some .speedRef)
  | .status => false

/-- The captured set when a BACK cycle frame has streamed past up to position `b` under map `m` (R8, R24). Which slots
have passed is told by the commands: those before the latest status slot written, and at the frame's end the rest
(log 22). -/
def captureTo (m : List SlotEntry) (b : Nat) (t : Transit) : List Slot :=
  t.captured ++ (slotsBetween t.arrived t.cursor b).filter (isCaptured m)

/-! ## Silence (R15) -/

/-- The silence timer starts or restarts with the limit in force (R13, R15). -/
def startSilence (s : State) : State := { s with line.silence := some (s.after s.silenceLimit) }

/-- The line becomes SILENT and the Dryer Safety Unit is notified (R15). -/
def enterSilent (s : State) : State :=
  silentEntry
    { s with line.state := .silent, line.syncCount := 0, line.remembered := [], line.silence := none }

/-- The silence timer expires (R15). -/
def silenceTimerExpiry (s : State) : State :=
  match s.line.silence with
  | some d => enterSilent (reachDeadline d s)
  | none => s

/-- SILENCE_TIMER_EXPIRY (R15). -/
def execSilenceTimerExpiry (s : State) : Host.Outcome State Fault Refusal := .next (silenceTimerExpiry s)

/-! ## The frame leaves (R5, R6, R18) -/

/-- The bytes of a frame as they have left, its trailer included (R2, R5). -/
def sentBytes (t : Transit) : List Byte :=
  if kindOf t.arrived = .foreign then t.arrived
  else
    headAndBody t.forwarded
      ++ (if goodFrame t.arrived then freshTrailer (headAndBody t.forwarded)
          else poisonedTrailer (headAndBody t.forwarded))

/-- The head of a store gives up its place: its last byte has left the far port (R3). -/
def releasePlace (d : Dir) (t : Transit) (l : LineIf) : LineIf :=
  let l := l.setStore d (l.store d).tail
  match d with
  | .out => { l with sentOut := some (sentBytes t) }
  | .back => { l with sentBack := some (sentBytes t) }

/-- The counters of a CYCLE or SERVICE frame end: good or poisoned by direction, service, long (R18). -/
def countFrame (d : Dir) (t : Transit) (l : LineIf) : LineIf :=
  let l := if longFrame t.arrived then { l with longFrames := bump32 l.longFrames } else l
  if goodFrame t.arrived then
    match d with
    | .out =>
      { l with
        goodOut := bump32 l.goodOut
        serviceFrames := if kindOf t.arrived = .service then bump32 l.serviceFrames else l.serviceFrames }
    | .back => { l with goodBack := bump32 l.goodBack }
  else { l with poisoned := bump32 l.poisoned }

/-- Whether the Line Interface offers FRAME_ERRORS at a frame end (R5, R6, R19). -/
def hasErrors (t : Transit) : Bool := !goodFrame t.arrived || longFrame t.arrived

/-! ## OUT cycle frames (R14) -/

/-- The cycle numbers of the last two good OUT cycle frames (R14). -/
def remember (c : CycleNo) (l : LineIf) : LineIf := { l with remembered := (c :: l.remembered).take 2 }

/-- The line at the end of an OUT cycle frame (R14). -/
def outCycleLine (t : Transit) (l : LineIf) : LineIf :=
  if goodFrame t.arrived then remember (cycleNumber t.arrived) l else dropSync l

/-! ## BACK cycle frames (R10 to R16) -/

/-- What the cycle number of a good BACK cycle frame says (R11). -/
inductive Numbering where
  | step (n : Nat)
  | repeated
  | renumbered
deriving DecidableEq, Repr

/-- The treatment of R11 for cycle number `c`. -/
def numbering (last : Option CycleNo) (c : CycleNo) : Numbering :=
  match last with
  | none => .step 1
  | some l =>
    let d := (c - l).toNat
    if d = 0 then .repeated else if d ≤ 255 then .step d else .renumbered

/-- The sync count after a good frame in SYNCING, `n` before it (R14). -/
def syncAfter (matched : Bool) (step n : Nat) : Nat :=
  if matched then (if n = 0 then 1 else if step = 1 then n + 1 else 1) else 0

/-- Whether a refresh is REGULAR: COMMISSIONED, a good frame that is no renumbering, and an interval in the window
(R12). -/
def isRegular (p : Option Scalars) (renumbered good : Bool) (interval : Option Nat) : Bool :=
  match p, interval with
  | some c, some i =>
    good && !renumbered && decide (750 * c.period ≤ i) && decide (i ≤ 1250 * c.period)
  | _, _ => false

/-- The interval since the previous refresh, µs (R12). -/
def State.sinceRefresh (s : State) : Option Nat := s.line.lastRefreshAt.map fun t => s.now - t

/-- The line measures the interval and counts an IRREGULAR refresh of a COMMISSIONED part (R12, R18). -/
def measureInterval (regular : Bool) (cycle : Option CycleNo) (s : State) : State :=
  { s with
    line.interval := s.sinceRefresh,
    line.lastRefreshAt := some s.now,
    line.refreshCycle := cycle,
    line.irregular := if s.commissioned ∧ regular = false then bump32 s.line.irregular else s.line.irregular }

/-- The line becomes ONLINE: frames whose start has already arrived are not written or offered (R14). -/
def enterOnline (l : LineIf) : LineIf :=
  { l with
    state := .online
    outStore := l.outStore.map fun t => { t with sinceOnline := false }
    backStore := l.backStore.map fun t => { t with sinceOnline := false } }

/-- A SILENT line goes to SYNCING with sync count 0 (R16). -/
def leaveSilent (l : LineIf) : LineIf := if l.state = .silent then { l with state := .syncing, syncCount := 0 } else l

/-- The sync count of a SYNCING line moves, and at 8 the line is ONLINE (R14). -/
def moveSync (c : CycleNo) (step : Nat) (l : LineIf) : LineIf :=
  if l.state = .syncing then
    let n := syncAfter (decide (c ∈ l.remembered)) step l.syncCount
    let l := { l with syncCount := n }
    if n = 8 then enterOnline l else l
  else l

/-- The line at the end of a good BACK cycle frame that is not repeated (R11, R14, R16). -/
def goodBackLine (c : CycleNo) (step : Nat) (l : LineIf) : LineIf :=
  moveSync c step { leaveSilent l with lastCycle := some c }

/-- The line at a repeated frame (R11). -/
def repeatedLine (l : LineIf) : LineIf := dropSync { l with irregular := bump32 l.irregular }

/-- The line at the end of a poisoned BACK cycle frame (R11, R14). -/
def poisonedBackLine (l : LineIf) : LineIf := dropSync { l with lastCycle := l.lastCycle.map fun c => c + 1 }

/-- The refresh of a good BACK cycle frame, with the whole captured set (R8, R10). -/
def goodRefresh (t : Transit) (step : Nat) (renumbered : Bool) (s s' : State) : Refresh :=
  { good := true, cycle := some (cycleNumber t.arrived), step := step,
    regular := isRegular s.scalars? renumbered true s.sinceRefresh,
    slots := captureTo s.map 96 t, line := s'.line.state,
    entry := decide (s'.line.state = .online) && decide (s.line.state ≠ .online), errors := hasErrors t }

/-- The refresh of a poisoned BACK cycle frame (R10, R11). -/
def poisonedRefresh (t : Transit) (s : State) : Refresh :=
  { good := false, cycle := none, step := 1, regular := false, slots := [], line := s.line.state, entry := false,
    errors := hasErrors t }

end Sys2Proof.Machine
end

