-- ==== Sys2Proof/Machine/Reset.lean ====
section
/-! DEFINITION. The three kinds of reset and the supply (R1, R179, R188): POWER_ON, SUPPLY_LOSS, RESET_PIN_ASSERT,
RESET_PIN_RELEASE, SERVICE_RESET_WAIT_EXPIRY. -/

namespace Sys2Proof.Machine

/-- The whole part at the first instant of a reset, or of being without supply: every block holds its values after
reset, the relay is closed, and only the stored record, the pins and the model's own fields carry across (R1, R188;
log 10). `p` is the phase it stands in then, `c` the reset cause record. -/
def enterReset (p : Phase) (c : ResetCauses) (s : State) : State :=
  { State.reset with
    pending := s.pending
    now := s.now
    choices := s.choices
    phase := p
    pins := s.pins
    comm := { State.reset.comm with stored := s.comm.stored }
    agent := Agent.afterReset c }

/-- Supply reaches its working level (R188): the load starts at once, unless the RESET pin holds the part
(log 11). -/
def powerOn (s : State) : State :=
  match s.phase with
  | .unpowered =>
    if s.pins.resetAsserted then enterReset .heldByPin { powerOn := true, pin := true, service := false } s
    else enterReset .loading { powerOn := true, pin := false, service := false } s
  | .heldByPin | .loading | .running => s

/-- POWER_ON (R188). -/
def execPowerOn (s : State) : Host.Outcome State Fault Refusal := .next (powerOn s)

/-- The supply is lost: the relay joins U to D and all but the stored record is gone (R1, R184). -/
def supplyLoss (s : State) : State := enterReset .unpowered { powerOn := false, pin := false, service := false } s

/-- SUPPLY_LOSS (R1). -/
def execSupplyLoss (s : State) : Host.Outcome State Fault Refusal := .next (supplyLoss s)

/-- The RESET pin is asserted: a powered part is held in reset, PIN added to the cause record (R188). -/
def resetPinAssert (s : State) : State :=
  if s.pins.resetAsserted then s
  else
    let t := { s with pins.resetAsserted := true }
    match s.phase with
    | .unpowered => t
    | .heldByPin | .loading | .running => enterReset .heldByPin { s.agent.causes with pin := true } t

/-- RESET_PIN_ASSERT (R188). -/
def execResetPinAssert (s : State) : Host.Outcome State Fault Refusal := .next (resetPinAssert s)

/-- The RESET pin is released: the reset ends and the load starts (R188). -/
def resetPinRelease (s : State) : State :=
  let t := { s with pins.resetAsserted := false }
  match s.phase with
  | .heldByPin => { t with phase := .loading }
  | .unpowered | .loading | .running => t

/-- RESET_PIN_RELEASE (R188). -/
def execResetPinRelease (s : State) : Host.Outcome State Fault Refusal := .next (resetPinRelease s)

/-- The service reset: SERVICE is added and the load starts at once (R179, R188). -/
def serviceReset (s : State) : State := enterReset .loading { s.agent.causes with service := true } s

/-- The service reset wait expires (R179). -/
def serviceResetWaitExpiry (s : State) : State :=
  match s.agent.resetWait with
  | some d => serviceReset (reachDeadline d s)
  | none => s

/-- SERVICE_RESET_WAIT_EXPIRY (R179). -/
def execServiceResetWaitExpiry (s : State) : Host.Outcome State Fault Refusal := .next (serviceResetWaitExpiry s)

end Sys2Proof.Machine
end

