-- ==== Sys2Proof/Machine/FrameEnd.lean ====
section
/-! DEFINITION. The end of a frame (FRAME_END): cycle and service frames in both directions, and the board refresh
with every block's reaction to it. -/

namespace Sys2Proof.Machine

/-! ## The board refresh (R10) -/

/-- The reactions to one board refresh, each whole: the Line Interface's own offer and each block that reacts
(section 1.7). -/
inductive Reaction where
  | lineInterface
  | sampleBoard
  | commandTable
  | webSequencer
  | dryerSafety
  | scheduleUnit
  | solventUnit
  | incidentLog
deriving DecidableEq, Repr

/-- The reactions in the order of this model's list; `arrange` permutes it. -/
def reactions : List Reaction :=
  [.lineInterface, .sampleBoard, .commandTable, .webSequencer, .dryerSafety, .scheduleUnit, .solventUnit,
    .incidentLog]

/-- One block's reaction to a board refresh. -/
def react (r : Refresh) (x : Reaction) (s : State) : State :=
  match x with
  | .lineInterface => if r.errors then frameErrors s else s
  | .sampleBoard => boardReaction r s
  | .commandTable => commandReaction r s
  | .webSequencer => webReaction r s
  | .dryerSafety => dryerReaction r s
  | .scheduleUnit => scheduleReaction r s
  | .solventUnit => solventReaction r s
  | .incidentLog => quietDown r.step s

/-- `x` put into a list at position `i`, at the end when the list is shorter. -/
def insertNth (x : Reaction) : Nat → List Reaction → List Reaction
  | 0, l => x :: l
  | _ + 1, [] => [x]
  | i + 1, y :: l => y :: insertNth x i l

/-- The order number `k` spells: every order of the list is spelt by some number (log 1). -/
def arrange : List Reaction → Nat → List Reaction
  | [], _ => []
  | x :: l, k => insertNth x (k % (l.length + 1)) (arrange l (k / (l.length + 1)))

/-- Every reaction of an order, one after the other. -/
def reactAll (r : Refresh) (order : List Reaction) (s : State) : State := order.foldl (fun t x => react r x t) s

/-- A board refresh: the line measures it, the board takes the samples in, and the blocks react in the order
`order` spells (R10, R12, R26; log 1). -/
def boardRefresh (order : Nat) (r : Refresh) (s : State) : State :=
  reactAll r (arrange reactions order) (takeSamples r (measureInterval r.regular r.cycle s))

/-- The refresh of a frame end: FRAME_ERRORS is offered before the refresh or among the reactions to it, as the
open order has it (R19, R160; log 1). -/
def takeRefresh (choice : Nat) (r : Refresh) (s : State) : State :=
  if choice % 2 = 0 then
    boardRefresh (choice / 2) { r with errors := false } (react r .lineInterface (takeChoice s))
  else boardRefresh (choice / 2) r (takeChoice s)

/-! ## Cycle frames (R5, R10 to R16) -/

/-- FRAME_ERRORS at a frame end that gives no refresh (R19). -/
def offerErrors (t : Transit) (s : State) : State := if hasErrors t then frameErrors s else s

/-- An OUT cycle frame ends (R5, R14, R18, R19). -/
def outCycleEnd (t : Transit) (s : State) : State :=
  offerErrors t { s with line := outCycleLine t (countFrame .out t s.line) }

/-- A good BACK cycle frame that is not repeated: the line state moves, the silence timer restarts, the refresh
follows (R10, R11, R14 to R16). -/
def goodCycleEnd (choice : Nat) (t : Transit) (step : Nat) (renumbered : Bool) (s : State) : State :=
  let u := { s with line := goodBackLine (cycleNumber t.arrived) step s.line }
  takeRefresh choice (goodRefresh t step renumbered s u) (startSilence u)

/-- A poisoned BACK cycle frame ends (R10, R11, R14, R15). -/
def poisonedCycleEnd (choice : Nat) (t : Transit) (s : State) : State :=
  takeRefresh choice (poisonedRefresh t s) { s with line := poisonedBackLine s.line }

/-- A BACK cycle frame ends (R5, R10, R11). -/
def backCycleEnd (choice : Nat) (t : Transit) (s : State) : State :=
  let u := { s with line := countFrame .back t s.line }
  if goodFrame t.arrived then
    match numbering s.line.lastCycle (cycleNumber t.arrived) with
    | .step n => goodCycleEnd choice t n false u
    | .repeated => offerErrors t { u with line := repeatedLine u.line }
    | .renumbered => goodCycleEnd choice t 255 true u
  else poisonedCycleEnd choice t u

/-! ## Service frames (R17, R167, R168, R170) -/

/-- A place at the good end of the OUT service frame: what was taken waits (R167). -/
def confirmTaking (p : Place) : Place :=
  match p.stage with
  | .provisional => { p with stage := .waiting }
  | .waiting | .reply _ _ _ | .inFrame _ => p

/-- Whether a place is PROVISIONAL. -/
def Place.isProvisional (p : Place) : Bool := decide (p.stage = .provisional)

/-- The Service Agent at the end of an OUT service frame: takings and BUSY marks stand or are given back (R17,
R167, R168). -/
def settleTakings (good : Bool) (a : Agent) : Agent :=
  if good then { a with places := a.places.map confirmTaking, marks := a.marks ++ a.newMarks, newMarks := [] }
  else { a with places := a.places.filter fun p => !p.isProvisional, newMarks := [] }

/-- An OUT service frame ends. -/
def outServiceEnd (t : Transit) (s : State) : State :=
  offerErrors t
    { s with line := countFrame .out t s.line, agent := settleTakings (goodFrame t.arrived) s.agent }

/-- Whether a place's whole reply is in the BACK service frame now passing (R167). -/
def Place.isInFrame (p : Place) : Bool :=
  match p.stage with
  | .inFrame _ => true
  | .provisional | .waiting | .reply _ _ _ => false

/-- A place at the good end of a BACK service frame, when its reply is not yet whole (R170). -/
def keepPlaced (p : Place) : Place :=
  match p.stage with
  | .reply r n _ => { p with stage := .reply r n false }
  | .provisional | .waiting | .inFrame _ => p

/-- A place at the poisoned end of a BACK service frame: a reply with a part in it is placed again whole (R170). -/
def returnReply (p : Place) : Place :=
  match p.stage with
  | .inFrame r | .reply r _ true => { p with stage := .reply r 0 false }
  | .reply _ _ false | .provisional | .waiting => p

/-- The places at the end of a BACK service frame (R167, R170). -/
def settleReplies (good : Bool) (ps : List Place) : List Place :=
  if good then (ps.filter fun p => !p.isInFrame).map keepPlaced else ps.map returnReply

/-- Whether a good frame end delivers the answer that lets the service reset begin (R179). -/
def deliversReset (a : Agent) : Bool :=
  a.resetWait.isSome && a.places.any fun p =>
    decide (p.code = 25) && decide (p.stage = .inFrame { status := .done, data := [] })

/-- A BACK service frame ends. -/
def backServiceEnd (t : Transit) (s : State) : State :=
  let u := offerErrors t
    { s with
      line := countFrame .back t s.line
      agent.places := settleReplies (goodFrame t.arrived) s.agent.places }
  if goodFrame t.arrived && deliversReset s.agent then serviceReset u else u

/-! ## FRAME_END -/

/-- The frame `t` that was leaving in direction `d` has ended and given up its place (R2, R5). -/
def endOf (choice : Nat) (d : Dir) (t : Transit) (s : State) : State :=
  match kindOf t.arrived, d with
  | .foreign, _ => s
  | .cycle, .out => outCycleEnd t s
  | .cycle, .back => backCycleEnd choice t s
  | .service, .out => outServiceEnd t s
  | .service, .back => backServiceEnd t s

/-- The frame leaving in direction `d` ends, `us` µs later than the previous command that told the time; `choice`
is the open order of the reactions (R3, R5; log 1, log 2). -/
def frameEnd (choice : Nat) (d : Dir) (us : Nat) (s : State) : State :=
  if s.line.state = .bypass then s
  else
    match s.line.store d with
    | [] => s
    | t :: _ => endOf choice d t { elapse us s with line := releasePlace d t s.line }

/-- FRAME_END (R5). -/
def execFrameEnd (d : Dir) (us : Nat) (s : State) : Host.Outcome State Fault Refusal :=
  .next (frameEnd (Config.reactionOrder s.choices) d us s)

end Sys2Proof.Machine
end

