-- ==== Sys2Proof/Machine/Status.lean ====
section
/-! DEFINITION. The status items (R194, R195) and the passage of a status slot (STATUS_SLOT_WRITE). -/

namespace Sys2Proof.Machine

/-- Web state codes (R194). -/
def WebState.code : WebState → Nat
  | .stopped => 0
  | .threading => 1
  | .running => 2
  | .break => 3
  | .resuming => 4

/-- Dryer state codes (R194). -/
def DryerState.code : DryerState → Nat
  | .unpurged => 0
  | .purging => 1
  | .purged => 2
  | .firing => 3
  | .tripped => 4

/-- Line state codes (R194). -/
def LineState.code : LineState → Nat
  | .bypass => 0
  | .syncing => 1
  | .online => 2
  | .silent => 3

/-- The none code (R9). -/
def noneCode : Nat := 65535

/-- Item 0: web, dryer, line and commissioning state (R194). -/
def stateItem (s : State) : Nat :=
  s.web.state.code * 4096 + s.dryer.state.code * 256 + s.line.state.code * 16 + (if s.commissioned then 1 else 0)

/-- The highest class in the queue, 0 for none (R165). -/
def highestClass (q : List Incident) : Nat := q.foldl (fun m r => max m r.code.cls.rank) 0

/-- Item 5: queue count and highest class (R165, R194). -/
def queueItem (s : State) : Nat := s.log.queue.length * 256 + highestClass s.log.queue

/-- A bank number, or a code for none. -/
def bankCode (none' : Nat) (b : Option BankNo) : Nat := (b.map Fin.val).getD none'

/-- The pending mode, 255 for none (R194). -/
def pendingModeCode (q : Four Bank) : Nat :=
  match pendingBank q with
  | some b =>
    match (q.get b).state with
    | .pending .atSplice => 0
    | .pending .atStop => 1
    | .empty | .editing | .checking _ _ | .sealed | .active => 255
  | none => 255

/-- Item 6: ACTIVE bank, PENDING bank and mode (R56, R194). -/
def bankItem (s : State) : Nat :=
  bankCode 15 (activeBank s.banks) * 4096 + bankCode 15 (pendingBank s.banks) * 256 + pendingModeCode s.banks

/-- Item 7: the operation record (R175, R194). -/
def operationItem (s : State) : Nat := (if s.agent.storeRunning then 256 else 0) + bankCode 255 s.agent.checking

/-- A figure of the standing solvent publication, or the none code (R86). -/
def publishedItem (s : State) (f : SolvPub → Option Nat) : Nat := (s.solv.publication.bind f).getD noneCode

/-- The status item of a channel, 0 to 7, as it stands (R194). -/
def statusItem (ch : Nat) (s : State) : Nat :=
  match ch with
  | 0 => stateItem s
  | 1 => publishedItem s fun p => some p.combined
  | 2 => publishedItem s fun p => p.predicted
  | 3 => publishedItem s fun p => some (min p.floor 65535)
  | 4 => s.board.measuredLel.getD noneCode
  | 5 => queueItem s
  | 6 => bankItem s
  | _ => operationItem s

/-- Whether a status slot is the part's to write (R9). -/
def ownStatus (slot : Slot) (s : State) : Bool :=
  decide (slot.kind = .status) && decide (slot.node = s.node) && decide (slot.channel ≤ 7)

/-- The frame with quality GOOD and the item's value written into slot `i`, and with the slots before it captured under
map `m` (R8, R9, R191). -/
def writeStatus (m : List SlotEntry) (i : Nat) (v : Nat) (t : Transit) : Transit :=
  { t with
    forwarded := overwrite t.forwarded (slotOffset i + 2) (byte 0 :: be16 v)
    cursor := i + 1
    captured := captureTo m i t }

/-- The head of the BACK store replaced. -/
def setBackHead (t : Transit) (s : State) : State := { s with line.backStore := t :: s.line.backStore.tail }

/-- Slot `i` of the BACK cycle frame that is leaving streams past (R9). -/
def statusSlotWrite (i : Nat) (s : State) : State :=
  match s.line.backStore with
  | [] => s
  | t :: _ =>
    if s.line.state = .online ∧ kindOf t.arrived = .cycle ∧ headerComplete t.arrived = true
        ∧ t.sinceOnline = true ∧ t.cursor ≤ i then
      match slotAt t.arrived i with
      | some slot =>
        if ownStatus slot s then setBackHead (writeStatus s.map i (statusItem slot.channel s) t) s else s
      | none => s
    else s

/-- STATUS_SLOT_WRITE (R9). -/
def execStatusSlotWrite (i : Nat) (s : State) : Host.Outcome State Fault Refusal := .next (statusSlotWrite i s)

end Sys2Proof.Machine
end

