-- ==== Sys2Proof/Machine/ServiceLine.lean ====
section
/-! DEFINITION. Service frames as they stream past: a request record taken or refused (REQUEST_TAKING), a reply
place filled (REPLY_PLACE_FILL). -/

namespace Sys2Proof.Machine

/-- The places the Service Agent keeps (R167). -/
def placeCount : Nat := 8

/-- The BUSY marks that stand at once, at most (R168). -/
def markLimit : Nat := 8

/-- The BUSY marks made and neither written nor discarded: of the OUT frame in transit, standing, and bound to a
BACK service frame (R168; log 21). -/
def marksHeld (s : State) : Nat :=
  s.agent.newMarks.length + s.agent.marks.length
    + (s.line.backStore.map fun t => t.marks.length).sum

/-- The place a request record takes (R167, R192). -/
def newPlace (rec : List Byte) : Place :=
  { tag := rec.getD 1 0, code := byteAt rec 2, length := byteAt rec 3, params := rec.drop 4, stage := .provisional }

/-- A request refused at taking: the counter advances and a mark is left if fewer than eight stand (R168). -/
def refuseTaking (rec : List Byte) (s : State) : State :=
  { s with
    agent.busyRefusals := bump32 s.agent.busyRefusals
    agent.newMarks :=
      if marksHeld s < markLimit then s.agent.newMarks ++ [rec.getD 1 0] else s.agent.newMarks }

/-- A request record addressed to the part is taken, or refused BUSY (R167, R168). -/
def takeRequest (rec : List Byte) (s : State) : State :=
  if s.agent.places.length < placeCount then { s with agent.places := s.agent.places ++ [newPlace rec] }
  else refuseTaking rec s

/-- The frame with request record `i` blanked (R17, R193). -/
def blankRecord (i : Nat) (t : Transit) : Transit :=
  { t with forwarded := overwrite t.forwarded (requestOffset i) blankRequest, cursor := i + 1 }

/-- Request record `i` of the OUT service frame that is leaving streams past (R17, R167). -/
def requestTaking (i : Nat) (s : State) : State :=
  match s.line.outStore with
  | [] => s
  | t :: _ =>
    if s.line.state ≠ .bypass ∧ kindOf t.arrived = .service ∧ headerComplete t.arrived = true ∧ t.cursor ≤ i then
      match requestAt t.arrived i with
      | some rec => if byteAt rec 0 = s.node then setOutHead (blankRecord i t) (takeRequest rec s) else s
      | none => s
    else s

/-- REQUEST_TAKING (R167). -/
def execRequestTaking (i : Nat) (s : State) : Host.Outcome State Fault Refusal := .next (requestTaking i s)

/-! ## Replies (R168, R170) -/

/-- A place after part `n` of its reply went into the frame: in the frame whole, or with parts left (R167). -/
def placePart (r : Reply) (n : Nat) (p : Place) : Place :=
  { p with stage := if n + 1 < partCount r then .reply r (n + 1) true else .inFrame r }

/-- The next reply part due, with the places after it is placed: the first REPLY place in order (R170). -/
def nextPart : List Place → Option ((Byte × Reply × Nat) × List Place)
  | [] => none
  | p :: rest =>
    match p.stage with
    | .reply r n _ => some ((p.tag, r, n), placePart r n p :: rest)
    | .provisional | .waiting | .inFrame _ =>
      match nextPart rest with
      | some (x, rest') => some (x, p :: rest')
      | none => none

/-- The frame with reply place `i` written (R192, R193). -/
def fillPlace (i : Nat) (bytes : List Byte) (t : Transit) : Transit :=
  { t with forwarded := overwrite t.forwarded (replyOffset t.arrived i) bytes, cursor := i + 1 }

/-- A free place `i` of the frame `t` is filled: a BUSY mark of the frame first, then the next part due (R168,
R170). -/
def fillFree (i : Nat) (t : Transit) (s : State) : State :=
  match t.marks with
  | m :: rest => setBackHead { fillPlace i (replyPart s.node m busyReply 0) t with marks := rest } s
  | [] =>
    match nextPart s.agent.places with
    | some ((tag, r, n), ps) =>
      setBackHead (fillPlace i (replyPart s.node tag r n) t) { s with agent.places := ps }
    | none => setBackHead { t with cursor := i + 1 } s

/-- Reply place `i` of the BACK service frame that is leaving streams past (R170, R193). -/
def replyPlaceFill (i : Nat) (s : State) : State :=
  match s.line.backStore with
  | [] => s
  | t :: _ =>
    if s.line.state ≠ .bypass ∧ kindOf t.arrived = .service ∧ headerComplete t.arrived = true ∧ t.cursor ≤ i
        ∧ freePlaceAt t.arrived i = true then fillFree i t s
    else s

/-- REPLY_PLACE_FILL (R170). -/
def execReplyPlaceFill (i : Nat) (s : State) : Host.Outcome State Fault Refusal := .next (replyPlaceFill i s)

end Sys2Proof.Machine
end

