-- ==== Sys2Proof/Machine/Operands.lean ====
section
/-! DEFINITION. Requests at execution: the request at the head of the WAITING places, its code, its parameter bytes
and the forms they take (R169, R192, R193), and how a reply enters its place. -/

namespace Sys2Proof.Machine

/-! ## Replies -/

/-- A reply with a status and no data. -/
def plain (st : Status) : Reply := { status := st, data := [] }

/-- DONE with data. -/
def doneWith (d : List Byte) : Reply := { status := .done, data := d }

/-! ## Parameters (R192, R193) -/

/-- Parameter byte `i`. -/
def Place.byteParam (p : Place) (i : Nat) : Nat := byteAt p.params i

/-- The unsigned two-byte parameter at byte `i`. -/
def Place.wordParam (p : Place) (i : Nat) : Nat := byteAt p.params i * 256 + byteAt p.params (i + 1)

/-- Whether the parameter length serves a request that needs `need` bytes (R193). -/
def Place.lengthServes (p : Place) (need : Nat) : Bool := decide (need ≤ p.length) && decide (p.length ≤ 12)

/-- A bank parameter, 0 to 3 (R169). -/
def bankOf (n : Nat) : Option BankNo := if h : n < 4 then some ⟨n, h⟩ else none

/-- A flag parameter: on is 1 (R192). -/
def flagOf (n : Nat) : Option Bool := if n = 0 then some false else if n = 1 then some true else none

/-- The number of a two's complement word (R191). -/
def wordAs (signed : Bool) (n : Nat) : Int := if signed then signed16 n else (n : Int)

/-! ## Execution (R167, R169) -/

/-- Whether a place is WAITING. -/
def Place.isWaiting (p : Place) : Bool := decide (p.stage = .waiting)

/-- The request at the head of the WAITING places (R169). -/
def Agent.head (a : Agent) : Option Place := a.places.find? Place.isWaiting

/-- The places with the head request's place moved to REPLY (R169). -/
def answerHead (r : Reply) : List Place → List Place
  | [] => []
  | p :: rest =>
    if p.isWaiting then { p with stage := .reply r 0 false } :: rest else p :: answerHead r rest

/-- The reply put into the head request's place. -/
def reply (r : Reply) (s : State) : State := { s with agent.places := answerHead r s.agent.places }

/-- Whether requests execute: in a running part with no service reset waited for (R179, R188). -/
def executing (s : State) : Bool := decide (s.phase = .running) && s.agent.resetWait.isNone

/-- The head request executes if its code is one that `want` accepts: `body` judges it, gives the state it leaves
and the reply (R169). A row of another code is no execution (log 3). -/
def serve (want : Nat → Bool) (body : Place → State → State × Reply) (s : State) : State :=
  if executing s then
    match s.agent.head with
    | some p => if want p.code then reply (body p s).2 (body p s).1 else s
    | none => s
  else s

/-- The request of one catalogue position. -/
def isCode (n : Nat) (c : Nat) : Bool := decide (c = n)

/-- A body whose parameters must reach `need` bytes; otherwise RANGE and no change (R169, R193). -/
def needing (need : Nat) (body : Place → State → State × Reply) (p : Place) (s : State) : State × Reply :=
  if p.lengthServes need then body p s else (s, plain .range)

/-- A refusal that changes nothing. -/
def refuse (st : Status) (s : State) : State × Reply := (s, plain st)

/-! ## The catalogue's end (R169, R193) -/

/-- A code outside the catalogue: 0, or 26 to 255 (R193). -/
def outsideCatalogue (c : Nat) : Bool := decide (c = 0) || decide (25 < c)

/-- A request with a code outside the catalogue is answered UNKNOWN (R169). -/
def unknownRequest (_p : Place) (s : State) : State × Reply := refuse .unknown s

/-- UNKNOWN_REQUEST (R169). -/
def execUnknownRequest (s : State) : Host.Outcome State Fault Refusal := .next (serve outsideCatalogue unknownRequest s)

end Sys2Proof.Machine
end

