-- ==== Sys2Proof/Machine/BankOps.lean ====
section
/-! DEFINITION. The Recipe Banks' requests and the seal check (chapter 3): SEAL_BANK, BANK_CHECK_END, CLEAR_BANK,
ACTIVATE_BANK, CANCEL_ACTIVATION. -/

namespace Sys2Proof.Machine

/-! ## The seal check (R46) -/

/-- The first breakpoint whose speed is above 1,500 or not above its predecessor's, `i` being the index of the
first of the list and `prev` the speed before it (R46 SPEED_ORDER). -/
def speedFault (i : Nat) (prev : Option Nat) : List Breakpoint → Option Nat
  | [] => none
  | p :: rest =>
    if 1500 < p.speed then some i
    else
      match prev with
      | some v => if p.speed ≤ v then some i else speedFault (i + 1) (some p.speed) rest
      | none => speedFault (i + 1) (some p.speed) rest

/-- The first breakpoint whose value is below its predecessor's (R46 TEMP_ORDER). -/
def tempFault (i : Nat) (prev : Option Int) : List Breakpoint → Option Nat
  | [] => none
  | p :: rest =>
    match prev with
    | some v => if p.value < v then some i else tempFault (i + 1) (some p.value) rest
    | none => tempFault (i + 1) (some p.value) rest

/-- The check of one schedule (R46 step 2). -/
def checkSchedule (t : Table) (temps : Bool) (l : List Breakpoint) : Option CheckOutcome :=
  if l.length < 2 then some (.rejected .count (some t) (some l.length))
  else
    match speedFault 0 none l with
    | some i => some (.rejected .speedOrder (some t) (some i))
    | none =>
      if temps then
        match tempFault 0 none l with
        | some i => some (.rejected .tempOrder (some t) (some i))
        | none => none
      else none

/-- The schedules the check judges, in its order (R46). -/
def sealSchedules (b : BankNo) (zones circuits : Nat) (x : Recipe) : List (Table × Bool × List Breakpoint) :=
  ((zoneNumbers.filter fun k => decide (k.val < zones)).flatMap fun k =>
      [(.zoneTemp b k, true, x.zoneTemp.get k), (.zoneFan b k, false, x.zoneFan.get k)])
    ++ ((.exhaust b, false, x.exhaust)
      :: (circuitNumbers.filter fun j => decide (j.val < circuits)).map fun j =>
        (.chill b j, false, x.chill.get j))

/-- What the seal check finds under the counts it took (R46). -/
def sealCheck (b : BankNo) (zones circuits : Nat) (x : Recipe) : CheckOutcome :=
  if x.crawl < x.thread ∧ x.thread ≤ x.run then
    ((sealSchedules b zones circuits x).findSome? fun c => checkSchedule c.1 c.2.1 c.2.2).getD .passed
  else .rejected .thresholdOrder (some (.recipeScalars b)) none

/-! ## SEAL_BANK (R45) -/

/-- Whether a bank is CHECKING. -/
def BankState.isChecking : BankState → Bool
  | .checking _ _ => true
  | .empty | .editing | .sealed | .pending _ | .active => false

/-- Whether any bank is CHECKING (R45). -/
def anyChecking (q : Four Bank) : Bool := bankNumbers.any fun b => (q.get b).state.isChecking

/-- Bank `b` goes CHECKING under the counts in force (R45, R175). -/
def startCheck (b : BankNo) (s : State) : State :=
  { s with
    banks := setBankState s.banks b (.checking s.zoneCount s.circuitCount)
    agent.checking := some b }

/-- SEAL_BANK as it executes (R45). -/
def sealBank (p : Place) (s : State) : State × Reply :=
  match bankOf (p.byteParam 0) with
  | none => refuse .range s
  | some b =>
    if s.commissioned = false then refuse .state s
    else if anyChecking s.banks then refuse .busy s
    else if (s.banks.get b).state = .editing then (startCheck b s, plain .started)
    else refuse .state s

/-- SEAL_BANK (R45). -/
def execSealBank (s : State) : Host.Outcome State Fault Refusal := .next (serve (isCode 7) (needing 1 sealBank) s)

/-! ## BANK_CHECK_END (R47, R48) -/

/-- The outcome of the check of bank `b`, which took the counts given (R46, R48). -/
def checkOutcome (b : BankNo) (zones circuits : Nat) (s : State) : CheckOutcome :=
  if s.zoneCount = zones ∧ s.circuitCount = circuits then sealCheck b zones circuits (s.banks.get b).recipe
  else .rejected .countsChanged none none

/-- The state a check leaves its bank in (R47). -/
def stateAfterCheck : CheckOutcome → BankState
  | .passed => .sealed
  | .rejected _ _ _ => .editing

/-- The check of bank `b` ends with an outcome (R47, R175). -/
def endCheck (b : BankNo) (o : CheckOutcome) (s : State) : State :=
  offer .bankChecked (.bank b) (.outcome o)
    { s with
      banks := s.banks.set b { s.banks.get b with state := stateAfterCheck o, lastCheck := some o }
      agent.checking := none }

/-- The running check ends (R47). -/
def bankCheckEnd (s : State) : State :=
  match s.agent.checking with
  | none => s
  | some b =>
    match (s.banks.get b).state with
    | .checking z c => endCheck b (checkOutcome b z c s) s
    | .empty | .editing | .sealed | .pending _ | .active => s

/-- BANK_CHECK_END (R47). -/
def execBankCheckEnd (s : State) : Host.Outcome State Fault Refusal := .next (bankCheckEnd s)

/-! ## CLEAR_BANK (R49) -/

/-- CLEAR_BANK as it executes (R49). -/
def clearBank (p : Place) (s : State) : State × Reply :=
  match bankOf (p.byteParam 0) with
  | none => refuse .range s
  | some b =>
    match (s.banks.get b).state with
    | .empty | .editing | .sealed => ({ s with banks := s.banks.set b Bank.cleared }, plain .done)
    | .checking _ _ => refuse .busy s
    | .pending _ | .active => refuse .locked s

/-- CLEAR_BANK (R49). -/
def execClearBank (s : State) : Host.Outcome State Fault Refusal := .next (serve (isCode 8) (needing 1 clearBank) s)

/-! ## ACTIVATE_BANK (R50) -/

/-- The activation modes as ACTIVATE_BANK names them (R50). -/
inductive ActivationMode where
  | atOnce
  | atSplice
  | atStop
deriving DecidableEq, Repr

/-- The mode a parameter byte names (R192). -/
def activationModeOf : Nat → Option ActivationMode
  | 0 => some .atOnce
  | 1 => some .atSplice
  | 2 => some .atStop
  | _ => none

/-- Another bank that is PENDING returns to SEALED (R50 step 2). -/
def unqueue (q : Four Bank) : Four Bank :=
  match pendingBank q with
  | some b => setBankState q b .sealed
  | none => q

/-- Bank `b` becomes PENDING (R50). -/
def enqueue (b : BankNo) (m : PendingMode) (s : State) : State := { s with banks := setBankState s.banks b (.pending m) }

/-- A SEALED bank is activated (R50 steps 2 to 5). -/
def activate (b : BankNo) (m : ActivationMode) (s : State) : State :=
  let t := { s with banks := unqueue s.banks }
  match m with
  | .atOnce => changeover b t
  | .atStop => if s.web.state = .stopped then changeover b t else enqueue b .atStop t
  | .atSplice => enqueue b .atSplice t

/-- ACTIVATE_BANK as it executes (R50). -/
def activateBank (p : Place) (s : State) : State × Reply :=
  match bankOf (p.byteParam 0), activationModeOf (p.byteParam 1) with
  | some b, some m =>
    match (s.banks.get b).state with
    | .sealed => (activate b m s, doneWith (s.banks.get b).recipe.tag)
    | .checking _ _ => refuse .busy s
    | .empty | .editing | .pending _ | .active => refuse .state s
  | _, _ => refuse .range s

/-- ACTIVATE_BANK (R50). -/
def execActivateBank (s : State) : Host.Outcome State Fault Refusal :=
  .next (serve (isCode 9) (needing 2 activateBank) s)

/-! ## CANCEL_ACTIVATION (R54) -/

/-- CANCEL_ACTIVATION as it executes (R54). -/
def cancelActivation (_p : Place) (s : State) : State × Reply :=
  match pendingBank s.banks with
  | some _ => ({ s with banks := unqueue s.banks }, plain .done)
  | none => refuse .state s

/-- CANCEL_ACTIVATION (R54). -/
def execCancelActivation (s : State) : Host.Outcome State Fault Refusal :=
  .next (serve (isCode 10) (needing 0 cancelActivation) s)

end Sys2Proof.Machine
end

