-- ==== Sys2Proof/Machine/Tables.lean ====
section
/-! DEFINITION. The tables of the window (R173): how a request names them, their lengths, and the bytes of each
item as READ_NEXT returns it (R192). -/

namespace Sys2Proof.Machine

/-! ## Naming a table (R172, R192) -/

/-- A zone the selector names, within the zone count in force (R40, R172). -/
def State.zoneSelected (s : State) (sel : Nat) : Option Zone :=
  match wireFin 4 sel with
  | some k => if k.val < s.zoneCount then some k else none
  | none => none

/-- A circuit the selector names, within the circuit count in force (R40, R172). -/
def State.circuitSelected (s : State) (sel : Nat) : Option Circuit :=
  match wireFin 3 sel with
  | some j => if j.val < s.circuitCount then some j else none
  | none => none

/-- The table that a position, a bank and a selector name; none where R172 says RANGE. A selector that does not
apply is not read (log 24). -/
def tableOf (pos bank sel : Nat) (s : State) : Option Table :=
  match pos with
  | 0 => some .commScalars
  | 1 => some .slotMap
  | 2 => (bankOf bank).map .recipeScalars
  | 3 => (bankOf bank).map .profiles
  | 4 => (bankOf bank).bind fun b => (s.zoneSelected sel).map fun k => .zoneTemp b k
  | 5 => (bankOf bank).bind fun b => (s.zoneSelected sel).map fun k => .zoneFan b k
  | 6 => (bankOf bank).map .exhaust
  | 7 => (bankOf bank).bind fun b => (s.circuitSelected sel).map fun j => .chill b j
  | 8 => some .board
  | 9 => some .commands
  | 10 => some .sequencer
  | 11 => some .dryer
  | 12 => some .safetyParams
  | 13 => some .publications
  | _ => none

/-- A table's position in R173, from 0 (R192). -/
def Table.position : Table → Nat
  | .commScalars => 0
  | .slotMap => 1
  | .recipeScalars _ => 2
  | .profiles _ => 3
  | .zoneTemp _ _ => 4
  | .zoneFan _ _ => 5
  | .exhaust _ => 6
  | .chill _ _ => 7
  | .board => 8
  | .commands => 9
  | .sequencer => 10
  | .dryer => 11
  | .safetyParams => 12
  | .publications => 13

/-- The bank a table belongs to. -/
def Table.bank? : Table → Option BankNo
  | .recipeScalars b | .profiles b | .zoneTemp b _ | .zoneFan b _ | .exhaust b | .chill b _ => some b
  | .commScalars | .slotMap | .board | .commands | .sequencer | .dryer | .safetyParams | .publications => none

/-- The index selector a table carries on the wire, 0 where none applies (R192). -/
def Table.selector : Table → Nat
  | .zoneTemp _ k | .zoneFan _ k => k.val + 1
  | .chill _ j => j.val + 1
  | .commScalars | .slotMap | .recipeScalars _ | .profiles _ | .exhaust _ | .board | .commands | .sequencer
  | .dryer | .safetyParams | .publications => 0

/-- The three bytes of a table (R192). -/
def encTable (t : Table) : List Byte := [byte t.position, byte (bankCode 0 t.bank?), byte t.selector]

/-- The three bytes of a table that may be absent (log 15). -/
def encOptTable : Option Table → List Byte
  | none => [255, 255, 255]
  | some t => encTable t

/-- Whether a table is read-only (R173). -/
def Table.readOnly : Table → Bool
  | .board | .commands | .sequencer | .dryer | .safetyParams | .publications => true
  | .commScalars | .slotMap | .recipeScalars _ | .profiles _ | .zoneTemp _ _ | .zoneFan _ _ | .exhaust _
  | .chill _ _ => false

/-- Whether a table is a list (R173). -/
def Table.isList : Table → Bool
  | .slotMap | .zoneTemp _ _ | .zoneFan _ _ | .exhaust _ | .chill _ _ | .board | .commands => true
  | .commScalars | .recipeScalars _ | .profiles _ | .sequencer | .dryer | .safetyParams | .publications => false

/-- Whether a table is one of the commissioning tables (R172). -/
def Table.isCommissioning : Table → Bool
  | .commScalars | .slotMap => true
  | _ => false

/-- Whether a zone or circuit table's index lies within the counts in force (R174). -/
def Table.inForce (t : Table) (s : State) : Bool :=
  match t with
  | .zoneTemp _ k | .zoneFan _ k => decide (k.val < s.zoneCount)
  | .chill _ j => decide (j.val < s.circuitCount)
  | _ => true

/-! ## Schedules -/

/-- The schedule a table is. -/
def scheduleOf (t : Table) (q : Four Bank) : Option (List Breakpoint) :=
  match t with
  | .zoneTemp b k => some ((q.get b).recipe.zoneTemp.get k)
  | .zoneFan b k => some ((q.get b).recipe.zoneFan.get k)
  | .exhaust b => some (q.get b).recipe.exhaust
  | .chill b j => some ((q.get b).recipe.chill.get j)
  | _ => none

/-- Whether a schedule's values are signed (R191, R192). -/
def Table.signedValues : Table → Bool
  | .zoneTemp _ _ | .chill _ _ => true
  | _ => false

/-! ## Lengths (R173) -/

/-- A table's length: the items it holds, or its item count (R173). -/
def tableLength (t : Table) (s : State) : Nat :=
  match t with
  | .commScalars => 24
  | .slotMap => s.comm.working.map.length
  | .recipeScalars _ => 20
  | .profiles _ => 22
  | .zoneTemp _ _ | .zoneFan _ _ | .exhaust _ | .chill _ _ => ((scheduleOf t s.banks).getD []).length
  | .board => s.board.records.length
  | .commands => s.cmds.entries.length
  | .sequencer => 19
  | .dryer => 13
  | .safetyParams => 5
  | .publications => 43

/-- How many positions a table has: its largest position and one (R173). -/
def tablePositions (t : Table) (s : State) : Nat :=
  match t with
  | .slotMap => 96
  | .zoneTemp _ _ | .zoneFan _ _ | .exhaust _ | .chill _ _ => 8
  | .commScalars | .recipeScalars _ | .profiles _ | .board | .commands | .sequencer | .dryer | .safetyParams
  | .publications => tableLength t s

/-! ## Enumeration codes (R192) -/

/-- HIGH 0, LOW 1 (R182). -/
def levelCode : Level → Nat
  | .high => 0
  | .low => 1

/-- EDGE 0, LEVEL 1 (R182). -/
def PinMode.code : PinMode → Nat
  | .edge => 0
  | .level => 1

/-- NONE, ADVISORY, PROCESS, SAFETY (R182). -/
def Threshold.code : Threshold → Nat
  | .none => 0
  | .advisory => 1
  | .process => 2
  | .safety => 3

/-- OBSERVE, SUPERVISE, FULL (R20). -/
def Authority.code : Authority → Nat
  | .observe => 0
  | .supervise => 1
  | .full => 2

/-- SAMPLE, COMMAND, ECHO, HOLD (R20). -/
def EntryUse.code : EntryUse → Nat
  | .sample _ => 0
  | .command _ _ _ _ => 1
  | .echo _ => 2
  | .hold => 3

/-- GOOD, HELD, LOST (R25). -/
def RecQuality.code : RecQuality → Nat
  | .good => 0
  | .held => 1
  | .lost => 2

/-- MONITORED, UNMONITORED (R36). -/
def AnalyzerMode.code : AnalyzerMode → Nat
  | .monitored => 0
  | .unmonitored => 1

/-- LINE, SCHEDULE, SEQUENCE, SAFE (R135). -/
def Owner.code : Owner → Nat
  | .line => 0
  | .schedule => 1
  | .sequence => 2
  | .safe => 3

/-- UNCHECKED, RESPONSIVE, UNRESPONSIVE (R135). -/
def Responsiveness.code : Responsiveness → Nat
  | .unchecked => 0
  | .responsive => 1
  | .unresponsive => 2

/-- The reasons of R46, from 1 (R192). -/
def SealReason.code : SealReason → Nat
  | .count => 1
  | .speedOrder => 2
  | .tempOrder => 3
  | .thresholdOrder => 4
  | .countsChanged => 5

/-- The two bytes of a break source, BREAK_IN being role 18 (R192). -/
def encSource : BreakSource → List Byte
  | .breakIn => [18, 0]
  | .lineBreak => encRole .lineBreak
  | .sensor b => encRole (.breakSensor b)

/-! ## COMM_SCALARS and SLOT_MAP (R20, R182) -/

/-- Scalar `i` of the working copy (R182; log 12 for widths). -/
def scalarItem (i : Nat) (c : Scalars) : List Byte :=
  match i with
  | 0 => [byte c.node]
  | 1 => be16 c.period
  | 2 => be16 c.silence
  | 3 => be16 c.zones
  | 4 => be16 c.circuits
  | 5 => be16 c.analyzers
  | 6 => be16 c.sensors
  | 7 => [byte (levelCode c.pinLevel)]
  | 8 => [byte c.pinMode.code]
  | 9 => be16 c.lg
  | 10 => be16 c.fMon
  | 11 => be16 c.fUnmon
  | 12 => be16 c.trip
  | 13 => be16 c.confirm
  | 14 => be16 c.margin
  | 15 => be16 c.qFloor
  | 16 => be16 c.qCap
  | 17 => be16 c.volume
  | 18 => be16 c.changes
  | 19 => be16 c.purgeMin
  | 20 => be16 c.purgeHold
  | 21 => [byte c.threshold.code]
  | 22 => be16 c.gap
  | _ => encFlag c.speedCap

/-- The two bytes of a safe value, absent where there is none (R192). -/
def encSafe (r : Role) (v : Option Int) : List Byte :=
  if r.isSigned then encOptInt16 v else encOpt16 (v.map Int.toNat)

/-- The six bytes of a Slot Map entry after its role, absent fields absent (R20, R192). -/
def encUse (r : Role) : EntryUse → List Byte
  | .sample n | .echo n => byte n :: 255 :: (encSafe r none ++ [255, 255])
  | .command a v t m => 255 :: byte a.code :: (encSafe r v ++ [byte t, byte m])
  | .hold => 255 :: 255 :: (encSafe r none ++ [255, 255])

/-- The eleven bytes of a Slot Map entry (R192). -/
def entryItem (e : SlotEntry) : List Byte :=
  [byte e.node, byte e.channel, byte e.use.code] ++ (encRole e.role ++ encUse e.role e.use)

/-! ## The tables of a recipe bank (R39, R173) -/

/-- The bytes of a last check (R192; log 15 for an absent one's other bytes). -/
def encLastCheck : Option CheckOutcome → List Byte
  | none => [255, 255, 255, 255, 255]
  | some .passed => 0 :: (encOptTable none ++ [255])
  | some (.rejected r t i) => byte r.code :: (encOptTable t ++ encOpt8 i)

/-- Item `i` of RECIPE_SCALARS (R173). -/
def recipeItem (i : Nat) (b : Bank) : List Byte :=
  match i with
  | 0 => b.recipe.tag
  | 1 => be16 b.recipe.width
  | 10 => be16 b.recipe.evap
  | 11 => be16 b.recipe.crawl
  | 12 => be16 b.recipe.thread
  | 13 => be16 b.recipe.run
  | 14 => be16 b.recipe.dwell
  | 15 => be16 b.recipe.resumeTimeout
  | 16 => be16 b.recipe.devBand
  | 17 => be16 b.recipe.devConfirm
  | 18 => be16 b.recipe.tolerance
  | 19 => encLastCheck b.lastCheck
  | n => be16 (b.recipe.films.getD (n - 2) 0)

/-- Field `f` of a zone profile (R173). -/
def zoneProfileField (f : Nat) (z : ZoneProfile) : Int :=
  match f with
  | 0 => z.preheatTemp
  | 1 => z.preheatFan
  | 2 => z.breakTemp
  | _ => z.breakFan

/-- Field `f` of a circuit profile (R173). -/
def circuitProfileField (f : Nat) (c : CircuitProfile) : Int :=
  match f with
  | 0 => c.standby
  | _ => c.limit

/-- Item `i` of PROFILES (R173). -/
def profileItem (i : Nat) (x : Recipe) : List Byte :=
  if h : i < 16 then be16Int (zoneProfileField (i % 4) (x.zoneProfiles.get ⟨i / 4, by omega⟩))
  else if h : i < 22 then be16Int (circuitProfileField (i % 2) (x.circuitProfiles.get ⟨(i - 16) / 2, by omega⟩))
  else []

/-- The four bytes of a breakpoint (R192). -/
def breakpointItem (p : Breakpoint) : List Byte := be16 p.speed ++ be16Int p.value

/-! ## Read-only tables (R173, R192; log 16) -/

/-- A BOARD item (R25). -/
def boardItem (k : RecKey) (x : BoardRec) : List Byte :=
  encRole k.role ++ (encRoleValue k.role x.value ++ (byte x.quality.code :: (be16 x.age
    ++ (encRoleValue k.role x.lastGood ++ be16 x.clamps))))

/-- A forwarded value with its cycle number (R135). -/
def encForwarded (r : Role) (f : Option Forwarded) : List Byte :=
  encRoleValue r (f.map Forwarded.value) ++ encCycle (f.map Forwarded.cycle)

/-- A COMMANDS item (R135). -/
def commandItem (r : Role) (e : CmdEntry) : List Byte :=
  encRole r ++ (byte e.owner.code :: (encFlag e.released ++ (encForwarded r e.last ++ (encForwarded r e.previous
    ++ (be16 e.hold ++ (be16 e.miss ++ (byte e.responsiveness.code :: encFlag e.limited)))))))

/-- A member of four, none beyond the fourth. -/
def Four.get? {α : Type} (q : Four α) (i : Nat) : Option α := q.toList[i]?

/-- A break source that may be absent. -/
def encOptSource : Option BreakSource → List Byte
  | none => be16 65535
  | some b => encSource b

/-- Item `i`, from 5, of SEQUENCER: the resume record's fields (R106, R173). -/
def recordItem (i : Nat) (r : Option ResumeRecord) : List Byte :=
  match i with
  | 5 => encOpt8 (r.map fun x => x.bank.val)
  | 6 => encCycle (r.bind ResumeRecord.cycle)
  | 7 => encOpt16 (r.map ResumeRecord.lead)
  | 8 => encOptSource (r.map ResumeRecord.source)
  | 17 => encOpt16 ((r.bind ResumeRecord.exhaust).map Int.toNat)
  | 18 => encOpt16 (r.map ResumeRecord.second)
  | n =>
    if n < 13 then encOptInt16 (r.bind fun x => (x.temps.get? (n - 9)).join)
    else encOpt16 ((r.bind fun x => (x.fans.get? (n - 13)).join).map Int.toNat)

/-- Item `i` of SEQUENCER (R173). -/
def sequencerItem (i : Nat) (w : WebSeq) : List Byte :=
  match i with
  | 0 => encFlag w.preheat
  | 1 => be16 w.dwell
  | 2 => encOpt16 w.timer
  | 3 => encOptSource w.source
  | 4 => encOpt16 (w.exhaustAtBreak.map Int.toNat)
  | n => recordItem n w.record

/-- The purge hold's time remaining in ms, rounded up and at least 1 while it runs (R115; log 14). -/
def holdRemaining (s : State) : Option Nat := s.dryer.hold.map fun d => max 1 (ceilDiv (d - s.now) 1000)

/-- A condition's standing, with its confirm counter where it has one (R173). -/
def encCond (active : Bool) (count : Option Nat) : List Byte := encFlag active ++ encOpt16 count

/-- A condition with its counter. -/
def encCounted (c : Cond) : List Byte := encCond c.active (some c.count)

/-- Item `i` of DRYER (R173). -/
def dryerItem (i : Nat) (s : State) : List Byte :=
  match i with
  | 0 => be32 s.dryer.accumulator
  | 1 => be16 s.dryer.remainder
  | 2 => encOpt32 (s.scalars?.map requiredVolume)
  | 3 => encOpt32 (holdRemaining s)
  | 4 => encCond s.dryer.lelMeasured none
  | 5 => encCounted s.dryer.lelPredicted
  | 6 => encCounted s.dryer.exhaustLow
  | 7 => encCond s.dryer.exhaustUnresponsive none
  | 8 => encCounted s.dryer.flame.n0
  | 9 => encCounted s.dryer.flame.n1
  | 10 => encCounted s.dryer.flame.n2
  | 11 => encCounted s.dryer.flame.n3
  | _ => encCond s.dryer.lineSilent none

/-- The safety parameters in the order of R176. -/
inductive SafetyParam where
  | fMon
  | fUnmon
  | trip
  | margin
  | qFloor
deriving DecidableEq, Repr

/-- The parameter a position names. -/
def safetyParamOf : Nat → Option SafetyParam
  | 0 => some .fMon
  | 1 => some .fUnmon
  | 2 => some .trip
  | 3 => some .margin
  | 4 => some .qFloor
  | _ => none

/-- The stored figure of a parameter. -/
def SafetyParam.stored (p : SafetyParam) (c : Scalars) : Nat :=
  match p with
  | .fMon => c.fMon
  | .fUnmon => c.fUnmon
  | .trip => c.trip
  | .margin => c.margin
  | .qFloor => c.qFloor

/-- The override of a parameter. -/
def SafetyParam.override (p : SafetyParam) (o : Overrides) : Option Nat :=
  match p with
  | .fMon => o.fMon
  | .fUnmon => o.fUnmon
  | .trip => o.trip
  | .margin => o.margin
  | .qFloor => o.qFloor

/-- The effective value of a parameter, for F_mon and F_unmon the one that applies in the matching analyzer mode
(R73, R176). -/
def SafetyParam.effective (p : SafetyParam) (c : Scalars) (o : Overrides) : Nat :=
  match p with
  | .fMon => (effectiveParams c o .monitored).fEff
  | .fUnmon => (effectiveParams c o .unmonitored).fEff
  | .trip => (effectiveParams c o .monitored).trip
  | .margin => (effectiveParams c o .monitored).margin
  | .qFloor => (effectiveParams c o .monitored).qFloor

/-- The effective value as it stands; absent while UNCOMMISSIONED (R173, R176). -/
def effectiveNow (p : SafetyParam) (s : State) : Option Nat :=
  s.scalars?.map fun c => p.effective c s.agent.overrides

/-- An item of SAFETY_PARAMS (R173). -/
def safetyItem (i : Nat) (s : State) : List Byte :=
  match safetyParamOf i with
  | some p =>
    encOpt16 (s.scalars?.map p.stored) ++ (encOpt16 (p.override s.agent.overrides) ++ encOpt16 (effectiveNow p s))
  | none => []

/-- Item `i` of the schedule publication, 0 to 18 (R62, R173). -/
def schedItem (i : Nat) (p : Option SchedPub) : List Byte :=
  match i with
  | 0 => encOpt8 (p.map fun x => x.bank.val)
  | 1 => encCycle (p.bind SchedPub.cycle)
  | 2 => encOpt16 (p.map SchedPub.lead)
  | 11 => encOpt16 ((p.map SchedPub.exhaust).map Int.toNat)
  | n =>
    if n < 7 then encOptInt16 (p.bind fun x => (x.zoneTemp.get? (n - 3)).join)
    else if n < 11 then encOpt16 ((p.bind fun x => (x.zoneFan.get? (n - 7)).join).map Int.toNat)
    else if n < 15 then encOptInt16 (p.bind fun x => (x.chill.toList[n - 12]?).join)
    else encOpt16 (p.bind fun x => (x.ceiling.get? (n - 15)).join)

/-- The source of the thermal ceilings (R83; log 16): its kind, then its figures, those that do not apply
absent. -/
def encCeilingSource : Option CeilingSource → List Byte
  | none => 255 :: (encCycle none ++ (255 :: be16 65535))
  | some (.publication c b) => 0 :: (encCycle c ++ (byte b.val :: be16 65535))
  | some (.thread v) => 1 :: (encCycle none ++ (255 :: be16 v))

/-- Item `i` of the solvent publication, 0 to 23 (R84, R173). The range of cycles covered, 1 to 65,535, neither leaves
65,535 free for an absent value nor fills the field's width; that it takes a presence byte is the model's choice (R192,
log 36). -/
def solvItem (i : Nat) (p : Option SolvPub) : List Byte :=
  match i with
  | 0 => encOpt8 (p.map fun x => x.bank.val)
  | 1 => encCycle (p.bind SolvPub.cycle)
  | 2 => encPresent16 (p.map SolvPub.covered)
  | 3 => encOpt8 (p.map fun x => x.line.code)
  | 4 => encOpt8 (p.map fun x => x.web.code)
  | 5 => encOpt8 (p.map fun x => x.dryer.code)
  | 6 => encOpt16 (p.map SolvPub.speed)
  | 7 => encOpt8 (p.map fun x => if x.substituted then 1 else 0)
  | 8 => encOpt16 (p.map SolvPub.coverage)
  | 9 => encOpt8 (p.map fun x => x.mode.code)
  | 10 => encOpt16 (p.bind SolvPub.lel)
  | 11 => encOpt16 (p.map fun x => x.eff.fEff)
  | 12 => encOpt16 (p.map fun x => x.eff.trip)
  | 13 => encOpt16 (p.map fun x => x.eff.margin)
  | 14 => encOpt16 (p.map fun x => x.eff.qFloor)
  | 15 => encOpt16 (p.bind SolvPub.flow)
  | 16 => encOpt32 (p.map SolvPub.rate)
  | 17 => encOpt16 (p.bind SolvPub.predicted)
  | 18 => encOpt32 (p.map SolvPub.qMin)
  | 19 => encOpt32 (p.map SolvPub.floor)
  | 20 => encOpt16 (p.map SolvPub.solventCeiling)
  | 21 => encOpt16 (p.map SolvPub.measuredCeiling)
  | 22 => encCeilingSource (p.map SolvPub.source)
  | _ => encOpt16 (p.map SolvPub.combined)

/-- Item `i` of PUBLICATIONS (R173). -/
def publicationItem (i : Nat) (s : State) : List Byte :=
  if i < 19 then schedItem i s.sched.publication else solvItem (i - 19) s.solv.publication

/-! ## READ_NEXT's item (R173, R174) -/

/-- Item `i` of a table, `i` being below its length (R173). -/
def itemAt (t : Table) (i : Nat) (s : State) : List Byte :=
  match t with
  | .commScalars => scalarItem i s.comm.working.scalars
  | .slotMap => ((s.comm.working.map[i]?).map entryItem).getD []
  | .recipeScalars b => recipeItem i (s.banks.get b)
  | .profiles b => profileItem i (s.banks.get b).recipe
  | .zoneTemp _ _ | .zoneFan _ _ | .exhaust _ | .chill _ _ =>
    ((((scheduleOf t s.banks).getD [])[i]?).map breakpointItem).getD []
  | .board => ((s.board.records[i]?).map fun p => boardItem p.1 p.2).getD []
  | .commands => ((s.cmds.entries[i]?).map fun p => commandItem p.1 p.2).getD []
  | .sequencer => sequencerItem i s.web
  | .dryer => dryerItem i s
  | .safetyParams => safetyItem i s
  | .publications => publicationItem i s

end Sys2Proof.Machine
end

