-- ==== Sys2Proof/Machine/TableWrites.lean ====
section
/-! DEFINITION. What WRITE_NEXT writes (R22, R39, R182): each item read from its parameter bytes, checked against its
range, and put into the working copy or the bank. -/

namespace Sys2Proof.Machine

/-! ## COMM_SCALARS (R182) -/

/-- How many bytes scalar `i` takes (R192; log 12). -/
def scalarWidth (i : Nat) : Nat := if i = 0 ∨ i = 7 ∨ i = 8 ∨ i = 21 ∨ i = 23 then 1 else 2

/-- A scalar written when its value lies in its range. -/
def ranged (lo hi v : Nat) (c : Scalars) : Option Scalars := if lo ≤ v ∧ v ≤ hi then some c else none

/-- Scalar `i` written with `v`; none outside its write range (R182). -/
def writeScalar (i v : Nat) (c : Scalars) : Option Scalars :=
  match i with
  | 0 => ranged 1 250 v { c with node := v }
  | 1 => ranged 1 50 v { c with period := v }
  | 2 => ranged 5 2000 v { c with silence := v }
  | 3 => ranged 1 4 v { c with zones := v }
  | 4 => ranged 1 3 v { c with circuits := v }
  | 5 => ranged 0 2 v { c with analyzers := v }
  | 6 => ranged 0 4 v { c with sensors := v }
  | 7 => ranged 0 1 v { c with pinLevel := if v = 0 then .high else .low }
  | 8 => ranged 0 1 v { c with pinMode := if v = 0 then .edge else .level }
  | 9 => ranged 10 100 v { c with lg := v }
  | 10 => ranged 10 50 v { c with fMon := v }
  | 11 => ranged 5 50 v { c with fUnmon := v }
  | 12 => ranged 100 600 v { c with trip := v }
  | 13 => ranged 1 50 v { c with confirm := v }
  | 14 => ranged 0 50 v { c with margin := v }
  | 15 => ranged 500 30000 v { c with qFloor := v }
  | 16 => ranged 1000 60000 v { c with qCap := v }
  | 17 => ranged 1 200 v { c with volume := v }
  | 18 => ranged 4 10 v { c with changes := v }
  | 19 => ranged 500 60000 v { c with purgeMin := v }
  | 20 => ranged 30 900 v { c with purgeHold := v }
  | 21 =>
    ranged 0 3 v { c with
      threshold := if v = 0 then .none else if v = 1 then .advisory else if v = 2 then .process else .safety }
  | 22 => ranged 0 1000 v { c with gap := v }
  | 23 => ranged 0 1 v { c with speedCap := decide (v = 1) }
  | _ => none

/-- The value of scalar `i` in the parameters. -/
def scalarParam (i : Nat) (p : Place) : Nat := if scalarWidth i = 1 then p.byteParam 0 else p.wordParam 0

/-! ## SLOT_MAP (R20, R22) -/

/-- A number within bounds. -/
def bounded (lo hi n : Nat) : Option Nat := if lo ≤ n ∧ n ≤ hi then some n else none

/-- The authority a byte names (R20, R192). -/
def authorityOf : Nat → Option Authority
  | 0 => some .observe
  | 1 => some .supervise
  | 2 => some .full
  | _ => none

/-- The absent code of a two-byte field of a role (R192). -/
def absentWord (r : Role) : Nat := if r.isSigned then 32768 else 65535

/-- Whether a role is a zone's burner enable. -/
def Role.isBurnerEnable : Role → Bool
  | .zoneBurnerEn _ => true
  | _ => false

/-- The safe value two bytes carry for a command role; none where R22 refuses it. A ZONE_BURNER_EN entry holds 0
(R22). -/
def safeParam (r : Role) (w : Nat) : Option (Option Int) :=
  if r.isBurnerEnable then (if w = absentWord r ∨ w = 0 then some (some 0) else none)
  else if w = absentWord r then some none
  else if r.lowest ≤ wordAs r.isSigned w ∧ wordAs r.isSigned w ≤ r.highest then some (some (wordAs r.isSigned w))
  else none

/-- The kind and its fields, for a role; none where R22 refuses them. Fields that do not apply are not read
(R20). -/
def useParam (kind : Nat) (r : Role) (p : Place) : Option EntryUse :=
  match kind with
  | 0 => if r.isCommand then none else (bounded 1 64 (p.byteParam 5)).map .sample
  | 1 =>
    if r.isCommand then
      match authorityOf (p.byteParam 6), safeParam r (p.wordParam 7), bounded 0 100 (p.byteParam 9),
          bounded 1 64 (p.byteParam 10) with
      | some a, some v, some t, some m => some (.command a v t m)
      | _, _, _, _ => none
    else none
  | 2 => if r.isCommand then (bounded 1 64 (p.byteParam 5)).map .echo else none
  | 3 => if r.isCommand then some .hold else none
  | _ => none

/-- The Slot Map entry the parameters carry; none where R22 refuses it. -/
def entryParam (p : Place) : Option SlotEntry :=
  match bounded 1 250 (p.byteParam 0), bounded 0 15 (p.byteParam 1), roleOfWire (p.byteParam 3) (p.byteParam 4) with
  | some n, some c, some r => (useParam (p.byteParam 2) r p).map fun u => { node := n, channel := c, role := r, use := u }
  | _, _, _ => none

/-! ## Recipe banks (R39) -/

/-- Whether a byte is a printable character, from space to tilde (R39). The manual names no character code; that it is
ASCII, where these are 32 to 126, is presumed (log 34). -/
def printable (b : Byte) : Bool := decide (32 ≤ b.toNat) && decide (b.toNat ≤ 126)

/-- A recipe written when a value lies in its range. -/
def inRange (lo hi v : Nat) (x : Recipe) : Option Recipe := if lo ≤ v ∧ v ≤ hi then some x else none

/-- Item `i` of RECIPE_SCALARS written; none outside its range, and always none for the last check (R39). -/
def writeRecipeItem (i : Nat) (p : Place) (x : Recipe) : Option Recipe :=
  let v := p.wordParam 0
  match i with
  | 0 =>
    let tag := (List.range 8).map fun n => byte (p.byteParam n)
    if tag.all printable then some { x with tag := tag } else none
  | 1 => inRange 300 2100 v { x with width := v }
  | 10 => inRange 50 100 v { x with evap := v }
  | 11 => inRange 1 20 v { x with crawl := v }
  | 12 => inRange 10 150 v { x with thread := v }
  | 13 => inRange 20 600 v { x with run := v }
  | 14 => inRange 0 3000 v { x with dwell := v }
  | 15 => inRange 100 60000 v { x with resumeTimeout := v }
  | 16 => inRange 10 500 v { x with devBand := v }
  | 17 => inRange 1 500 v { x with devConfirm := v }
  | 18 => inRange 0 300 v { x with tolerance := v }
  | n => if 2 ≤ n ∧ n ≤ 9 then inRange 0 1500 v { x with films := x.films.set (n - 2) v } else none

/-- How many bytes item `i` of RECIPE_SCALARS takes: the tag eight, the last check five, any other two (R192). -/
def recipeWidth (i : Nat) : Nat := if i = 0 then 8 else if i = 19 then 5 else 2

/-- A zone profile with field `f` written. -/
def setZoneProfile (f : Nat) (v : Int) (z : ZoneProfile) : ZoneProfile :=
  match f with
  | 0 => { z with preheatTemp := v }
  | 1 => { z with preheatFan := v }
  | 2 => { z with breakTemp := v }
  | _ => { z with breakFan := v }

/-- A circuit profile with field `f` written. -/
def setCircuitProfile (f : Nat) (v : Int) (c : CircuitProfile) : CircuitProfile :=
  match f with
  | 0 => { c with standby := v }
  | _ => { c with limit := v }

/-- Item `i` of PROFILES written; none outside its range (R39). -/
def writeProfileItem (i : Nat) (p : Place) (x : Recipe) : Option Recipe :=
  let w := p.wordParam 0
  if h : i < 16 then
    let k : Zone := ⟨i / 4, by omega⟩
    let temp := decide (i % 2 = 0)
    let v := wordAs temp w
    if (if temp then -400 ≤ v ∧ v ≤ 4500 else v ≤ 1000) then
      some { x with zoneProfiles := x.zoneProfiles.set k (setZoneProfile (i % 4) v (x.zoneProfiles.get k)) }
    else none
  else if h : i < 22 then
    let j : Circuit := ⟨(i - 16) / 2, by omega⟩
    let v := wordAs true w
    if -400 ≤ v ∧ v ≤ 1000 then
      some { x with circuitProfiles := x.circuitProfiles.set j (setCircuitProfile (i % 2) v (x.circuitProfiles.get j)) }
    else none
  else none

/-- The value range of a schedule (R39). -/
def Table.valueRange : Table → Int × Int
  | .zoneTemp _ _ => (-400, 4500)
  | .zoneFan _ _ => (0, 1000)
  | .chill _ _ => (-400, 1000)
  | _ => (0, 60000)

/-- The breakpoint the parameters carry; none where its value lies outside the schedule's range (R40). -/
def breakpointParam (t : Table) (p : Place) : Option Breakpoint :=
  let v := wordAs t.signedValues (p.wordParam 2)
  if t.valueRange.1 ≤ v ∧ v ≤ t.valueRange.2 then some { speed := p.wordParam 0, value := v } else none

/-- A list with `x` written at position `i`: replaced below its length, appended at it (R174). -/
def putAt {α : Type} (i : Nat) (x : α) (l : List α) : List α := if i < l.length then l.set i x else l ++ [x]

/-- A recipe with the schedule that table `t` is replaced. -/
def setSchedule (t : Table) (l : List Breakpoint) (x : Recipe) : Recipe :=
  match t with
  | .zoneTemp _ k => { x with zoneTemp := x.zoneTemp.set k l }
  | .zoneFan _ k => { x with zoneFan := x.zoneFan.set k l }
  | .exhaust _ => { x with exhaust := l }
  | .chill _ j => { x with chill := x.chill.set j l }
  | _ => x

/-- The bytes item `i` takes as a parameter (R192). Beyond the last item of a fixed table, and on a read-only table,
there is no item to write: the bytes needed there are the model's choice (log 23). -/
def itemWidth (t : Table) (i : Nat) : Nat :=
  match t with
  | .commScalars => scalarWidth i
  | .slotMap => 11
  | .recipeScalars _ => recipeWidth i
  | .profiles _ => 2
  | .zoneTemp _ _ | .zoneFan _ _ | .exhaust _ | .chill _ _ => 4
  | .board | .commands | .sequencer | .dryer | .safetyParams | .publications => 1

/-- Bank `b` with a recipe, EDITING after a taken write (R43). -/
def editBank (b : BankNo) (x : Recipe) (s : State) : State :=
  { s with banks := s.banks.set b { s.banks.get b with state := .editing, recipe := x } }

/-- Item `i` of table `t` written from the parameters; none where the item is refused RANGE (R22, R39, R174,
R182). -/
def writeItem (t : Table) (i : Nat) (p : Place) (s : State) : Option State :=
  match t with
  | .commScalars =>
    (writeScalar i (scalarParam i p) s.comm.working.scalars).map fun c => { s with comm.working.scalars := c }
  | .slotMap => (entryParam p).map fun e => { s with comm.working.map := putAt i e s.comm.working.map }
  | .recipeScalars b => (writeRecipeItem i p (s.banks.get b).recipe).map fun x => editBank b x s
  | .profiles b => (writeProfileItem i p (s.banks.get b).recipe).map fun x => editBank b x s
  | .zoneTemp b _ | .zoneFan b _ | .exhaust b | .chill b _ =>
    (breakpointParam t p).map fun q =>
      editBank b (setSchedule t (putAt i q ((scheduleOf t s.banks).getD [])) (s.banks.get b).recipe) s
  | .board | .commands | .sequencer | .dryer | .safetyParams | .publications => none

end Sys2Proof.Machine
end

