-- ==== Sys2Proof/Machine/Window.lean ====
section
/-! DEFINITION. The table window (R172 to R174): OPEN_WINDOW, WRITE_NEXT, READ_NEXT, CLOSE_WINDOW. -/

namespace Sys2Proof.Machine

/-- The window is closed. -/
def shutWindow (s : State) : State := { s with agent.window := none }

/-- A window request refused, the window closing (R174). -/
def closeWith (st : Status) (s : State) : State × Reply := (shutWindow s, plain st)

/-- What stands in the way of a write to a table: the bank's state (R43), or a running STORE (R172, R174). -/
def writeBar (t : Table) (s : State) : Option Status :=
  match t.bank? with
  | some b =>
    match (s.banks.get b).state with
    | .empty | .editing | .sealed => none
    | .checking _ _ => some .busy
    | .pending _ | .active => some .locked
  | none => if t.isCommissioning && s.agent.storeRunning then some .busy else none

/-! ## OPEN_WINDOW (R172) -/

/-- The direction a signed byte names: 1 or -1 (R192). -/
def directionOf (n : Nat) : Option Bool := if n = 1 then some true else if n = 255 then some false else none

/-- The mode a byte names (R192). -/
def windowModeOf : Nat → Option WindowMode
  | 0 => some .read
  | 1 => some .write
  | 2 => some .replace
  | _ => none

/-- The list emptied as a REPLACE window opens (R43, R172). -/
def emptyList (t : Table) (s : State) : State :=
  match t with
  | .slotMap => { s with comm.working.map := [] }
  | .zoneTemp b _ | .zoneFan b _ | .exhaust b | .chill b _ =>
    editBank b (setSchedule t [] (s.banks.get b).recipe) s
  | _ => s

/-- Why a window on table `t` in a mode at a start position is not opened, in the order of R172. -/
def openBar (t : Table) (m : WindowMode) (start : Nat) (s : State) : Option Status :=
  if m ≠ .read ∧ t.readOnly = true then some .range
  else if m = .replace ∧ t.isList = false then some .range
  else
    match (if m = .read then none else writeBar t s) with
    | some st => some st
    | none => if start < tablePositions t s then none else some .range

/-- The window opens; a REPLACE window empties its list; the reply carries the table's length (R172). -/
def openAt (t : Table) (m : WindowMode) (forward : Bool) (start : Nat) (s : State) : State × Reply :=
  let u := if m = .replace then emptyList t s else s
  ({ u with agent.window := some { table := t, mode := m, forward := forward, cursor := (start : Int) } },
    doneWith (be16 (tableLength t u)))

/-- OPEN_WINDOW as it is judged, no window being open (R172). -/
def openJudged (p : Place) (s : State) : State × Reply :=
  match tableOf (p.byteParam 0) (p.byteParam 1) (p.byteParam 2) s, directionOf (p.byteParam 5),
      windowModeOf (p.byteParam 6) with
  | some t, some f, some m =>
    match openBar t m (p.wordParam 3) s with
    | some st => refuse st s
    | none => openAt t m f (p.wordParam 3) s
  | _, _, _ => refuse .range s

/-- OPEN_WINDOW as it executes: an open window is closed first, whatever the outcome (R172). -/
def openWindow (p : Place) (s : State) : State × Reply := needing 7 openJudged p (shutWindow s)

/-- OPEN_WINDOW (R172). -/
def execOpenWindow (s : State) : Host.Outcome State Fault Refusal := .next (serve (isCode 3) openWindow s)

/-! ## READ_NEXT (R174) -/

/-- A window after its cursor has moved by the direction. -/
def Window.moved (w : Window) : Window := { w with cursor := if w.forward then w.cursor + 1 else w.cursor - 1 }

/-- READ_NEXT through an open window (R174). -/
def readThrough (w : Window) (s : State) : State × Reply :=
  if w.table.inForce s = false then closeWith .range s
  else if 0 ≤ w.cursor ∧ w.cursor < (tableLength w.table s : Int) then
    ({ s with agent.window := some w.moved }, doneWith (itemAt w.table w.cursor.toNat s))
  else closeWith .range s

/-- READ_NEXT as it executes (R169, R174). -/
def readNext (p : Place) (s : State) : State × Reply :=
  if p.lengthServes 0 then
    match s.agent.window with
    | none => refuse .noWindow s
    | some w => readThrough w s
  else closeWith .range s

/-- READ_NEXT (R174). -/
def execReadNext (s : State) : Host.Outcome State Fault Refusal := .next (serve (isCode 5) readNext s)

/-! ## WRITE_NEXT (R174) -/

/-- Whether a write at the cursor is beyond the table (R174). -/
def beyondTable (w : Window) (s : State) : Bool :=
  decide (w.cursor < 0)
    || (if w.table.isList then
          decide ((tableLength w.table s : Int) < w.cursor) || decide ((tablePositions w.table s : Int) ≤ w.cursor)
        else decide ((tableLength w.table s : Int) ≤ w.cursor))

/-- WRITE_NEXT through a window in WRITE or REPLACE mode, judged in the order of R174. -/
def writeThrough (w : Window) (p : Place) (s : State) : State × Reply :=
  match writeBar w.table s with
  | some st => closeWith st s
  | none =>
    if beyondTable w s then closeWith .range s
    else
      match writeItem w.table w.cursor.toNat p s with
      | none => refuse .range s
      | some t => ({ t with agent.window := some w.moved }, plain .done)

/-- How many parameter bytes WRITE_NEXT needs: those of the item at the cursor, and with no window open one byte, the
least an item takes (R171, R193). With the cursor below 0 there is no item: that the first item's width is needed there
is the model's choice (log 23). -/
def writeNeed : Option Window → Nat
  | none => 1
  | some w => itemWidth w.table w.cursor.toNat

/-- WRITE_NEXT with enough parameters, through an open window (R174; log 23). -/
def writeOpen (w : Window) (p : Place) (s : State) : State × Reply :=
  match w.mode with
  | .read => refuse .state s
  | .write | .replace => if w.table.inForce s = false then closeWith .range s else writeThrough w p s

/-- WRITE_NEXT as it executes: missing parameters are judged before anything else (R169, R174). -/
def writeNext (p : Place) (s : State) : State × Reply :=
  if p.lengthServes (writeNeed s.agent.window) then
    match s.agent.window with
    | none => refuse .noWindow s
    | some w => writeOpen w p s
  else closeWith .range s

/-- WRITE_NEXT (R174). -/
def execWriteNext (s : State) : Host.Outcome State Fault Refusal := .next (serve (isCode 4) writeNext s)

/-! ## CLOSE_WINDOW (R174) -/

/-- CLOSE_WINDOW as it executes (R169, R174). -/
def closeWindow (p : Place) (s : State) : State × Reply :=
  if p.lengthServes 0 then
    match s.agent.window with
    | none => refuse .noWindow s
    | some _ => closeWith .done s
  else closeWith .range s

/-- CLOSE_WINDOW (R174). -/
def execCloseWindow (s : State) : Host.Outcome State Fault Refusal := .next (serve (isCode 6) closeWindow s)

end Sys2Proof.Machine
end

