-- ==== Sys2Proof/Machine/DryerRequests.lean ====
section
/-! DEFINITION. The Dryer Safety Unit's requests (chapter 7): START_PURGE, ABORT_PURGE, RESET_TRIP,
READ_TRIP_CAPTURE. -/

namespace Sys2Proof.Machine

/-! ## START_PURGE and ABORT_PURGE (R128, R130) -/

/-- START_PURGE as it executes, its cases in the order of R128. -/
def startPurge (_p : Place) (s : State) : State × Reply :=
  if s.commissioned = false then refuse .state s
  else if s.agent.storeRunning then refuse .busy s
  else if s.dryer.state ≠ .unpurged then refuse .state s
  else if s.line.state ≠ .online then refuse .state s
  else
    let t := setDryer .purging s
    ({ t with dryer.accumulator := 0, dryer.remainder := 0 }, plain .done)

/-- START_PURGE (R128). -/
def execStartPurge (s : State) : Host.Outcome State Fault Refusal := .next (serve (isCode 13) (needing 0 startPurge) s)

/-- ABORT_PURGE as it executes: the figures reached are kept (R130). -/
def abortPurge (_p : Place) (s : State) : State × Reply :=
  if s.dryer.state = .purging then (setDryer .unpurged s, plain .done) else refuse .state s

/-- ABORT_PURGE (R130). -/
def execAbortPurge (s : State) : Host.Outcome State Fault Refusal := .next (serve (isCode 14) (needing 0 abortPurge) s)

/-! ## RESET_TRIP (R133) -/

/-- Condition codes in the order of R119 (R192). -/
def SafetyCondition.number : SafetyCondition → Nat
  | .lelMeasuredHigh => 0
  | .lelPredictedHigh => 1
  | .exhaustLow => 2
  | .exhaustUnresponsive => 3
  | .flameWithoutEnable => 4
  | .lineSilent => 5

/-- The lowest zone whose FLAME_WITHOUT_ENABLE is active. -/
def activeFlame (d : DryerUnit) : Option Zone := zoneNumbers.find? fun k => (d.flame.get k).active

/-- The first active condition in the order of R119, with the role that is its subject (R133). -/
def firstActive (d : DryerUnit) : Option (SafetyCondition × Option Role) :=
  if d.lelMeasured then some (.lelMeasuredHigh, none)
  else if d.lelPredicted.active then some (.lelPredictedHigh, none)
  else if d.exhaustLow.active then some (.exhaustLow, none)
  else if d.exhaustUnresponsive then some (.exhaustUnresponsive, some .exhaustSp)
  else
    match activeFlame d with
    | some k => some (.flameWithoutEnable, some (.zoneFlame k))
    | none => if d.lineSilent then some (.lineSilent, none) else none

/-- The lowest zone whose flame is not GOOD 0 (R133). -/
def litZone (s : State) : Option Zone :=
  s.flameZones.find? fun k => !decide (s.board.fresh (.zoneFlame k) = some 0)

/-- A refused RESET_TRIP names a condition and a role, each absent where it does not apply (R133, R171). -/
def resetRefusal (c : Option SafetyCondition) (r : Option Role) : Reply :=
  { status := .state, data := encOpt8 (c.map SafetyCondition.number) ++ encOptRole r }

/-- The confirm counters of the conditions at 0 (R133). -/
def clearCounters (d : DryerUnit) : DryerUnit :=
  { d with
    lelPredicted := { d.lelPredicted with count := 0 }
    exhaustLow := { d.exhaustLow with count := 0 }
    flame := Four.ofFn fun k => { d.flame.get k with count := 0 } }

/-- The condition a capture holds, as an incident value. -/
def captureValue : Option Capture → IncidentValue
  | none => .absent
  | some c => .condition c.condition

/-- An accepted RESET_TRIP (R133). -/
def acceptReset (s : State) : State :=
  let v := captureValue s.dryer.capture
  let t := setDryer .unpurged s
  offer .tripReset .none v { t with dryer := { clearCounters t.dryer with capture := none, furtherTrips := 0 } }

/-- RESET_TRIP as it executes (R133). -/
def resetTrip (_p : Place) (s : State) : State × Reply :=
  if s.dryer.state ≠ .tripped then (s, resetRefusal none none)
  else
    match firstActive s.dryer with
    | some (c, r) => (s, resetRefusal (some c) r)
    | none =>
      match litZone s with
      | some k => (s, resetRefusal none (some (.zoneFlame k)))
      | none => (acceptReset s, plain .done)

/-- RESET_TRIP (R133). -/
def execResetTrip (s : State) : Host.Outcome State Fault Refusal := .next (serve (isCode 15) (needing 0 resetTrip) s)

/-! ## READ_TRIP_CAPTURE (R127, R171) -/

/-- The role a subject names. -/
def Subject.role? : Subject → Option Role
  | .role r => some r
  | .none | .breakIn | .bank _ => Option.none

/-- The bytes of the capture, every field absent while it is (R127, R192). -/
def encCapture (c : Option Capture) : List Byte :=
  encOpt8 (c.map fun x => x.condition.number)
    ++ (encOptRole (c.bind fun x => x.subject.role?)
    ++ (encOpt16 ((c.bind Capture.value).map Int.toNat)
    ++ (encOpt8 (c.map fun x => x.before.code)
    ++ (encOpt8 (c.map fun x => x.web.code)
    ++ (encCycle (c.bind Capture.cycle)
    ++ (encOpt16 (c.bind Capture.trip)
    ++ (encOpt16 (c.bind Capture.qFloor)
    ++ (encOpt8 (c.map fun x => x.mode.code)
    ++ encOpt32 (c.map Capture.accumulator)))))))))

/-- READ_TRIP_CAPTURE as it executes (R171). -/
def readTripCapture (_p : Place) (s : State) : State × Reply :=
  (s, doneWith (encCapture s.dryer.capture ++ be16 s.dryer.furtherTrips))

/-- READ_TRIP_CAPTURE (R171). -/
def execReadTripCapture (s : State) : Host.Outcome State Fault Refusal :=
  .next (serve (isCode 21) (needing 0 readTripCapture) s)

end Sys2Proof.Machine
end

