-- ==== Sys2Proof/Machine/WebRequests.lean ====
section
/-! DEFINITION. The requests to the Web Sequencer and the Command Table: SET_PREHEAT, RESUME_DISCARD (chapter 6),
RELEASE, RECLAIM (chapter 8). -/

namespace Sys2Proof.Machine

/-- SET_PREHEAT as it executes (R111). -/
def setPreheat (p : Place) (s : State) : State × Reply :=
  match flagOf (p.byteParam 0) with
  | some b => ({ s with web.preheat := b }, plain .done)
  | none => refuse .range s

/-- SET_PREHEAT (R111). -/
def execSetPreheat (s : State) : Host.Outcome State Fault Refusal := .next (serve (isCode 16) (needing 1 setPreheat) s)

/-- RESUME_DISCARD as it executes (R107). -/
def resumeDiscard (_p : Place) (s : State) : State × Reply :=
  match s.web.record with
  | some _ => (discardResume .request s, plain .done)
  | none => refuse .state s

/-- RESUME_DISCARD (R107). -/
def execResumeDiscard (s : State) : Host.Outcome State Fault Refusal :=
  .next (serve (isCode 19) (needing 0 resumeDiscard) s)

/-- The released flag of a role's entry set or cleared. -/
def setReleased (r : Role) (b : Bool) (s : State) : State :=
  { s with cmds.entries := updateKey r (fun e => { e with released := b }) s.cmds.entries }

/-- RELEASE and RECLAIM as they are judged: a command role, a COMMISSIONED part, a role the map gives a COMMAND
entry (R152, R169). -/
def judgeRelease (b : Bool) (p : Place) (s : State) : State × Reply :=
  match roleOfWire (p.byteParam 0) (p.byteParam 1) with
  | none => refuse .range s
  | some r =>
    if r.isCommand = false then refuse .range s
    else if s.commissioned = false then refuse .state s
    else if (commandEntry s.map r).isNone then refuse .range s
    else (setReleased r b s, plain .done)

/-- RELEASE as it executes (R152). -/
def release (p : Place) (s : State) : State × Reply := judgeRelease true p s

/-- RELEASE (R152). -/
def execRelease (s : State) : Host.Outcome State Fault Refusal := .next (serve (isCode 17) (needing 2 release) s)

/-- RECLAIM as it executes (R152). -/
def reclaim (p : Place) (s : State) : State × Reply := judgeRelease false p s

/-- RECLAIM (R152). -/
def execReclaim (s : State) : Host.Outcome State Fault Refusal := .next (serve (isCode 18) (needing 2 reclaim) s)

end Sys2Proof.Machine
end

