-- ==== Sys2Proof/Machine/AgentRequests.lean ====
section
/-! DEFINITION. The requests the Service Agent and the Incident Log answer: IDENTIFY, CLEAR_RESET_CAUSE, SET_OVERRIDE,
CLEAR_OVERRIDE, READ_COUNTERS, RESET_PART (chapter 10), TAKE_INCIDENTS and the command ALERT_GAP_EXPIRY (chapter 9). -/

namespace Sys2Proof.Machine

/-! ## IDENTIFY and CLEAR_RESET_CAUSE (R178) -/

/-- A flag as a bit of weight `w`. -/
def bit (b : Bool) (w : Nat) : Nat := if b then w else 0

/-- The reset cause record as one byte (R192). -/
def encCauses (c : ResetCauses) : List Byte := [byte (bit c.powerOn 1 + bit c.pin 2 + bit c.service 4)]

/-- IDENTIFY as it executes (R178). -/
def identify (_p : Place) (s : State) : State × Reply :=
  (s, doneWith (be16 6420 ++ (encFlag s.commissioned ++ (byte s.node :: encCauses s.agent.causes))))

/-- IDENTIFY (R178). -/
def execIdentify (s : State) : Host.Outcome State Fault Refusal := .next (serve (isCode 1) (needing 0 identify) s)

/-- CLEAR_RESET_CAUSE as it executes (R178). -/
def clearResetCause (_p : Place) (s : State) : State × Reply :=
  ({ s with agent.causes := { powerOn := false, pin := false, service := false } }, plain .done)

/-- CLEAR_RESET_CAUSE (R178). -/
def execClearResetCause (s : State) : Host.Outcome State Fault Refusal :=
  .next (serve (isCode 2) (needing 0 clearResetCause) s)

/-! ## Overrides (R176) -/

/-- The range of an override (R176). -/
def SafetyParam.range : SafetyParam → Nat × Nat
  | .fMon => (10, 50)
  | .fUnmon => (5, 50)
  | .trip => (100, 600)
  | .margin => (0, 50)
  | .qFloor => (500, 60000)

/-- One override set or made absent. -/
def setOverrideOf (p : SafetyParam) (v : Option Nat) (o : Overrides) : Overrides :=
  match p with
  | .fMon => { o with fMon := v }
  | .fUnmon => { o with fUnmon := v }
  | .trip => { o with trip := v }
  | .margin => { o with margin := v }
  | .qFloor => { o with qFloor := v }

/-- The overrides replaced, and the effective parameters formed anew (R74, R176). -/
def withOverrides (o : Overrides) (s : State) : State := formParams { s with agent.overrides := o }

/-- SET_OVERRIDE as it executes (R176). -/
def setOverride (p : Place) (s : State) : State × Reply :=
  match safetyParamOf (p.byteParam 0) with
  | none => refuse .range s
  | some q =>
    if s.commissioned = false then refuse .state s
    else if q.range.1 ≤ p.wordParam 1 ∧ p.wordParam 1 ≤ q.range.2 then
      let t := withOverrides (setOverrideOf q (some (p.wordParam 1)) s.agent.overrides) s
      (t, doneWith (encOpt16 (effectiveNow q t)))
    else refuse .range s

/-- SET_OVERRIDE (R176). -/
def execSetOverride (s : State) : Host.Outcome State Fault Refusal :=
  .next (serve (isCode 22) (needing 3 setOverride) s)

/-- CLEAR_OVERRIDE as it executes; 5 names ALL, whose reply names no parameter and carries no value (R176; log 13,
log 16). -/
def clearOverride (p : Place) (s : State) : State × Reply :=
  match safetyParamOf (p.byteParam 0) with
  | some q =>
    if s.commissioned = false then refuse .state s
    else
      let t := withOverrides (setOverrideOf q none s.agent.overrides) s
      (t, doneWith (encOpt16 (effectiveNow q t)))
  | none =>
    if p.byteParam 0 = 5 then
      if s.commissioned = false then refuse .state s else (withOverrides Overrides.absent s, plain .done)
    else refuse .range s

/-- CLEAR_OVERRIDE (R176). -/
def execClearOverride (s : State) : Host.Outcome State Fault Refusal :=
  .next (serve (isCode 23) (needing 1 clearOverride) s)

/-! ## READ_COUNTERS (R177) -/

/-- Counter `n` of R177. -/
def counterValue (n : Nat) (s : State) : Nat :=
  match n with
  | 0 => s.line.goodOut
  | 1 => s.line.goodBack
  | 2 => s.line.poisoned
  | 3 => s.line.overruns
  | 4 => s.line.longFrames
  | 5 => s.line.serviceFrames
  | 6 => s.line.irregular
  | 7 => s.agent.busyRefusals
  | 8 => s.cmds.late
  | 9 => s.web.ignored
  | 10 => s.board.clamped
  | 11 => s.log.dropped
  | 12 => s.solv.histogram.b1
  | 13 => s.solv.histogram.b2
  | 14 => s.solv.histogram.b3
  | 15 => s.solv.histogram.b4
  | 16 => s.solv.histogram.b5
  | _ => s.solv.histogram.b6

/-- Counter `n` set to 0; any histogram bucket clears all six (R90, R177). -/
def clearCounter (s : State) (n : Nat) : State :=
  match n with
  | 0 => { s with line.goodOut := 0 }
  | 1 => { s with line.goodBack := 0 }
  | 2 => { s with line.poisoned := 0 }
  | 3 => { s with line.overruns := 0 }
  | 4 => { s with line.longFrames := 0 }
  | 5 => { s with line.serviceFrames := 0 }
  | 6 => { s with line.irregular := 0 }
  | 7 => { s with agent.busyRefusals := 0 }
  | 8 => { s with cmds.late := 0 }
  | 9 => { s with web.ignored := 0 }
  | 10 => { s with board.clamped := 0 }
  | 11 => { s with log.dropped := 0 }
  | _ => { s with solv.histogram := Histogram.zero }

/-- The counters from `first` on, `count` of them. -/
def counterRange (first count : Nat) : List Nat := (List.range count).map fun i => first + i

/-- READ_COUNTERS as it executes (R177). -/
def readCounters (p : Place) (s : State) : State × Reply :=
  let first := p.wordParam 0
  let count := p.wordParam 2
  match flagOf (p.byteParam 4) with
  | none => refuse .range s
  | some clear =>
    if 1 ≤ count ∧ first + count ≤ 18 then
      let data := (counterRange first count).flatMap fun n => be32 (counterValue n s)
      (if clear then (counterRange first count).foldl clearCounter s else s, doneWith data)
    else refuse .range s

/-- READ_COUNTERS (R177). -/
def execReadCounters (s : State) : Host.Outcome State Fault Refusal :=
  .next (serve (isCode 24) (needing 5 readCounters) s)

/-! ## RESET_PART (R179) -/

/-- RESET_PART as it executes: the service reset wait of 100 ms starts (R179). -/
def resetPart (_p : Place) (s : State) : State × Reply :=
  if s.agent.storeRunning then refuse .busy s
  else ({ s with agent.resetWait := some (s.after 100) }, plain .done)

/-- RESET_PART (R179). -/
def execResetPart (s : State) : Host.Outcome State Fault Refusal := .next (serve (isCode 25) (needing 0 resetPart) s)

/-! ## Incident records (R154, R192) -/

/-- Class codes (R192). -/
def IncidentClass.code : IncidentClass → Nat
  | .advisory => 0
  | .process => 1
  | .safety => 2

/-- A code's position in the table of R154 (R192). -/
def IncidentCode.number : IncidentCode → Nat
  | .lelMeasuredHigh => 0
  | .lelPredictedHigh => 1
  | .exhaustLow => 2
  | .exhaustUnresponsive => 3
  | .flameWithoutEnable => 4
  | .lineSilent => 5
  | .webBreak => 6
  | .secondBreak => 7
  | .zoneDeviation => 8
  | .chillShortfall => 9
  | .dryerLimited => 10
  | .speedLost => 11
  | .actuatorUnresponsive => 12
  | .solventMismatch => 13
  | .lelUnmonitored => 14
  | .commissioningInvalid => 15
  | .purgeExpired => 16
  | .bankChecked => 17
  | .bankActivated => 18
  | .resumeDiscarded => 19
  | .storeFinished => 20
  | .analyzerDisagree => 21
  | .frameErrors => 22
  | .lateForward => 23
  | .speedCapped => 24
  | .tripReset => 25
  | .purgeDone => 26

/-- Discard causes in the order of R107 (R192). -/
def DiscardCause.number : DiscardCause → Nat
  | .timeout => 0
  | .changeover => 1
  | .dryer => 2
  | .request => 3

/-- The third subject byte of a bank: for BANK_CHECKED the table's position and its k or j (R192; log 15 for no table).
In any other record of a bank it is 0, the model's choice (R161; log 15). -/
def checkedByte : IncidentValue → Nat
  | .outcome (.rejected _ (some t) _) => t.position * 16 + t.selector
  | .outcome (.rejected _ none _) | .outcome .passed => 255
  | .absent | .num _ | .cause _ | .condition _ | .written => 0

/-- The three subject bytes (R192; log 15 for those of no subject). -/
def encSubject (sub : Subject) (v : IncidentValue) : List Byte :=
  match sub with
  | .none => [0, 0, 0]
  | .role r => 1 :: encRole r
  | .breakIn => [1, 18, 0]
  | .bank b => [2, byte b.val, byte (checkedByte v)]

/-- Whether a record's value is signed (R192). -/
def signedValue (c : IncidentCode) (sub : Subject) : Bool :=
  match c with
  | .zoneDeviation | .chillShortfall | .solventMismatch | .analyzerDisagree => true
  | .actuatorUnresponsive => (sub.role?.map Role.isSigned).getD false
  | _ => false

/-- A coded outcome's two bytes: its code, then the breakpoint index or 255 (R192). -/
def coded (code : Nat) (index : Option Nat) : List Byte := byte code :: encOpt8 index

/-- The two value bytes (R192). -/
def encIncidentValue (c : IncidentCode) (sub : Subject) (v : IncidentValue) : List Byte :=
  match v with
  | .absent => be16 0
  | .num n => if signedValue c sub then be16Int n else be16 (min 65535 n.toNat)
  | .outcome .passed => coded 0 none
  | .outcome (.rejected r _ i) => coded r.code i
  | .cause d => coded d.number none
  | .condition x => coded x.number none
  | .written => coded 0 none

/-- Byte 4 of a record: presence bits and class (R192). -/
def presenceByte (r : Incident) : Nat :=
  bit r.cycle.isSome 128 + bit (!decide (r.value = .absent)) 64 + r.code.cls.code

/-- The twelve bytes of an incident record (R192). -/
def encIncident (r : Incident) : List Byte :=
  be16 r.seq.toNat ++ (be16 ((r.cycle.map BitVec.toNat).getD 0)
    ++ ([byte (presenceByte r), byte r.code.number]
    ++ (encSubject r.subject r.value ++ (encIncidentValue r.code r.subject r.value
    ++ [byte (r.web.code * 16 + r.dryer.code)]))))

/-! ## TAKE_INCIDENTS (R161) -/

/-- The n oldest records leave the queue; ALERT is judged for a removal (R161, R162). -/
def removeOldest (n : Nat) (s : State) : State :=
  if s.log.queue = [] then s else judgeAlert { s with log.queue := s.log.queue.drop n }

/-- TAKE_INCIDENTS as it executes (R161). -/
def takeIncidents (p : Place) (s : State) : State × Reply :=
  let n := p.wordParam 0
  if 1 ≤ n ∧ n ≤ 4 then (removeOldest n s, doneWith ((s.log.queue.take n).flatMap encIncident))
  else refuse .range s

/-- TAKE_INCIDENTS (R161). -/
def execTakeIncidents (s : State) : Host.Outcome State Fault Refusal :=
  .next (serve (isCode 20) (needing 2 takeIncidents) s)

/-! ## ALERT_GAP_EXPIRY (R163) -/

/-- The gap timer expires and ALERT is judged (R163). -/
def alertGapExpiry (s : State) : State :=
  match s.log.gap with
  | some d => judgeAlert { reachDeadline d s with log.gap := none }
  | none => s

/-- ALERT_GAP_EXPIRY (R163). -/
def execAlertGapExpiry (s : State) : Host.Outcome State Fault Refusal := .next (alertGapExpiry s)

end Sys2Proof.Machine
end

