-- ==== Sys2Proof/Machine/Commissioning.lean ====
section
/-! DEFINITION. The Commissioning Store (chapter 11): STORE with its checks, STORE_WRITE_COMPLETE, RELOAD and
STORE_LOAD_COMPLETE. -/

namespace Sys2Proof.Machine

/-! ## The checks of STORE (R23, R183) -/

/-- The scalar cross-checks in the order of R183. -/
inductive ScalarFault where
  | silencePeriod
  | unmonAboveMon
  | tripBelowAllowed
  | floorAboveCapacity
  | purgeAboveCapacity
deriving DecidableEq, Repr

/-- Reason codes in the order of R183 (R192). -/
def ScalarFault.number : ScalarFault → Nat
  | .silencePeriod => 0
  | .unmonAboveMon => 1
  | .tripBelowAllowed => 2
  | .floorAboveCapacity => 3
  | .purgeAboveCapacity => 4

/-- The index of the scalar a failure names (R183). -/
def ScalarFault.scalar : ScalarFault → Nat
  | .silencePeriod => 2
  | .unmonAboveMon => 11
  | .tripBelowAllowed => 12
  | .floorAboveCapacity => 15
  | .purgeAboveCapacity => 19

/-- The first scalar cross-check that fails (R183). -/
def scalarFault (c : Scalars) : Option ScalarFault :=
  if c.silence < 2 * c.period then some .silencePeriod
  else if c.fMon < c.fUnmon then some .unmonAboveMon
  else if c.trip ≤ 10 * c.fMon then some .tripBelowAllowed
  else if c.qCap ≤ c.qFloor then some .floorAboveCapacity
  else if c.qCap < c.purgeMin then some .purgeAboveCapacity
  else none

/-- The Slot Map reasons of an entry, in the order of R23. -/
inductive EntryFault where
  | keyTwice
  | roleTwice
  | ownNode
  | index
  | pairing
  | noSafeValue
  | speedRefAuthority
deriving DecidableEq, Repr

/-- Reason codes in the order of R23; ROLE_MISSING is 7 (R192). -/
def EntryFault.number : EntryFault → Nat
  | .keyTwice => 0
  | .roleTwice => 1
  | .ownNode => 2
  | .index => 3
  | .pairing => 4
  | .noSafeValue => 5
  | .speedRefAuthority => 6

/-- Whether two entries share a key (R20). -/
def sameKey (a b : SlotEntry) : Bool :=
  decide (a.node = b.node) && decide (a.channel = b.channel) && decide (a.kind = b.kind)

/-- Whether two entries share role and kind (R23). -/
def sameRole (a b : SlotEntry) : Bool := decide (a.role = b.role) && decide (a.kind = b.kind)

/-- Whether an ECHO or HOLD entry lacks its COMMAND entry, or a HOLD entry names SPEED_REF (R23 PAIRING). -/
def unpaired (m : List SlotEntry) (e : SlotEntry) : Bool :=
  (e.isEcho || e.isHold)
    && ((commandEntry m e.role).isNone || (e.isHold && decide (e.role = .speedRef)))

/-- Whether a ZONE_TEMP_SP entry has no safe value (R23 NO_SAFE_VALUE). -/
def lacksSafeValue (e : SlotEntry) : Bool :=
  match e.role, e.use with
  | .zoneTempSp _, .command _ v _ _ => v.isNone
  | _, _ => false

/-- Whether a SPEED_REF entry has authority other than OBSERVE (R23 SPEED_REF_AUTHORITY). -/
def wrongAuthority (e : SlotEntry) : Bool :=
  match e.role, e.use with
  | .speedRef, .command a _ _ _ => !decide (a = .observe)
  | _, _ => false

/-- The first reason an entry fails, `before` being the entries ahead of it (R23). -/
def entryFault (c : Scalars) (m before : List SlotEntry) (e : SlotEntry) : Option EntryFault :=
  if before.any (sameKey e) then some .keyTwice
  else if before.any (sameRole e) then some .roleTwice
  else if e.node = c.node then some .ownNode
  else if e.role.withinCounts c = false then some .index
  else if unpaired m e then some .pairing
  else if lacksSafeValue e then some .noSafeValue
  else if wrongAuthority e then some .speedRefAuthority
  else none

/-- The first entry that fails, with its index (R23). -/
def mapFault (c : Scalars) (m : List SlotEntry) : Option (EntryFault × Nat) :=
  (List.range m.length).findSome? fun i =>
    (m[i]?).bind fun e => (entryFault c m (m.take i) e).map fun f => (f, i)

/-- The roles a map must have, in the order of R23. -/
def requiredRoles (c : Scalars) : List Role :=
  .webSpeed :: .exhaustFlow :: (zoneNumbers.filter fun k => decide (k.val < c.zones)).map .zoneTemp

/-- The first required role without an entry (R23 ROLE_MISSING). -/
def missingRole (c : Scalars) (m : List SlotEntry) : Option Role :=
  (requiredRoles c).find? fun r => (sampleEntry m r).isNone

/-- Why a working copy cannot be stored: the bytes a CHECK refusal carries, the table, the reason, and the index or
the missing role (R23, R183; log 16). -/
def checkData (w : CommRecord) : Option (List Byte) :=
  match scalarFault w.scalars with
  | some f => some (encTable .commScalars ++ [byte f.number, byte f.scalar])
  | none =>
    match mapFault w.scalars w.map with
    | some (f, i) => some (encTable .slotMap ++ [byte f.number, byte i])
    | none => (missingRole w.scalars w.map).map fun r => encTable .slotMap ++ (byte 7 :: encRole r)

/-! ## STORE (R183, R184) -/

/-- The store write starts: the stored check value is invalidated (R175, R184; log 28). -/
def startStore (s : State) : State := { s with agent.storeRunning := true, comm.stored := none }

/-- STORE as it executes, its cases in the order of R183. -/
def storeRequest (_p : Place) (s : State) : State × Reply :=
  if s.agent.storeRunning then refuse .busy s
  else if s.dryer.state ≠ .unpurged ∧ s.dryer.state ≠ .tripped then refuse .state s
  else
    match checkData s.comm.working with
    | some d => (s, { status := .check, data := d })
    | none => (startStore s, plain .started)

/-- STORE (R183). -/
def execStore (s : State) : Host.Outcome State Fault Refusal := .next (serve (isCode 11) (needing 0 storeRequest) s)

/-! ## STORE_WRITE_COMPLETE (R185) -/

/-- A bank's state after a change of the counts (R55). -/
def BankState.demoted : BankState → BankState
  | .sealed | .pending _ | .active => .editing
  | .empty => .empty
  | .editing => .editing
  | .checking z c => .checking z c

/-- A bank after a change of the counts: its contents and last check are kept (R55). -/
def demoteBank (b : Bank) : Bank := { b with state := b.state.demoted }

/-- The banks demoted, and the units withdrawn with them (R55, R63, R85). -/
def demoteAll (s : State) : State :=
  withdrawSolvent (withdrawSchedule { s with banks := Four.ofFn fun b => demoteBank (s.banks.get b) })

/-- The working copy comes into force, `s` being the state before (R55, R185). -/
def bringIntoForce (s : State) : State :=
  let t := { s with
    comm := { s.comm with stored := some s.comm.working, inForce := some s.comm.working }
    agent.storeRunning := false }
  if t.zoneCount = s.zoneCount ∧ t.circuitCount = s.circuitCount then t else demoteAll t

/-- The board rebuilt against the map in force (R31). -/
def boardAtStore (s : State) : State := { s with board.records := rebuildRecords s.map s.board.records }

/-- What each block does at the completion, the table of R185. -/
def storeCompletion (s : State) : State :=
  let old := s.scalars?
  let t := bringIntoForce s
  let t := commandsAtStore (boardAtStore t)
  let t := flamesAtStore (webAtStore old s.comm.working.scalars t)
  let t := judgeAlert (formParams t)
  offer .storeFinished .none .written t

/-- The store write completes (R185). -/
def storeWriteComplete (s : State) : State := if s.agent.storeRunning then storeCompletion s else s

/-- STORE_WRITE_COMPLETE (R185). -/
def execStoreWriteComplete (s : State) : Host.Outcome State Fault Refusal := .next (storeWriteComplete s)

/-! ## RELOAD (R186) -/

/-- The working copy of a part: the in-force copy, or R182's scalars and an empty map (R186, R187). -/
def loadedWorking (inForce : Option CommRecord) : CommRecord := inForce.getD CommRecord.uncommissioned

/-- A window open on a commissioning table is closed (R186). -/
def closeCommissioningWindow (w : Option Window) : Option Window :=
  match w with
  | some x => if x.table.isCommissioning then none else some x
  | none => none

/-- RELOAD as it executes (R186). R186 lists the BUSY refusal among the cases of execution and closes a window open when
RELOAD executes; that a RELOAD refused BUSY leaves the window open is the model's choice (log 35). -/
def reload (_p : Place) (s : State) : State × Reply :=
  if s.agent.storeRunning then refuse .busy s
  else
    ({ s with
        comm.working := loadedWorking s.comm.inForce
        agent.window := closeCommissioningWindow s.agent.window }, plain .done)

/-- RELOAD (R186). -/
def execReload (s : State) : Host.Outcome State Fault Refusal := .next (serve (isCode 12) (needing 0 reload) s)

/-! ## STORE_LOAD_COMPLETE (R187) -/

/-- The relay opens into SYNCING (R1, R14, R19, R91). -/
def openRelay (s : State) : State :=
  startSilence
    { s with
      phase := .running
      line := { s.line with state := .syncing, relayClosed := false }
      web.reference := s.pins.breakIn }

/-- The blocks take their values from the loaded record (R31, R72, R135, R187). -/
def takeLoaded (s : State) : State :=
  let t := { s with
    comm := { s.comm with inForce := s.comm.stored, working := loadedWorking s.comm.stored } }
  formParams
    { t with
      board.records := rebuildRecords t.map []
      cmds.entries := rebuildEntries t.map [] }

/-- COMMISSIONING_INVALID at an UNCOMMISSIONED start (R187). -/
def offerInvalid (s : State) : State :=
  if s.commissioned then s else offer .commissioningInvalid .none .absent s

/-- The load at start ends (R187). -/
def storeLoadComplete (s : State) : State :=
  match s.phase with
  | .loading => offerInvalid (openRelay (takeLoaded s))
  | .unpowered | .heldByPin | .running => s

/-- STORE_LOAD_COMPLETE (R187). -/
def execStoreLoadComplete (s : State) : Host.Outcome State Fault Refusal := .next (storeLoadComplete s)

end Sys2Proof.Machine
end

