-- ==== Sys2Proof/Machine/Dispatch.lean ====
section
/-! DEFINITION. One arm per command, each one call of its meaning. -/

namespace Sys2Proof.Machine

/-- What a command does to everything but the queue it was taken from. -/
def exec (i : Instr) (s : State) : Host.Outcome State Fault Refusal :=
  match i with
  | .frameArrival d first rest => Sys2Proof.Machine.execFrameArrival d first rest s
  | .commandPassage n => Sys2Proof.Machine.execCommandPassage n s
  | .statusSlotWrite n => Sys2Proof.Machine.execStatusSlotWrite n s
  | .requestTaking n => Sys2Proof.Machine.execRequestTaking n s
  | .replyPlaceFill n => Sys2Proof.Machine.execReplyPlaceFill n s
  | .frameEnd d us => Sys2Proof.Machine.execFrameEnd d us s
  | .resumeTimerExpiry => Sys2Proof.Machine.execResumeTimerExpiry s
  | .scheduleEvaluationComplete => Sys2Proof.Machine.execScheduleEvaluationComplete s
  | .solventEvaluationComplete => Sys2Proof.Machine.execSolventEvaluationComplete s
  | .silenceTimerExpiry => Sys2Proof.Machine.execSilenceTimerExpiry s
  | .breakInChange l => Sys2Proof.Machine.execBreakInChange l s
  | .purgeHoldExpiry => Sys2Proof.Machine.execPurgeHoldExpiry s
  | .alertGapExpiry => Sys2Proof.Machine.execAlertGapExpiry s
  | .unknownRequest => Sys2Proof.Machine.execUnknownRequest s
  | .identify => Sys2Proof.Machine.execIdentify s
  | .clearResetCause => Sys2Proof.Machine.execClearResetCause s
  | .openWindow => Sys2Proof.Machine.execOpenWindow s
  | .writeNext => Sys2Proof.Machine.execWriteNext s
  | .readNext => Sys2Proof.Machine.execReadNext s
  | .closeWindow => Sys2Proof.Machine.execCloseWindow s
  | .sealBank => Sys2Proof.Machine.execSealBank s
  | .bankCheckEnd => Sys2Proof.Machine.execBankCheckEnd s
  | .clearBank => Sys2Proof.Machine.execClearBank s
  | .activateBank => Sys2Proof.Machine.execActivateBank s
  | .cancelActivation => Sys2Proof.Machine.execCancelActivation s
  | .store => Sys2Proof.Machine.execStore s
  | .storeWriteComplete => Sys2Proof.Machine.execStoreWriteComplete s
  | .reload => Sys2Proof.Machine.execReload s
  | .startPurge => Sys2Proof.Machine.execStartPurge s
  | .abortPurge => Sys2Proof.Machine.execAbortPurge s
  | .resetTrip => Sys2Proof.Machine.execResetTrip s
  | .setPreheat => Sys2Proof.Machine.execSetPreheat s
  | .release => Sys2Proof.Machine.execRelease s
  | .reclaim => Sys2Proof.Machine.execReclaim s
  | .resumeDiscard => Sys2Proof.Machine.execResumeDiscard s
  | .takeIncidents => Sys2Proof.Machine.execTakeIncidents s
  | .readTripCapture => Sys2Proof.Machine.execReadTripCapture s
  | .setOverride => Sys2Proof.Machine.execSetOverride s
  | .clearOverride => Sys2Proof.Machine.execClearOverride s
  | .readCounters => Sys2Proof.Machine.execReadCounters s
  | .resetPart => Sys2Proof.Machine.execResetPart s
  | .serviceResetWaitExpiry => Sys2Proof.Machine.execServiceResetWaitExpiry s
  | .powerOn => Sys2Proof.Machine.execPowerOn s
  | .resetPinAssert => Sys2Proof.Machine.execResetPinAssert s
  | .resetPinRelease => Sys2Proof.Machine.execResetPinRelease s
  | .storeLoadComplete => Sys2Proof.Machine.execStoreLoadComplete s
  | .supplyLoss => Sys2Proof.Machine.execSupplyLoss s

end Sys2Proof.Machine
end

