-- ==== Sys2Proof/Safety.lean ====
section
/-! DEFINITION. The laws a state of the part keeps: what claims call a safe state, each law closed under every step
by itself, and the vocabulary of the claims about requests, checks, frames and slots. -/

namespace Sys2Proof.Machine

/-- PERMIT is high exactly while the dryer state is PURGED or FIRING (R116). -/
def PermitLaw (s : State) : Prop := s.dryer.permit = true ↔ (s.dryer.state = .purged ∨ s.dryer.state = .firing)

/-- Until the relay opens every block holds its values after reset; only the pins, the stored record, the reset
cause record and the model's own fields may differ (R1, R188). -/
def HeldLaw (s : State) : Prop := s.phase ≠ .running → s = enterReset s.phase s.agent.causes s

/-- The incident queue never holds more than 32 records, and ALERT is asserted exactly while the gap timer is idle
and the queue holds a qualifying record (R157, R162, R163); a part that is not running holds no record. -/
def AlertLaw (s : State) : Prop :=
  HeldLaw s ∧ s.log.queue.length ≤ 32 ∧
    (s.log.alert = true ↔ s.log.gap = none ∧ s.log.queue.any (qualifies s.alertThreshold) = true)

/-- Requests waiting plus replies not yet delivered never exceed 8 (R167), nor do the BUSY marks (R168). -/
def PlacesLaw (s : State) : Prop := s.agent.places.length ≤ 8 ∧ marksHeld s ≤ 8

/-- At most one bank is ACTIVE, at most one is PENDING, and the operation record shows exactly the bank that is
CHECKING (R42, R175). -/
def BankLaw (s : State) : Prop :=
  (∀ a b : BankNo, (s.banks.get a).state = .active → (s.banks.get b).state = .active → a = b)
    ∧ (∀ a b : BankNo, (s.banks.get a).state.isPending = true → (s.banks.get b).state.isPending = true → a = b)
    ∧ ∀ b : BankNo, (s.banks.get b).state.isChecking = true ↔ s.agent.checking = some b

/-- The line state, the relay, the elastic stores, the sync count and the silence timer agree (R1, R3, R14, R15). -/
def LineLaw (s : State) : Prop :=
  (s.line.state = .bypass ↔ s.phase ≠ .running)
    ∧ (s.line.relayClosed = true ↔ s.line.state = .bypass)
    ∧ (s.line.silence.isSome = true ↔ s.line.state = .syncing ∨ s.line.state = .online)
    ∧ (s.line.state = .online → s.line.syncCount = 8)
    ∧ (s.line.state = .syncing → s.line.syncCount < 8)
    ∧ (s.line.state = .silent ∨ s.line.state = .bypass → s.line.syncCount = 0)
    ∧ (s.line.state = .bypass → s.line.outStore = [] ∧ s.line.backStore = [])
    ∧ s.line.outStore.length ≤ 2 ∧ s.line.backStore.length ≤ 2
    ∧ s.line.remembered.length ≤ 2

/-- A part that is not running has no record in force and no STORE running; while the part is UNCOMMISSIONED the board
holds no records, the Command Table no entries, no effective safety parameters stand, no bank is past EDITING, no
evaluation runs and the dryer state stays UNPURGED (R25, R55, R72, R115, R135, R188). -/
def UncommissionedLaw (s : State) : Prop :=
  (s.phase ≠ .running → s.commissioned = false ∧ s.agent.storeRunning = false)
    ∧ (s.commissioned = false →
      s.board.records = [] ∧ s.cmds.entries = [] ∧ s.solv.eff = none ∧ s.dryer.state = .unpurged
        ∧ s.sched.job = none ∧ s.solv.job = none
        ∧ s.sched.publication = none ∧ s.solv.publication = none
        ∧ ∀ b : BankNo, (s.banks.get b).state = .empty ∨ (s.banks.get b).state = .editing)

/-- Some safety condition is active (R119). -/
def AnyActive (d : DryerUnit) : Prop :=
  d.lelMeasured = true ∨ d.lelPredicted.active = true ∨ d.exhaustLow.active = true ∨ d.exhaustUnresponsive = true
    ∨ (∃ k : Zone, (d.flame.get k).active = true) ∨ d.lineSilent = true

/-- The dryer is TRIPPED exactly while the first-trip capture stands, a safety condition is active only in a tripped
dryer, and the purge hold timer runs exactly in PURGED (R126, R127, R128, R131). -/
def DryerLaw (s : State) : Prop :=
  UncommissionedLaw s
    ∧ (s.dryer.state = .tripped ↔ s.dryer.capture.isSome = true)
    ∧ (AnyActive s.dryer → s.dryer.state = .tripped)
    ∧ (s.dryer.hold.isSome = true ↔ s.dryer.state = .purged)

/-- While a STORE is RUNNING the dryer is UNPURGED or TRIPPED and the stored record fails its check (R184). -/
def StoreLaw (s : State) : Prop :=
  s.agent.storeRunning = true →
    s.comm.stored = none ∧ (s.dryer.state = .unpurged ∨ s.dryer.state = .tripped)

/-- A resume record stands only under a burning dryer and names the ACTIVE bank; a RESUMING web has its record and a
running resume timer, and the timer runs in no other state (R106, R107, R108, R109). -/
def ResumeLaw (s : State) : Prop :=
  BankLaw s ∧ StoreLaw s
    ∧ (∀ r, s.web.record = some r → s.dryer.state.burning = true ∧ activeBank s.banks = some r.bank)
    ∧ (s.web.state = .resuming → s.web.record.isSome = true)
    ∧ (s.web.timer.isSome = true ↔ s.web.state = .resuming)

/-- A record of the board lies in its role's range, is absent exactly while LOST, and is of age 0 exactly when a
GOOD value has just come (R25, R27). -/
def RecLaw (k : RecKey) (x : BoardRec) : Prop :=
  (x.quality = .lost ↔ x.value = none)
    ∧ (x.quality = .good → x.age = 0)
    ∧ (∀ v, x.value = some v → k.role.lowest ≤ v ∧ v ≤ k.role.highest ∧ x.lastGood = some v)
    ∧ (∀ v, x.lastGood = some v → k.role.lowest ≤ v ∧ v ≤ k.role.highest)
    ∧ x.age ≤ 255 ∧ x.clamps ≤ 65535

/-- Every record of the Sample Board keeps `RecLaw` (R25). -/
def BoardLaw (s : State) : Prop := ∀ p ∈ s.board.records, RecLaw p.1 p.2

/-- A published speed ceiling lies in 0 to 1,500 m/min, a published predicted LEL in 0 to 1,000 tenths, the cycles
covered in 1 to 65,535; a running evaluation has cycles pending (R72, R84). -/
def SolventLaw (s : State) : Prop :=
  s.solv.pendingCycles ≤ 65535
    ∧ (s.solv.job.isSome = true → 1 ≤ s.solv.pendingCycles)
    ∧ ∀ p, s.solv.publication = some p →
        p.combined ≤ 1500 ∧ (∀ v, p.predicted = some v → v ≤ 1000) ∧ 1 ≤ p.covered ∧ p.covered ≤ 65535

/-- The effective safety parameters in force are those of the stored figures, the overrides and some analyzer mode,
and none while the part is UNCOMMISSIONED (R72, R73). -/
def EffLaw (s : State) : Prop :=
  ∃ m, s.solv.eff = s.scalars?.map fun c => effectiveParams c s.agent.overrides m

/-- Every one of the eighteen counters of READ_COUNTERS is a 32-bit count (R177). -/
def CounterLaw (s : State) : Prop := ∀ n, n < 18 → counterValue n s ≤ top32

/-! ## Ranges (R20, R22, R39, R40, R182) -/

/-- The safe value of a command role: 0 for a burner enable, otherwise absent or within the role's range (R22). -/
def SafeInRange (r : Role) (v : Option Int) : Prop :=
  if r.isBurnerEnable then v = some 0 else ∀ x, v = some x → r.lowest ≤ x ∧ x ≤ r.highest

/-- An entry a write of the Slot Map can have left (R20, R22). -/
def EntryInRange (e : SlotEntry) : Prop :=
  1 ≤ e.node ∧ e.node ≤ 250 ∧ e.channel ≤ 15
    ∧ match e.use with
      | .sample n => e.role.isCommand = false ∧ 1 ≤ n ∧ n ≤ 64
      | .echo n => e.role.isCommand = true ∧ 1 ≤ n ∧ n ≤ 64
      | .hold => e.role.isCommand = true
      | .command _ v t m => e.role.isCommand = true ∧ SafeInRange e.role v ∧ t ≤ 100 ∧ 1 ≤ m ∧ m ≤ 64

/-- Scalars within their write ranges (R182). -/
def ScalarsInRange (c : Scalars) : Prop :=
  (1 ≤ c.node ∧ c.node ≤ 250) ∧ (1 ≤ c.period ∧ c.period ≤ 50) ∧ (5 ≤ c.silence ∧ c.silence ≤ 2000)
    ∧ (1 ≤ c.zones ∧ c.zones ≤ 4) ∧ (1 ≤ c.circuits ∧ c.circuits ≤ 3) ∧ c.analyzers ≤ 2 ∧ c.sensors ≤ 4
    ∧ (10 ≤ c.lg ∧ c.lg ≤ 100) ∧ (10 ≤ c.fMon ∧ c.fMon ≤ 50) ∧ (5 ≤ c.fUnmon ∧ c.fUnmon ≤ 50)
    ∧ (100 ≤ c.trip ∧ c.trip ≤ 600) ∧ (1 ≤ c.confirm ∧ c.confirm ≤ 50) ∧ c.margin ≤ 50
    ∧ (500 ≤ c.qFloor ∧ c.qFloor ≤ 30000) ∧ (1000 ≤ c.qCap ∧ c.qCap ≤ 60000) ∧ (1 ≤ c.volume ∧ c.volume ≤ 200)
    ∧ (4 ≤ c.changes ∧ c.changes ≤ 10) ∧ (500 ≤ c.purgeMin ∧ c.purgeMin ≤ 60000)
    ∧ (30 ≤ c.purgeHold ∧ c.purgeHold ≤ 900) ∧ c.gap ≤ 1000

/-- A commissioning record whose scalars and entries lie in their ranges, with at most 96 entries (R20, R22, R182). -/
def CommInRange (r : CommRecord) : Prop :=
  ScalarsInRange r.scalars ∧ r.map.length ≤ 96 ∧ ∀ e ∈ r.map, EntryInRange e

/-- The stored record, the in-force copy and the working copy lie in the ranges against which writes are checked, and
the record in force has passed the checks of STORE; a part that is not running runs no STORE (R22, R181 to R183, R188). -/
def RecordLaw (s : State) : Prop :=
  CommInRange s.comm.working
    ∧ (∀ r, s.comm.stored = some r → CommInRange r ∧ checkData r = none)
    ∧ (∀ r, s.comm.inForce = some r → CommInRange r ∧ checkData r = none)
    ∧ (s.agent.storeRunning = true → checkData s.comm.working = none)
    ∧ (s.phase ≠ .running → s.agent.storeRunning = false)

/-- The Command Table holds exactly one entry for each command role of the map in force, in entry order, and the Sample
Board exactly the records that map asks for (R25, R31, R135, R136). -/
def TableLaw (s : State) : Prop :=
  RecordLaw s ∧ s.cmds.entries.map Prod.fst = commandRoles s.map ∧ (s.cmds.entries.map Prod.fst).Nodup
    ∧ s.board.records.map Prod.fst = recordKeys s.map

/-- A schedule of at most eight breakpoints with values in a range (R39, R40). -/
def ScheduleInRange (lo hi : Int) (l : List Breakpoint) : Prop :=
  l.length ≤ 8 ∧ ∀ p ∈ l, lo ≤ p.value ∧ p.value ≤ hi ∧ p.speed ≤ 65535

/-- A temperature of a profile (R39). -/
def TempInRange (v : Int) : Prop := -400 ≤ v ∧ v ≤ 4500

/-- A recipe whose every field lies in its range (R39, R40). -/
def RecipeInRange (x : Recipe) : Prop :=
  (x.tag.length = 8 ∧ ∀ b ∈ x.tag, printable b = true)
    ∧ (300 ≤ x.width ∧ x.width ≤ 2100) ∧ (x.films.length = 8 ∧ ∀ f ∈ x.films, f ≤ 1500)
    ∧ (50 ≤ x.evap ∧ x.evap ≤ 100) ∧ (1 ≤ x.crawl ∧ x.crawl ≤ 20) ∧ (10 ≤ x.thread ∧ x.thread ≤ 150)
    ∧ (20 ≤ x.run ∧ x.run ≤ 600)
    ∧ (∀ k, ScheduleInRange (-400) 4500 (x.zoneTemp.get k)) ∧ (∀ k, ScheduleInRange 0 1000 (x.zoneFan.get k))
    ∧ ScheduleInRange 0 60000 x.exhaust ∧ (∀ j, ScheduleInRange (-400) 1000 (x.chill.get j))
    ∧ (∀ k, TempInRange (x.zoneProfiles.get k).preheatTemp ∧ TempInRange (x.zoneProfiles.get k).breakTemp
        ∧ 0 ≤ (x.zoneProfiles.get k).preheatFan ∧ (x.zoneProfiles.get k).preheatFan ≤ 1000
        ∧ 0 ≤ (x.zoneProfiles.get k).breakFan ∧ (x.zoneProfiles.get k).breakFan ≤ 1000)
    ∧ (∀ j, -400 ≤ (x.circuitProfiles.get j).standby ∧ (x.circuitProfiles.get j).standby ≤ 1000
        ∧ -400 ≤ (x.circuitProfiles.get j).limit ∧ (x.circuitProfiles.get j).limit ≤ 1000)
    ∧ x.dwell ≤ 3000 ∧ (100 ≤ x.resumeTimeout ∧ x.resumeTimeout ≤ 60000) ∧ (10 ≤ x.devBand ∧ x.devBand ≤ 500)
    ∧ (1 ≤ x.devConfirm ∧ x.devConfirm ≤ 500) ∧ x.tolerance ≤ 300

/-- No bank ever holds a field outside the range against which its writes are checked (R39). -/
def RecipeLaw (s : State) : Prop := ∀ b, RecipeInRange (s.banks.get b).recipe

/-- A frame in transit has lost and gained no byte, its header is as it arrived, and no more slots are captured from it
than have streamed past among the first 96 (R3, R5, R8). -/
def TransitKept (t : Transit) : Prop :=
  t.forwarded.length = t.arrived.length
    ∧ t.forwarded.take (headerLength (kindOf t.arrived)) = t.arrived.take (headerLength (kindOf t.arrived))
    ∧ t.captured.length ≤ min 96 t.cursor

/-- Every frame in the elastic stores keeps `TransitKept` (R3, R5, R8). -/
def StoresLaw (s : State) : Prop := (∀ t ∈ s.line.outStore, TransitKept t) ∧ ∀ t ∈ s.line.backStore, TransitKept t

/-! ## The vocabulary of claims about requests -/

/-- The head request has a catalogue code and a parameter length of at least `need` bytes, and requests execute
(R169, R179, R193). -/
def Executes (code need : Nat) (p : Place) (s : State) : Prop :=
  s.phase = .running ∧ s.agent.resetWait = none ∧ s.agent.head = some p ∧ p.code = code ∧ need ≤ p.length
    ∧ p.length ≤ 12

/-- The catalogue code of a request that R193 refuses RANGE without a further effect, and the bytes its parameters
need; the window requests are not among them. -/
def plainRequest : Instr → Option (Nat × Nat)
  | .identify => some (1, 0)
  | .clearResetCause => some (2, 0)
  | .sealBank => some (7, 1)
  | .clearBank => some (8, 1)
  | .activateBank => some (9, 2)
  | .cancelActivation => some (10, 0)
  | .store => some (11, 0)
  | .reload => some (12, 0)
  | .startPurge => some (13, 0)
  | .abortPurge => some (14, 0)
  | .resetTrip => some (15, 0)
  | .setPreheat => some (16, 1)
  | .release => some (17, 2)
  | .reclaim => some (18, 2)
  | .resumeDiscard => some (19, 0)
  | .takeIncidents => some (20, 2)
  | .readTripCapture => some (21, 0)
  | .setOverride => some (22, 3)
  | .clearOverride => some (23, 1)
  | .readCounters => some (24, 5)
  | .resetPart => some (25, 0)
  | .frameArrival _ _ _ | .commandPassage _ | .statusSlotWrite _ | .requestTaking _ | .replyPlaceFill _
  | .frameEnd _ _ | .resumeTimerExpiry | .scheduleEvaluationComplete | .solventEvaluationComplete
  | .silenceTimerExpiry | .breakInChange _ | .purgeHoldExpiry | .alertGapExpiry | .unknownRequest | .openWindow
  | .writeNext | .readNext | .closeWindow | .bankCheckEnd | .storeWriteComplete | .serviceResetWaitExpiry
  | .powerOn | .resetPinAssert | .resetPinRelease | .storeLoadComplete | .supplyLoss => none

/-- The catalogue code of a window request, and the bytes its parameters need at the least; refused RANGE, it closes
the window (R169, R174). How many WRITE_NEXT needs depends on the item at the cursor. -/
def windowRequest : Instr → Option (Nat × Nat)
  | .openWindow => some (3, 7)
  | .writeNext => some (4, 1)
  | .readNext => some (5, 0)
  | .closeWindow => some (6, 0)
  | .frameArrival _ _ _ | .commandPassage _ | .statusSlotWrite _ | .requestTaking _ | .replyPlaceFill _
  | .frameEnd _ _ | .resumeTimerExpiry | .scheduleEvaluationComplete | .solventEvaluationComplete
  | .silenceTimerExpiry | .breakInChange _ | .purgeHoldExpiry | .alertGapExpiry | .unknownRequest | .identify
  | .clearResetCause | .sealBank | .bankCheckEnd | .clearBank | .activateBank | .cancelActivation | .store
  | .storeWriteComplete | .reload | .startPurge | .abortPurge | .resetTrip | .setPreheat | .release | .reclaim
  | .resumeDiscard | .takeIncidents | .readTripCapture | .setOverride | .clearOverride | .readCounters
  | .resetPart | .serviceResetWaitExpiry | .powerOn | .resetPinAssert | .resetPinRelease | .storeLoadComplete
  | .supplyLoss => none

/-- Whether a command is the execution of a request. -/
def executesRequest (c : Instr) : Bool :=
  (plainRequest c).isSome || (windowRequest c).isSome || decide (c = .unknownRequest)

/-- A request's place after its execution, given what stands before and behind it (R169). -/
def answeredPlace (r : Reply) (p : Place) : Place := { p with stage := .reply r 0 false }

/-- The values of a schedule never fall from one breakpoint to the next (R46). -/
def RisingValues (l : List Breakpoint) : Prop := l.Pairwise fun p q => p.value ≤ q.value

/-- A schedule that the seal check passes: at least two breakpoints, speeds at most 1,500 and strictly rising
(R46). -/
def SoundSchedule (l : List Breakpoint) : Prop :=
  2 ≤ l.length ∧ (∀ p ∈ l, p.speed ≤ 1500) ∧ l.Pairwise fun p q => p.speed < q.speed

/-- Breakpoint `i` breaks SPEED_ORDER: its speed is above 1,500 or not above that of the one before it (R46). -/
def SpeedBreaks (l : List Breakpoint) (i : Nat) : Prop :=
  ∃ p ∈ l[i]?, 1500 < p.speed ∨ 1 ≤ i ∧ ∃ q ∈ l[i - 1]?, p.speed ≤ q.speed

/-- Breakpoint `i` breaks TEMP_ORDER: its value is below that of the one before it (R46). -/
def ValueFalls (l : List Breakpoint) (i : Nat) : Prop :=
  ∃ p ∈ l[i]?, 1 ≤ i ∧ ∃ q ∈ l[i - 1]?, p.value < q.value

/-- Entry `e` of the working copy `w`, with `before` the entries ahead of it, fails reason `n` of the table of R23,
counted from 0 (log 16). -/
def EntryFails (w : CommRecord) (before : List SlotEntry) (e : SlotEntry) : Nat → Prop
  | 0 => ∃ a ∈ before, a.node = e.node ∧ a.channel = e.channel ∧ a.kind = e.kind
  | 1 => ∃ a ∈ before, a.role = e.role ∧ a.kind = e.kind
  | 2 => e.node = w.scalars.node
  | 3 => e.role.withinCounts w.scalars = false
  | 4 => ((e.kind = .echo ∨ e.kind = .hold) ∧ ∀ c ∈ w.map, ¬ (c.kind = .command ∧ c.role = e.role))
      ∨ e.kind = .hold ∧ e.role = .speedRef
  | 5 => ∃ k a t m, e.role = .zoneTempSp k ∧ e.use = .command a none t m
  | 6 => ∃ a v t m, e.role = .speedRef ∧ e.use = .command a v t m ∧ a ≠ .observe
  | _ => False

/-- A term of the ACTIVE bank's recipe, or the controller's value `c` with no bank ACTIVE (R140). -/
def bankTerm (f : Recipe → Int) (c : Int) (s : State) : Int :=
  match activeBank s.banks with
  | some b => f (s.banks.get b).recipe
  | none => c

/-- A term of the standing schedule publication, or the controller's value `c` where it cannot be had (R140). -/
def scheduleTerm (f : SchedPub → Option Int) (c : Int) (s : State) : Int :=
  match s.sched.publication with
  | some q => (f q).getD c
  | none => c

/-- The frame that is leaving in a direction is `t`, in a line that sees frames (R1, R3). -/
def Leaving (d : Dir) (t : Transit) (s : State) : Prop :=
  s.line.state ≠ .bypass ∧ ∃ rest, s.line.store d = t :: rest

/-- Slot `i` of the frame `t` is whole, read by the part, and has not streamed past yet (R6). -/
def SlotPasses (i : Nat) (t : Transit) (x : Slot) : Prop :=
  kindOf t.arrived = .cycle ∧ headerComplete t.arrived = true ∧ t.cursor ≤ i ∧ slotAt t.arrived i = some x

end Sys2Proof.Machine
end

