-- ==== Sys2Proof/Certificates/Slice0/Obligations.lean ====
section
/-! DEFINITION. The statements for the provers: what the part does at each command, and the laws its states keep. -/

open Sys2Proof Sys2Proof.Machine

/-! ## Steps and requests -/

/-- A step executes the command at the front of the queue on the state with the rest of the queue; with none waiting
the part idles (the model's choice of log 5). -/
def Obligations.StepRunsFrontCommand : Prop :=
  (∀ (c : Instr) (rest : List Instr) (s : State),
      s.pending = c :: rest → step s = exec c { s with pending := rest })
    ∧ ∀ s : State, s.pending = [] → step s = .next s

/-- Every command completes, leaves the queue of waiting commands alone, and the part's time base never runs
backwards. That a command for an event that cannot arise in the state it meets also answers a next state (a stopped
timer's expiry, a passage that is not there) is the model's choice (log 3); the time base and the count of open orders
are the model's own (log 1, log 2). -/
def Obligations.EveryCommandCompletes : Prop :=
  ∀ (c : Instr) (s : State),
    ∃ t, exec c s = .next t ∧ t.pending = s.pending ∧ s.now ≤ t.now ∧ s.choices ≤ t.choices

/-- The request at the head is the first WAITING place; its reply enters that place, and every other place and all the
rest of the part stay as they are. -/
def Obligations.ReplyEntersHeadPlace : Prop :=
  ∀ (s : State) (r : Reply) (p : Place) (ahead behind : List Place),
    s.agent.places = ahead ++ p :: behind → (∀ q ∈ ahead, q.stage ≠ .waiting) → p.stage = .waiting →
      s.agent.head = some p
        ∧ reply r s = { s with agent.places := ahead ++ answeredPlace r p :: behind }

/-- A code outside the catalogue is answered UNKNOWN and changes nothing else. A request whose parameter length does
not serve is answered RANGE; a window request then closes the window, any other changes nothing. How many parameter
bytes each request needs, and that a window request refused at once closes the window, are the model's reading (log
12, log 23). -/
def Obligations.RequestsRefusedAtOnce : Prop :=
  (∀ (p : Place) (s : State), s.phase = .running → s.agent.resetWait = none → s.agent.head = some p →
     (p.code = 0 ∨ 26 ≤ p.code) → exec .unknownRequest s = .next (reply (plain .unknown) s))
    ∧ (∀ (c : Instr) (code need : Nat) (p : Place) (s : State), s.phase = .running → s.agent.resetWait = none →
         s.agent.head = some p → p.code = code → (p.length < need ∨ 12 < p.length) →
           (plainRequest c = some (code, need) → exec c s = .next (reply (plain .range) s))
             ∧ (windowRequest c = some (code, need) →
                 exec c s = .next (reply (plain .range) { s with agent.window := none })))

/-- No request executes while the service reset is waited for, in a part that is not running, or with no request
WAITING; nor does the row of another code. That such a command changes nothing is the model's choice (log 3). -/
def Obligations.RequestsThatDoNotExecute : Prop :=
  ∀ (c : Instr) (s : State), executesRequest c = true →
    (s.phase ≠ .running ∨ s.agent.resetWait ≠ none ∨ s.agent.head = none
      ∨ ∃ p code need, s.agent.head = some p ∧ p.code ≠ code
          ∧ (plainRequest c = some (code, need) ∨ windowRequest c = some (code, need))) →
    exec c s = .next s

/-- IDENTIFY answers 6420, whether the part is COMMISSIONED, the node in force and the reset cause record, and changes
nothing; CLEAR_RESET_CAUSE empties the record and changes nothing else. A power-on reset leaves POWER_ON alone in it,
a reset by the RESET pin adds PIN, and a service reset adds SERVICE. The node's one byte is deduced (log 12). -/
def Obligations.IdentifyAndResetCause : Prop :=
  ∀ (p : Place) (s : State),
    (Executes 1 0 p s → ∃ causes : Nat, causes < 8
        ∧ causes.testBit 0 = s.agent.causes.powerOn ∧ causes.testBit 1 = s.agent.causes.pin
        ∧ causes.testBit 2 = s.agent.causes.service
        ∧ exec .identify s =
            .next (reply (doneWith [25, 20, if s.commissioned then 1 else 0, byte s.node, byte causes]) s))
      ∧ (Executes 2 0 p s →
          exec .clearResetCause s = .next (reply (plain .done) { s with agent.causes := ⟨false, false, false⟩ }))
      ∧ (s.phase = .unpowered → s.pins.resetAsserted = false →
          ∃ t, exec .powerOn s = .next t ∧ t.agent.causes = ⟨true, false, false⟩)
      ∧ (s.phase ≠ .unpowered → s.pins.resetAsserted = false →
          ∃ t, exec .resetPinAssert s = .next t ∧ t.agent.causes = { s.agent.causes with pin := true })
      ∧ ∀ d, s.agent.resetWait = some d →
          ∃ t, exec .serviceResetWaitExpiry s = .next t ∧ t.agent.causes = { s.agent.causes with service := true }

/-! ## The table window -/

/-- OPEN_WINDOW opens a window on a table it may reach, whatever window stood open; a REPLACE window empties its list,
and a bank's becomes EDITING. Refused, it leaves no window open and changes nothing else: RANGE for a bad table,
direction or mode, for writing a read-only table or replacing what is no list, and for a start beyond the table; BUSY
while the bank is CHECKING or a STORE runs under a commissioning table; LOCKED while the bank is PENDING or ACTIVE.
The two bytes of the length in the reply are the model's choice (log 16). -/
def Obligations.OpenWindowJudged : Prop :=
  (∀ (p : Place) (s : State) (t : Table) (f : Bool) (m : WindowMode), Executes 3 7 p s →
     tableOf (p.byteParam 0) (p.byteParam 1) (p.byteParam 2) s = some t →
     p.byteParam 5 = (if f then 1 else 255) → windowModeOf (p.byteParam 6) = some m →
     p.wordParam 3 < tablePositions t s →
       (m = .read → exec .openWindow s = .next (reply (doneWith (be16 (tableLength t s)))
           { s with agent.window := some ⟨t, .read, f, (p.wordParam 3 : Int)⟩ }))
         ∧ (m = .write → t.readOnly = false → writeBar t s = none →
           exec .openWindow s = .next (reply (doneWith (be16 (tableLength t s)))
             { s with agent.window := some ⟨t, .write, f, (p.wordParam 3 : Int)⟩ }))
         ∧ (m = .replace → t = .slotMap → s.agent.storeRunning = false →
           exec .openWindow s = .next (reply (doneWith [0, 0])
             { s with comm.working.map := [], agent.window := some ⟨t, .replace, f, (p.wordParam 3 : Int)⟩ }))
         ∧ (∀ b, m = .replace → t.bank? = some b → t.isList = true → writeBar t s = none →
           exec .openWindow s = .next (reply (doneWith [0, 0])
             { s with
               banks := s.banks.set b
                 { s.banks.get b with state := .editing, recipe := setSchedule t [] (s.banks.get b).recipe }
               agent.window := some ⟨t, .replace, f, (p.wordParam 3 : Int)⟩ })))
    ∧ (∀ (p : Place) (s : State), Executes 3 7 p s →
         (tableOf (p.byteParam 0) (p.byteParam 1) (p.byteParam 2) s = none
             ∨ (p.byteParam 5 ≠ 1 ∧ p.byteParam 5 ≠ 255) ∨ 3 ≤ p.byteParam 6 →
           exec .openWindow s = .next (reply (plain .range) { s with agent.window := none }))
         ∧ ∀ (t : Table) (m : WindowMode),
             tableOf (p.byteParam 0) (p.byteParam 1) (p.byteParam 2) s = some t →
             (p.byteParam 5 = 1 ∨ p.byteParam 5 = 255) → windowModeOf (p.byteParam 6) = some m →
             ((m ≠ .read ∧ t.readOnly = true ∨ m = .replace ∧ t.isList = false →
                 exec .openWindow s = .next (reply (plain .range) { s with agent.window := none }))
               ∧ (m = .read → tablePositions t s ≤ p.wordParam 3 →
                 exec .openWindow s = .next (reply (plain .range) { s with agent.window := none }))
               ∧ (m ≠ .read → t.readOnly = false → (m = .replace → t.isList = true) →
                 (writeBar t s = none → tablePositions t s ≤ p.wordParam 3 →
                   exec .openWindow s = .next (reply (plain .range) { s with agent.window := none }))
                 ∧ (t.isCommissioning = true → s.agent.storeRunning = true →
                   exec .openWindow s = .next (reply (plain .busy) { s with agent.window := none }))
                 ∧ ∀ b, t.bank? = some b →
                   ((s.banks.get b).state.isChecking = true →
                     exec .openWindow s = .next (reply (plain .busy) { s with agent.window := none }))
                   ∧ ((s.banks.get b).state.isPending = true ∨ (s.banks.get b).state = .active →
                     exec .openWindow s = .next (reply (plain .locked) { s with agent.window := none })))))

/-- READ_NEXT answers the item at the cursor and moves the cursor by the direction; at a cursor beyond the table, or
on a zone or circuit no longer in force, it is refused RANGE and the window closes. CLOSE_WINDOW closes it. With no
window open both are answered NO_WINDOW. Item layouts the manual does not give are the model's (log 15, log 16). -/
def Obligations.ReadNextAndCloseWindow : Prop :=
  ∀ (p : Place) (s : State),
    (∀ w, Executes 5 0 p s → s.agent.window = some w →
      (w.table.inForce s = true → 0 ≤ w.cursor → w.cursor < (tableLength w.table s : Int) →
          exec .readNext s = .next (reply (doneWith (itemAt w.table w.cursor.toNat s))
            { s with agent.window := some { w with cursor := if w.forward then w.cursor + 1 else w.cursor - 1 } }))
        ∧ (w.table.inForce s = false ∨ w.cursor < 0 ∨ (tableLength w.table s : Int) ≤ w.cursor →
          exec .readNext s = .next (reply (plain .range) { s with agent.window := none })))
      ∧ (Executes 5 0 p s → s.agent.window = none → exec .readNext s = .next (reply (plain .noWindow) s))
      ∧ (Executes 6 0 p s →
          (s.agent.window ≠ none →
            exec .closeWindow s = .next (reply (plain .done) { s with agent.window := none }))
          ∧ (s.agent.window = none → exec .closeWindow s = .next (reply (plain .noWindow) s)))

/-- WRITE_NEXT judges missing parameters before anything else, then a closed window; it writes the item at the cursor
and moves the cursor; an item outside its range is refused and the window stays; a READ window answers STATE; a table
that may no longer be written, or a cursor beyond it, closes the window. The order of judgement, and how many bytes
are needed where no item stands, are the model's reading (log 23). -/
def Obligations.WriteNextJudged : Prop :=
  ∀ (p : Place) (s : State), Executes 4 0 p s →
    (s.agent.window = none →
      (p.length = 0 → exec .writeNext s = .next (reply (plain .range) s))
      ∧ (1 ≤ p.length → exec .writeNext s = .next (reply (plain .noWindow) s)))
    ∧ ∀ w, s.agent.window = some w →
      (p.length < itemWidth w.table w.cursor.toNat →
        exec .writeNext s = .next (reply (plain .range) { s with agent.window := none }))
      ∧ (itemWidth w.table w.cursor.toNat ≤ p.length →
        (w.mode = .read → exec .writeNext s = .next (reply (plain .state) s))
        ∧ (w.mode ≠ .read →
          (w.table.inForce s = false →
            exec .writeNext s = .next (reply (plain .range) { s with agent.window := none }))
          ∧ (w.table.inForce s = true →
            (∀ st, writeBar w.table s = some st →
              exec .writeNext s = .next (reply (plain st) { s with agent.window := none }))
            ∧ (writeBar w.table s = none →
              (beyondTable w s = true →
                exec .writeNext s = .next (reply (plain .range) { s with agent.window := none }))
              ∧ (beyondTable w s = false →
                (writeItem w.table w.cursor.toNat p s = none → exec .writeNext s = .next (reply (plain .range) s))
                ∧ ∀ u, writeItem w.table w.cursor.toNat p s = some u →
                    exec .writeNext s = .next (reply (plain .done)
                      { u with
                        agent.window :=
                          some { w with cursor := if w.forward then w.cursor + 1 else w.cursor - 1 } }))))))

/-- An item that WRITE_NEXT has put into a scalar, bank or schedule table reads back as the very bytes that were
written; on SLOT_MAP the entry of the parameters stands at the position written. Every other item of every table reads
as before, every other table keeps its length, and a list grows only where the item stands at its end. On a
commissioning table nothing but the working copy moves; on a bank's table nothing but that bank, which is then EDITING
with its last check kept. The widths of scalars are deduced (log 12). -/
def Obligations.WrittenItemReadsBack : Prop :=
  (∀ (t : Table) (i : Nat) (p : Place) (s u : State), writeItem t i p s = some u → t ≠ .slotMap →
     (t.isList = true → i ≤ tableLength t s) →
     RecipeLaw s →
       itemAt t i u = (List.range (itemWidth t i)).map fun n => byte (p.byteParam n))
    ∧ (∀ (t : Table) (i : Nat) (p : Place) (s u : State), writeItem t i p s = some u →
         (t.bank? = none → u = { s with comm.working := u.comm.working })
         ∧ ∀ b, t.bank? = some b →
             u = { s with
               banks := s.banks.set b { s.banks.get b with state := .editing, recipe := (u.banks.get b).recipe } })
    ∧ (∀ (t : Table) (i : Nat) (p : Place) (s u : State), writeItem t i p s = some u →
         (t.isList = true → i ≤ tableLength t s) →
           (∀ (q : Table) (j : Nat), (q ≠ t ∨ j ≠ i) → j < tableLength q s → itemAt q j u = itemAt q j s)
           ∧ (∀ q : Table, q ≠ t → tableLength q u = tableLength q s)
           ∧ tableLength t u = if t.isList then max (tableLength t s) (i + 1) else tableLength t s)
    ∧ ∀ (i : Nat) (p : Place) (s u : State), writeItem .slotMap i p s = some u → i ≤ s.comm.working.map.length →
        ∃ e, entryParam p = some e ∧ u.comm.working.map[i]? = some e ∧ itemAt .slotMap i u = entryItem e
          ∧ u.comm.working.scalars = s.comm.working.scalars

/-- A Slot Map entry in the ranges of R20 to R22 is read back from its bytes in a request's parameters. Every table is
named by its position, bank and selector while its zone or circuit is in force; every role by its number and index, and
by no others; and a slot record's five bytes give its fields. -/
def Obligations.NamesAndEntriesOnTheWire : Prop :=
  (∀ (e : SlotEntry) (p : Place), EntryInRange e → p.params = entryItem e ++ [0] → entryParam p = some e)
    ∧ ((∀ (t : Table) (s : State), t.inForce s = true →
           tableOf t.position ((t.bank?.map Fin.val).getD 0) t.selector s = some t)
         ∧ (∀ (n i : Nat) (r : Role), roleOfWire n i = some r ↔ n = r.number ∧ i = r.wireIndex)
         ∧ ∀ (node channel code quality : Nat) (v : Word) (k : SlotKind),
             node < 256 → channel < 16 → quality < 256 → slotKindOf code = some k →
               parseSlot [byte node, byte (channel * 16 + code), byte quality, byte (v.toNat / 256), byte v.toNat] =
                 some { node := node, channel := channel, kind := k, quality := qualityOf quality, value := v })

/-! ## Recipe banks -/

/-- SEAL_BANK: a bank beyond 3 is RANGE, judged before anything else (R169), and then the order of R45: an
UNCOMMISSIONED part, a bank CHECKING anywhere, an EDITING bank accepted, any other state refused. That the number of
the bank is judged first, also on an UNCOMMISSIONED part, is the model's reading (log 23); the bank's one byte is
deduced (log 12). -/
def Obligations.SealBankJudged : Prop :=
  ∀ (p : Place) (s : State), Executes 7 1 p s →
    (4 ≤ p.byteParam 0 → exec .sealBank s = .next (reply (plain .range) s))
    ∧ ∀ b : BankNo, p.byteParam 0 = b.val →
      (s.commissioned = false → exec .sealBank s = .next (reply (plain .state) s))
      ∧ (s.commissioned = true →
        ((∃ c, (s.banks.get c).state.isChecking = true) → exec .sealBank s = .next (reply (plain .busy) s))
        ∧ ((∀ c, (s.banks.get c).state.isChecking = false) →
          ((s.banks.get b).state ≠ .editing → exec .sealBank s = .next (reply (plain .state) s))
          ∧ ((s.banks.get b).state = .editing →
            exec .sealBank s = .next (reply (plain .started)
              { s with
                banks := s.banks.set b { s.banks.get b with state := .checking s.zoneCount s.circuitCount }
                agent.checking := some b }))))

/-- The seal check passes exactly the recipes whose thresholds stand in order, whose configured schedules hold at least
two breakpoints with speeds within 1,500 and strictly rising, and whose configured zone temperatures never fall. It
reports its first failure: the thresholds, then each zone's temperature and fan schedule in turn, the exhaust schedule
and each circuit's chill schedule, and within one schedule COUNT with the number it holds, SPEED_ORDER and TEMP_ORDER
each with the first breakpoint that breaks it. -/
def Obligations.SealCheckDecides : Prop :=
  ∀ (b : BankNo) (zones circuits : Nat) (x : Recipe),
    (sealCheck b zones circuits x = .passed ↔
      (x.crawl < x.thread ∧ x.thread ≤ x.run)
        ∧ (∀ k : Zone, k.val < zones →
            SoundSchedule (x.zoneTemp.get k) ∧ RisingValues (x.zoneTemp.get k) ∧ SoundSchedule (x.zoneFan.get k))
        ∧ SoundSchedule x.exhaust
        ∧ ∀ j : Circuit, j.val < circuits → SoundSchedule (x.chill.get j))
    ∧ (¬ (x.crawl < x.thread ∧ x.thread ≤ x.run) →
        sealCheck b zones circuits x = .rejected .thresholdOrder (some (.recipeScalars b)) none)
    ∧ ∀ (order before after : List (Table × Bool × List Breakpoint)) (table : Table) (temps : Bool)
        (l : List Breakpoint), x.crawl < x.thread → x.thread ≤ x.run →
        order = ((([0, 1, 2, 3] : List Zone).filter fun k => decide (k.val < zones)).flatMap fun k =>
            [(.zoneTemp b k, true, x.zoneTemp.get k), (.zoneFan b k, false, x.zoneFan.get k)])
          ++ ((.exhaust b, false, x.exhaust)
            :: (([0, 1, 2] : List Circuit).filter fun j => decide (j.val < circuits)).map fun j =>
              (.chill b j, false, x.chill.get j)) →
        order = before ++ (table, temps, l) :: after →
        (∀ c ∈ before, SoundSchedule c.2.2 ∧ (c.2.1 = true → RisingValues c.2.2)) →
          (l.length < 2 → sealCheck b zones circuits x = .rejected .count (some table) (some l.length))
          ∧ (∀ i, 2 ≤ l.length → SpeedBreaks l i → (∀ j < i, ¬ SpeedBreaks l j) →
              sealCheck b zones circuits x = .rejected .speedOrder (some table) (some i))
          ∧ (∀ i, SoundSchedule l → temps = true → ValueFalls l i → (∀ j < i, ¬ ValueFalls l j) →
              sealCheck b zones circuits x = .rejected .tempOrder (some table) (some i))

/-- The check ends: PASSED makes the bank SEALED, a failure EDITING, COUNTS_CHANGED where the counts in force are no
longer those it took; the last check is set, the operation record cleared and BANK_CHECKED offered. -/
def Obligations.BankCheckEnds : Prop :=
  ∀ (s : State) (b : BankNo) (zones circuits : Nat), s.agent.checking = some b →
    (s.banks.get b).state = .checking zones circuits →
      (s.zoneCount = zones → s.circuitCount = circuits →
        (sealCheck b zones circuits (s.banks.get b).recipe = .passed →
          exec .bankCheckEnd s = .next (offer .bankChecked (.bank b) (.outcome .passed)
            { s with
              banks := s.banks.set b { s.banks.get b with state := .sealed, lastCheck := some .passed }
              agent.checking := none }))
        ∧ ∀ r t i, sealCheck b zones circuits (s.banks.get b).recipe = .rejected r t i →
          exec .bankCheckEnd s = .next (offer .bankChecked (.bank b) (.outcome (.rejected r t i))
            { s with
              banks := s.banks.set b { s.banks.get b with state := .editing, lastCheck := some (.rejected r t i) }
              agent.checking := none }))
      ∧ (¬ (s.zoneCount = zones ∧ s.circuitCount = circuits) →
        exec .bankCheckEnd s = .next (offer .bankChecked (.bank b) (.outcome (.rejected .countsChanged none none))
          { s with
            banks := s.banks.set b
              { s.banks.get b with state := .editing, lastCheck := some (.rejected .countsChanged none none) }
            agent.checking := none }))

/-- CLEAR_BANK as R49 gives it; nothing but the bank's contents and the reply changes. The bank's one byte is deduced
(log 12). -/
def Obligations.ClearBankExecutes : Prop :=
  ∀ (p : Place) (s : State) (b : BankNo), Executes 8 1 p s → p.byteParam 0 = b.val →
    ((s.banks.get b).state = .empty ∨ (s.banks.get b).state = .editing ∨ (s.banks.get b).state = .sealed →
      exec .clearBank s = .next (reply (plain .done)
        { s with banks := s.banks.set b { state := .empty, recipe := Recipe.empty, lastCheck := none } }))
    ∧ ((s.banks.get b).state.isChecking = true → exec .clearBank s = .next (reply (plain .busy) s))
    ∧ ((s.banks.get b).state.isPending = true ∨ (s.banks.get b).state = .active →
        exec .clearBank s = .next (reply (plain .locked) s))

/-- ACTIVATE_BANK: a bank beyond 3 or a mode byte beyond 2 is RANGE (R169, R193); a bank that is not SEALED is refused
and no pending activation moves; a SEALED one changes over at once, or becomes PENDING in place of any other, and the
reply carries its tag. The bank's one byte is deduced (log 12), and so are the mode bytes 0, 1, 2 of AT_ONCE,
AT_SPLICE, AT_STOP (log 13); that bank and mode are judged first is the model's reading (log 23). -/
def Obligations.ActivateBankExecutes : Prop :=
  ∀ (p : Place) (s : State), Executes 9 2 p s →
    (4 ≤ p.byteParam 0 ∨ 3 ≤ p.byteParam 1 → exec .activateBank s = .next (reply (plain .range) s))
    ∧ ∀ b : BankNo, p.byteParam 0 = b.val → p.byteParam 1 < 3 →
      ((s.banks.get b).state.isChecking = true → exec .activateBank s = .next (reply (plain .busy) s))
      ∧ ((s.banks.get b).state = .empty ∨ (s.banks.get b).state = .editing ∨ (s.banks.get b).state.isPending = true
            ∨ (s.banks.get b).state = .active → exec .activateBank s = .next (reply (plain .state) s))
      ∧ ((s.banks.get b).state = .sealed →
        (p.byteParam 1 = 0 ∨ p.byteParam 1 = 2 ∧ s.web.state = .stopped →
          exec .activateBank s = .next (reply (doneWith (s.banks.get b).recipe.tag)
            (changeover b { s with banks := unqueue s.banks })))
        ∧ (p.byteParam 1 = 1 →
          exec .activateBank s = .next (reply (doneWith (s.banks.get b).recipe.tag)
            { s with
              banks := (unqueue s.banks).set b { (unqueue s.banks).get b with state := .pending .atSplice } }))
        ∧ (p.byteParam 1 = 2 → s.web.state ≠ .stopped →
          exec .activateBank s = .next (reply (doneWith (s.banks.get b).recipe.tag)
            { s with
              banks := (unqueue s.banks).set b { (unqueue s.banks).get b with state := .pending .atStop } })))

/-- CANCEL_ACTIVATION returns the PENDING bank to SEALED and touches no other bank; with none PENDING it is refused
STATE. -/
def Obligations.CancelActivationExecutes : Prop :=
  ∀ (p : Place) (s : State), Executes 10 0 p s →
    (∀ b, (s.banks.get b).state.isPending = true →
      (∀ c, (s.banks.get c).state.isPending = true → c = b) →
        exec .cancelActivation s = .next (reply (plain .done)
          { s with banks := s.banks.set b { s.banks.get b with state := .sealed } })
        ∧ unqueue s.banks = s.banks.set b { s.banks.get b with state := .sealed })
    ∧ ((∀ b, (s.banks.get b).state.isPending = false) →
        exec .cancelActivation s = .next (reply (plain .state) s) ∧ unqueue s.banks = s.banks)

/-- A changeover: the named bank is ACTIVE, the former ACTIVE bank SEALED, every other bank and every content as it
was; a resume record of another bank is discarded, ending RESUMING; BANK_ACTIVATED names both banks. The order of the
two records is the model's choice (log 17). -/
def Obligations.ChangeoverEffect : Prop :=
  ∀ (b : BankNo) (s : State),
    (∀ c, ((changeover b s).banks.get c).state =
        if c = b then .active else if activeBank s.banks = some c then .sealed else (s.banks.get c).state)
    ∧ (∀ c, ((changeover b s).banks.get c).recipe = (s.banks.get c).recipe
        ∧ ((changeover b s).banks.get c).lastCheck = (s.banks.get c).lastCheck)
    ∧ ((∀ r, s.web.record = some r → r.bank = b) → (changeover b s).web = s.web
        ∧ (s.log.queue.length < 32 → (changeover b s).log.queue = s.log.queue ++
            [{ seq := s.log.nextSeq, cycle := s.line.refreshCycle, code := .bankActivated, subject := .bank b,
               value := (activeBank s.banks).elim .absent fun a => .num (a.val : Int),
               web := s.web.state, dryer := s.dryer.state }]))
    ∧ (∀ r, s.web.record = some r → r.bank ≠ b →
        (changeover b s).web = { s.web with
          record := none
          state := if s.web.state = .resuming then .threading else s.web.state
          timer := if s.web.state = .resuming then none else s.web.timer }
        ∧ (changeover b s).log.nextSeq = s.log.nextSeq + 2)
    ∧ { changeover b s with banks := s.banks, web := s.web, log := s.log } = s

/-! ## The Commissioning Store -/

/-- STORE in the order of R183; accepted, it invalidates the stored record and touches neither the in-force nor the
working copy. RELOAD as R186 gives it. That the stored record fails from the acceptance on is the model's choice (log
28), and so are the layout of the CHECK data (log 16) and that a RELOAD refused BUSY leaves an open window open (log
35). -/
def Obligations.StoreAndReloadJudged : Prop :=
  (∀ (p : Place) (s : State), Executes 11 0 p s →
     (s.agent.storeRunning = true → exec .store s = .next (reply (plain .busy) s))
     ∧ (s.agent.storeRunning = false →
       (s.dryer.state = .purging ∨ s.dryer.state = .purged ∨ s.dryer.state = .firing →
         exec .store s = .next (reply (plain .state) s))
       ∧ (s.dryer.state = .unpurged ∨ s.dryer.state = .tripped →
         (∀ d, checkData s.comm.working = some d →
           exec .store s = .next (reply { status := .check, data := d } s))
         ∧ (checkData s.comm.working = none →
           exec .store s = .next (reply (plain .started)
             { s with agent.storeRunning := true, comm.stored := none })))))
    ∧ (∀ (p : Place) (s : State), Executes 12 0 p s →
         (s.agent.storeRunning = true → exec .reload s = .next (reply (plain .busy) s))
         ∧ (s.agent.storeRunning = false → ∃ w,
             exec .reload s = .next (reply (plain .done)
               { s with
                 comm.working := match s.comm.inForce with
                   | some r => r
                   | none => { scalars := Scalars.uncommissioned, map := [] }
                 agent.window := w })
             ∧ (∀ x, s.agent.window = some x → x.table = .commScalars ∨ x.table = .slotMap → w = none)
             ∧ (∀ x, s.agent.window = some x → x.table ≠ .commScalars → x.table ≠ .slotMap → w = some x)
             ∧ (s.agent.window = none → w = none)
             ∧ ∀ x q u, s.agent.window = some x → x.table = .commScalars ∨ x.table = .slotMap →
                 exec .reload s = .next u →
                   (Executes 5 0 q u → exec .readNext u = .next (reply (plain .noWindow) u))
                   ∧ (Executes 4 1 q u → exec .writeNext u = .next (reply (plain .noWindow) u))))

/-- The checks of STORE let a working copy through exactly when the scalar cross-checks of R183 and the Slot Map checks
of R23 all hold: no key and no role mapped twice, no entry on the part's own node, every index within the counts, every
ECHO and HOLD paired, safe values and authorities as required, and no required role missing. The refusal names the first
failure: the scalar cross-checks in their order with the scalar; then the first entry in map order that fails any check,
with its first reason and its index; then the first required role that is missing. The layout of those bytes, the
reasons numbered from 0, is the model's choice (log 16). -/
def Obligations.StoreChecksDecide : Prop :=
  (∀ w : CommRecord,
    checkData w = none ↔
      (2 * w.scalars.period ≤ w.scalars.silence ∧ w.scalars.fUnmon ≤ w.scalars.fMon
        ∧ 10 * w.scalars.fMon < w.scalars.trip ∧ w.scalars.qFloor < w.scalars.qCap
        ∧ w.scalars.purgeMin ≤ w.scalars.qCap)
      ∧ w.map.Pairwise (fun a e => ¬ (a.node = e.node ∧ a.channel = e.channel ∧ a.kind = e.kind)
          ∧ ¬ (a.role = e.role ∧ a.kind = e.kind))
      ∧ (∀ e ∈ w.map, e.node ≠ w.scalars.node ∧ e.role.withinCounts w.scalars = true
          ∧ (e.kind = .echo ∨ e.kind = .hold → ∃ c ∈ w.map, c.kind = .command ∧ c.role = e.role)
          ∧ (e.kind = .hold → e.role ≠ .speedRef)
          ∧ (∀ k a v t m, e.role = .zoneTempSp k → e.use = .command a v t m → v ≠ none)
          ∧ ∀ a v t m, e.role = .speedRef → e.use = .command a v t m → a = .observe)
      ∧ ∀ r : Role, (r = .webSpeed ∨ r = .exhaustFlow ∨ ∃ k : Zone, r = .zoneTemp k ∧ k.val < w.scalars.zones) →
          ∃ e ∈ w.map, e.role = r ∧ e.kind = .sample)
  ∧ ∀ w : CommRecord,
    (w.scalars.silence < 2 * w.scalars.period → checkData w = some [0, 0, 0, 0, 2])
    ∧ (2 * w.scalars.period ≤ w.scalars.silence →
      (w.scalars.fMon < w.scalars.fUnmon → checkData w = some [0, 0, 0, 1, 11])
      ∧ (w.scalars.fUnmon ≤ w.scalars.fMon →
        (w.scalars.trip ≤ 10 * w.scalars.fMon → checkData w = some [0, 0, 0, 2, 12])
        ∧ (10 * w.scalars.fMon < w.scalars.trip →
          (w.scalars.qCap ≤ w.scalars.qFloor → checkData w = some [0, 0, 0, 3, 15])
          ∧ (w.scalars.qFloor < w.scalars.qCap →
            (w.scalars.qCap < w.scalars.purgeMin → checkData w = some [0, 0, 0, 4, 19])
            ∧ (w.scalars.purgeMin ≤ w.scalars.qCap →
              (∀ before e after n, w.map = before ++ e :: after →
                (∀ ahead x behind, before = ahead ++ x :: behind → ∀ m, ¬ EntryFails w ahead x m) →
                EntryFails w before e n → (∀ m < n, ¬ EntryFails w before e m) →
                  checkData w = some [1, 0, 0, byte n, byte before.length])
              ∧ ((∀ ahead x behind, w.map = ahead ++ x :: behind → ∀ m, ¬ EntryFails w ahead x m) →
                ∀ (required before after : List Role) (r : Role),
                  required = .webSpeed :: .exhaustFlow
                    :: (([0, 1, 2, 3] : List Zone).filter fun k => decide (k.val < w.scalars.zones)).map .zoneTemp →
                  required = before ++ r :: after →
                  (∀ q ∈ before, ∃ e ∈ w.map, e.role = q ∧ e.kind = .sample) →
                  (∀ e ∈ w.map, ¬ (e.role = r ∧ e.kind = .sample)) →
                    checkData w = some [1, 0, 0, 7, byte r.number, byte r.wireIndex]))))))

/-- The write completes: the working copy is stored and in force. Where a count changed the banks are demoted and both
units withdraw, their publications, evaluations, counters and conditions cleared; otherwise all of these stand. The
board and the Command Table keep the records and entries of roles that stay, gain fresh ones and lose the others. A
flame condition no longer judged is cleared, and EXHAUST_UNRESPONSIVE where its entry leaves UNRESPONSIVE. A changed
level or mode of BREAK_IN, or becoming COMMISSIONED, clears the latch and the memory and takes the pin's level as
reference, the latter in ONLINE owing a line return. ALERT is judged under the new threshold, and STORE_FINISHED with
outcome WRITTEN is offered. The line, the pins and the dryer state are untouched. That the count owed to a LEVEL
detector is cleared with its memory (log 20), and that ALERT is judged before STORE_FINISHED is offered (log 17), are
the model's. -/
def Obligations.StoreWriteCompletes : Prop :=
  ∀ (s : State) (w : CommRecord), s.comm.working = w → s.agent.storeRunning = true →
    ∃ t, exec .storeWriteComplete s = .next t
      ∧ t.comm = ⟨some w, some w, w⟩ ∧ t.agent = { s.agent with storeRunning := false }
      ∧ (t.zoneCount = s.zoneCount → t.circuitCount = s.circuitCount →
          t.banks = s.banks ∧ t.sched = s.sched ∧ t.solv = { s.solv with eff := t.solv.eff })
      ∧ (¬ (t.zoneCount = s.zoneCount ∧ t.circuitCount = s.circuitCount) →
          (∀ b, (t.banks.get b).state = (s.banks.get b).state.demoted
            ∧ (t.banks.get b).recipe = (s.banks.get b).recipe
            ∧ (t.banks.get b).lastCheck = (s.banks.get b).lastCheck)
          ∧ t.sched.publication = none ∧ t.sched.job = none
          ∧ (∀ k, t.sched.devCount.get k = 0 ∧ t.sched.deviation.get k = false)
          ∧ (∀ j, t.sched.shortCount.get j = 0 ∧ t.sched.shortfall.get j = false)
          ∧ t.solv = { s.solv with
              eff := t.solv.eff, publication := none, job := none, pendingCycles := 0, mismatchCount := 0
              limited := false, mismatch := false })
      ∧ t.solv.eff = some (effectiveParams w.scalars s.agent.overrides s.board.mode)
      ∧ (∀ k ∈ recordKeys w.map,
          lookupKey k t.board.records = some ((lookupKey k s.board.records).getD BoardRec.fresh))
      ∧ (∀ k, k ∉ recordKeys w.map → lookupKey k t.board.records = none)
      ∧ t.board = { s.board with records := t.board.records }
      ∧ (∀ r ∈ commandRoles w.map,
          lookupKey r t.cmds.entries = some (repair w.map r ((lookupKey r s.cmds.entries).getD CmdEntry.fresh)))
      ∧ (∀ r, r ∉ commandRoles w.map → lookupKey r t.cmds.entries = none)
      ∧ t.cmds = { s.cmds with entries := t.cmds.entries }
      ∧ t.dryer = { s.dryer with flame := t.dryer.flame, exhaustUnresponsive := t.dryer.exhaustUnresponsive }
      ∧ (∀ k : Zone, (k.val < w.scalars.zones ∧ ∃ e ∈ w.map, e.role = .zoneFlame k ∧ e.kind = .sample) →
          t.dryer.flame.get k = s.dryer.flame.get k)
      ∧ (∀ k : Zone, ¬ (k.val < w.scalars.zones ∧ ∃ e ∈ w.map, e.role = .zoneFlame k ∧ e.kind = .sample) →
          t.dryer.flame.get k = ⟨false, 0⟩)
      ∧ (∀ left : Prop, (left ↔ (∃ e, s.cmds.entry? .exhaustSp = some e ∧ e.responsiveness = .unresponsive)
            ∧ ∀ e, t.cmds.entry? .exhaustSp = some e → e.responsiveness ≠ .unresponsive) →
          (left → t.dryer.exhaustUnresponsive = false)
          ∧ (¬ left → t.dryer.exhaustUnresponsive = s.dryer.exhaustUnresponsive))
      ∧ (∀ c, s.scalars? = some c →
          (c.pinLevel = w.scalars.pinLevel → c.pinMode = w.scalars.pinMode → t.web = s.web)
          ∧ (c.pinLevel ≠ w.scalars.pinLevel ∨ c.pinMode ≠ w.scalars.pinMode → t.web =
              { s.web with latch := false, memPin := false, countDue := false, reference := s.pins.breakIn }))
      ∧ (s.scalars? = none → t.web =
          { s.web with
            latch := false, memPin := false, countDue := false, reference := s.pins.breakIn
            returnDue := decide (s.line.state = .online) })
      ∧ (∀ any l, any = s.log.queue.any (qualifies w.scalars.threshold) →
          l = (if s.log.alert = true then
              (if any = true then s.log
               else { s.log with
                 alert := false
                 gap := if w.scalars.gap = 0 then none else some (s.now + 1000 * w.scalars.gap) })
            else if s.log.gap = none then { s.log with alert := any } else s.log) →
            t.log = (offer .storeFinished .none .written { s with comm := ⟨some w, some w, w⟩, log := l }).log
            ∧ (s.log.queue.length < 32 → t.log.queue = s.log.queue ++
                [{ seq := s.log.nextSeq, cycle := s.line.refreshCycle, code := .storeFinished, subject := .none,
                   value := .written, web := s.web.state, dryer := s.dryer.state }]))
      ∧ t.line = s.line ∧ t.pins = s.pins ∧ t.phase = s.phase ∧ t.now = s.now ∧ t.choices = s.choices

/-- The load at start ends: a record that passes is in force and in the working copy; otherwise the part is
UNCOMMISSIONED on the values of R182 and offers COMMISSIONING_INVALID. The relay opens into SYNCING with the silence
timer running. A stored record is whole or failing, nothing else (log 28). -/
def Obligations.StoreLoadCompletes : Prop :=
  ∀ s : State, s.phase = .loading →
    (∀ w, s.comm.stored = some w →
      exec .storeLoadComplete s = .next
        { s with
          phase := .running
          comm := ⟨some w, some w, w⟩
          line := { s.line with
            state := .syncing, relayClosed := false, silence := some (s.now + 1000 * w.scalars.silence) }
          web.reference := s.pins.breakIn
          board.records := rebuildRecords w.map []
          cmds.entries := rebuildEntries w.map []
          solv.eff := some (effectiveParams w.scalars s.agent.overrides s.board.mode) })
    ∧ (s.comm.stored = none →
      exec .storeLoadComplete s = .next (offer .commissioningInvalid .none .absent
        { s with
          phase := .running
          comm := ⟨none, none, { scalars := Scalars.uncommissioned, map := [] }⟩
          line := { s.line with
            state := .syncing, relayClosed := false, silence := some (s.now + 1000 * 500) }
          web.reference := s.pins.breakIn
          board.records := []
          cmds.entries := []
          solv.eff := none }))

/-! ## The Dryer Safety Unit -/

/-- START_PURGE in the order of R128, and ABORT_PURGE, which keeps the figures reached. -/
def Obligations.PurgeRequests : Prop :=
  ∀ (p : Place) (s : State),
    (Executes 13 0 p s →
      (s.commissioned = false → exec .startPurge s = .next (reply (plain .state) s))
      ∧ (s.commissioned = true → s.agent.storeRunning = true → exec .startPurge s = .next (reply (plain .busy) s))
      ∧ (s.commissioned = true → s.agent.storeRunning = false →
        (s.dryer.state ≠ .unpurged ∨ s.line.state ≠ .online →
          exec .startPurge s = .next (reply (plain .state) s))
        ∧ (s.dryer.state = .unpurged → s.line.state = .online →
          exec .startPurge s = .next (reply (plain .done)
            { s with
              dryer.state := .purging, dryer.permit := false, dryer.accumulator := 0, dryer.remainder := 0 }))))
    ∧ (Executes 14 0 p s →
      (s.dryer.state = .purging → exec .abortPurge s = .next (reply (plain .done)
        { s with dryer.state := .unpurged, dryer.permit := false }))
      ∧ (s.dryer.state ≠ .purging → exec .abortPurge s = .next (reply (plain .state) s)))

/-- RESET_TRIP in the order of R133: refused out of TRIPPED, refused naming the first active condition of R119,
refused naming the lowest zone whose flame is not GOOD 0, and otherwise accepted. READ_TRIP_CAPTURE reports the
capture, every field absent while it is, and the further-trips count, and changes nothing. The bytes of absent fields
and of a refused RESET_TRIP are the model's choice (log 15, log 16). -/
def Obligations.TripRequests : Prop :=
  (∀ (p : Place) (s : State), Executes 15 0 p s →
     (s.dryer.state ≠ .tripped →
       exec .resetTrip s = .next (reply { status := .state, data := [255, 255, 255] } s))
     ∧ (s.dryer.state = .tripped →
       (∀ c r, firstActive s.dryer = some (c, r) →
         exec .resetTrip s = .next (reply { status := .state, data := byte c.number :: encOptRole r } s))
       ∧ (firstActive s.dryer = none ↔ ¬ AnyActive s.dryer)
       ∧ (¬ AnyActive s.dryer → ∀ k ∈ s.flameZones, s.board.fresh (.zoneFlame k) ≠ some 0 →
         (∀ j ∈ s.flameZones, j < k → s.board.fresh (.zoneFlame j) = some 0) →
           exec .resetTrip s = .next (reply { status := .state, data := [255, 5, byte (k.val + 1)] } s))
       ∧ (¬ AnyActive s.dryer → (∀ k ∈ s.flameZones, s.board.fresh (.zoneFlame k) = some 0) →
         exec .resetTrip s = .next (reply (plain .done)
           (offer .tripReset .none (s.dryer.capture.elim .absent fun c => .condition c.condition)
             { s with dryer := { s.dryer with
               state := .unpurged
               permit := false
               capture := none
               furtherTrips := 0
               lelPredicted := { s.dryer.lelPredicted with count := 0 }
               exhaustLow := { s.dryer.exhaustLow with count := 0 }
               flame := Four.ofFn fun k => { s.dryer.flame.get k with count := 0 } } })))))
    ∧ (∀ (p : Place) (s : State), Executes 21 0 p s →
         (s.dryer.capture = none →
           exec .readTripCapture s = .next (reply (doneWith
             ([255, 255, 255, 255, 255, 255, 255, 0, 0, 0, 255, 255, 255, 255, 255, 255, 255, 255, 255]
               ++ be16 s.dryer.furtherTrips)) s))
         ∧ ∀ c, s.dryer.capture = some c →
           exec .readTripCapture s = .next (reply (doneWith
             ([byte c.condition.number] ++ encOptRole c.subject.role? ++ encOpt16 (c.value.map Int.toNat)
               ++ [byte c.before.code, byte c.web.code] ++ encCycle c.cycle ++ encOpt16 c.trip ++ encOpt16 c.qFloor
               ++ [byte c.mode.code] ++ be32 c.accumulator ++ be16 s.dryer.furtherTrips)) s))

/-- What the onset of a safety condition does: a trip out of any other state, a further trip in TRIPPED, and in both the
SAFETY record of the condition, which carries TRIPPED; where the trip discards a resume record, RESUME_DISCARDED stands
before it. The capture's web state is the one before the trip is announced, and the order of those two records is, the
model's choice (log 17, log 19). -/
def Obligations.OnsetTrips : Prop :=
  ∀ (c : SafetyCondition) (sub : Subject) (v : Option Int) (s : State) (report : Incident) (web : WebState),
    report = { seq := s.log.nextSeq, cycle := s.line.refreshCycle, code := c.code, subject := sub,
               value := v.elim .absent .num, web := s.web.state, dryer := .tripped } →
    web = (if s.web.state = .resuming then .threading else s.web.state) →
    (s.dryer.state ≠ .tripped →
      (onset c sub v s).dryer = { s.dryer with
        state := .tripped
        permit := false
        hold := none
        capture := some (s.dryer.capture.getD
          { condition := c, subject := sub, value := v, before := s.dryer.state, web := s.web.state,
            cycle := s.line.refreshCycle, trip := s.solv.eff.map EffParams.trip,
            qFloor := s.solv.eff.map EffParams.qFloor, mode := s.board.mode, accumulator := s.dryer.accumulator })
        furtherTrips :=
          if s.dryer.capture.isSome then min 65535 (s.dryer.furtherTrips + 1) else s.dryer.furtherTrips }
      ∧ (onset c sub v s).cmds =
          { s.cmds with entries := s.cmds.entries.map fun p => (p.1, { p.2 with released := false }) }
      ∧ (s.dryer.state.burning = true → (onset c sub v s).web.record = none))
    ∧ (s.dryer.state = .tripped →
      (onset c sub v s).dryer = { s.dryer with furtherTrips := min 65535 (s.dryer.furtherTrips + 1) }
      ∧ (onset c sub v s).cmds = s.cmds ∧ (onset c sub v s).web = s.web)
    ∧ { onset c sub v s with dryer := s.dryer, cmds := s.cmds, web := s.web, log := s.log } = s
    ∧ report.code.cls = .safety
    ∧ (s.dryer.state = .tripped ∨ s.dryer.state.burning = false ∨ s.web.record = none →
        (onset c sub v s).log = (offer c.code sub report.value { s with dryer.state := .tripped }).log
        ∧ (s.log.queue.length < 32 → (onset c sub v s).log.queue = s.log.queue ++ [report]))
    ∧ ∀ r, s.dryer.state.burning = true → s.web.record = some r →
        (onset c sub v s).web = { s.web with
          record := none, state := web, timer := if s.web.state = .resuming then none else s.web.timer }
        ∧ (s.log.queue.length < 31 → (onset c sub v s).log.queue = s.log.queue ++
            [{ report with code := .resumeDiscarded, subject := .bank r.bank, value := .cause .dryer, web := web },
             { report with seq := s.log.nextSeq + 1, web := web }])

/-- The purge hold timer expires in PURGED: UNPURGED, PERMIT low, a resume record discarded, PURGE_EXPIRED offered.
The resume timer, at 0, expires in RESUMING: THREADING, the record discarded with cause TIMEOUT; above 0 nothing changes
and the web stays RESUMING. That an expiry moves the time base to the deadline, that a command for an expiry that has
not come changes nothing, and that RESUME_DISCARDED stands before PURGE_EXPIRED, are the model's choice (log 2, log 3,
log 17). -/
def Obligations.HoldAndResumeExpire : Prop :=
  ∀ s : State,
    (∀ d, s.dryer.state = .purged → s.dryer.hold = some d →
      exec .purgeHoldExpiry s = .next (offer .purgeExpired .none .absent (discardResume .dryer
        { s with
          now := max s.now d, dryer.state := .unpurged, dryer.permit := false, dryer.hold := none })))
    ∧ (∀ r, s.web.state = .resuming → s.web.timer = some 0 → s.web.record = some r →
      exec .resumeTimerExpiry s = .next (offer .resumeDiscarded (.bank r.bank) (.cause .timeout)
        { s with web := { s.web with state := .threading, timer := none, record := none } }))
    ∧ ∀ n, s.web.state = .resuming → s.web.timer = some n → 0 < n → exec .resumeTimerExpiry s = .next s

/-- The silence timer expires: the line is SILENT with its sync count and remembered numbers gone, and the dryer is
told: PURGED and FIRING trip on LINE_SILENT, PURGING is UNPURGED with its figures at 0, any other state stays. That
the expiry moves the time base to the deadline is the model's choice (log 2). -/
def Obligations.SilenceExpires : Prop :=
  ∀ (s : State) (d : Nat), s.line.silence = some d →
    ∃ t, exec .silenceTimerExpiry s = .next t
      ∧ t.line = { s.line with state := .silent, syncCount := 0, remembered := [], silence := none }
      ∧ t.now = max s.now d
      ∧ (s.dryer.state = .unpurged ∨ s.dryer.state = .tripped →
          t = { s with now := t.now, line := t.line })
      ∧ (s.dryer.state = .purging →
          t = { s with
            now := t.now, line := t.line
            dryer.state := .unpurged, dryer.permit := false, dryer.accumulator := 0, dryer.remainder := 0 })
      ∧ (s.dryer.state.burning = true → s.dryer.lineSilent = false →
          t.dryer.state = .tripped ∧ t.dryer.permit = false ∧ t.dryer.hold = none ∧ t.dryer.lineSilent = true
            ∧ t.web.record = none ∧ (∀ p ∈ t.cmds.entries, p.2.released = false)
            ∧ (s.dryer.capture = none → ∃ c, t.dryer.capture = some c ∧ c.condition = .lineSilent
                ∧ c.subject = .none ∧ c.value = none ∧ c.before = s.dryer.state))

/-! ## The Web Sequencer -/

/-- SET_PREHEAT sets the flag; RESUME_DISCARD discards a standing record with cause REQUEST, ending RESUMING; RELEASE
and RECLAIM set and clear the released flag of a mapped command role, and move no other entry. That RELEASE and
RECLAIM judge the role, then an UNCOMMISSIONED part, then the missing entry is the model's reading (log 23). -/
def Obligations.WebAndReleaseRequests : Prop :=
  ∀ (p : Place) (s : State),
    (Executes 16 1 p s →
      (p.byteParam 0 < 2 → exec .setPreheat s = .next (reply (plain .done)
        { s with web.preheat := decide (p.byteParam 0 = 1) }))
      ∧ (2 ≤ p.byteParam 0 → exec .setPreheat s = .next (reply (plain .range) s)))
    ∧ (Executes 19 0 p s →
      (s.web.record = none → exec .resumeDiscard s = .next (reply (plain .state) s))
      ∧ ∀ r, s.web.record = some r →
        exec .resumeDiscard s = .next (reply (plain .done)
          (offer .resumeDiscarded (.bank r.bank) (.cause .request)
            { s with web := { s.web with
              record := none
              state := if s.web.state = .resuming then .threading else s.web.state
              timer := if s.web.state = .resuming then none else s.web.timer } })))
    ∧ ∀ (code : Nat) (c : Instr) (flag : Bool),
      (code = 17 ∧ c = .release ∧ flag = true ∨ code = 18 ∧ c = .reclaim ∧ flag = false) → Executes code 2 p s →
        ((∀ r : Role, r.isCommand = true → ¬ (p.byteParam 0 = r.number ∧ p.byteParam 1 = r.wireIndex)) →
          exec c s = .next (reply (plain .range) s))
        ∧ ∀ r : Role, p.byteParam 0 = r.number → p.byteParam 1 = r.wireIndex → r.isCommand = true →
          (s.commissioned = false → exec c s = .next (reply (plain .state) s))
          ∧ (s.commissioned = true → commandEntry s.map r = none → exec c s = .next (reply (plain .range) s))
          ∧ (s.commissioned = true → commandEntry s.map r ≠ none → ∃ entries,
            exec c s = .next (reply (plain .done) { s with cmds.entries := entries })
              ∧ lookupKey r entries = (lookupKey r s.cmds.entries).map (fun e => { e with released := flag })
              ∧ (∀ q, q ≠ r → lookupKey q entries = lookupKey q s.cmds.entries)
              ∧ entries.map Prod.fst = s.cmds.entries.map Prod.fst)

/-- BREAK_IN changes: an edge while ONLINE and COMMISSIONED is taken at once, a break where the web moves and an ignored
source where it does not; out of ONLINE it sets the latch; any other change only moves the reference. A break entry out
of THREADING, RUNNING or RESUMING: BREAK with its source, the dwell of the ACTIVE bank and the exhaust last forwarded; a
new resume record only out of RUNNING under a burning dryer with a bank ACTIVE, the second break counted out of
RESUMING; WEB_BREAK with the source and the actual speed, and out of RESUMING SECOND_BREAK with the source and the count
of second breaks, in the order of section 6.14 (log 17). -/
def Obligations.BreaksTaken : Prop :=
  (∀ (l : Level) (s : State),
     (s.phase ≠ .running → exec (.breakInChange l) s = .next { s with pins.breakIn := l })
     ∧ (s.phase = .running →
       (s.scalars? = none → exec (.breakInChange l) s = .next { s with pins.breakIn := l, web.reference := l })
       ∧ ∀ c, s.scalars? = some c →
         (c.pinMode = .level ∨ l ≠ c.pinLevel ∨ s.web.reference = c.pinLevel →
           exec (.breakInChange l) s = .next { s with pins.breakIn := l, web.reference := l })
         ∧ (c.pinMode = .edge → l = c.pinLevel → s.web.reference ≠ c.pinLevel →
           (s.line.state ≠ .online →
             exec (.breakInChange l) s = .next
               { s with pins.breakIn := l, web.reference := l, web.latch := true })
           ∧ (s.line.state = .online → (s.web.state = .stopped ∨ s.web.state = .break) →
             exec (.breakInChange l) s = .next
               { s with
                 pins.breakIn := l, web.reference := l, web.latch := false
                 web.ignored := min 4294967295 (s.web.ignored + 1) })
           ∧ (s.line.state = .online → (s.web.state = .threading ∨ s.web.state = .running ∨ s.web.state = .resuming) →
             exec (.breakInChange l) s = .next (breakEntry .breakIn
               { s with pins.breakIn := l, web.reference := l, web.latch := false })))))
    ∧ (∀ (src : BreakSource) (sub : Subject) (s : State) (report : Incident),
         (src = .breakIn ∧ sub = .breakIn ∨ src = .lineBreak ∧ sub = .role .lineBreak
           ∨ ∃ b, src = .sensor b ∧ sub = .role (.breakSensor b)) →
         report = { seq := s.log.nextSeq, cycle := s.line.refreshCycle, code := .webBreak, subject := sub,
                    value := .num (s.board.actual : Int), web := .break, dryer := s.dryer.state } →
         (s.web.state = .threading ∨ s.web.state = .running ∨ s.web.state = .resuming) →
         (s.web.state = .resuming → s.web.record.isSome = true) →
           (breakEntry src s).web.state = .break ∧ (breakEntry src s).web.source = some src
           ∧ (breakEntry src s).web.dwell = ((activeBank s.banks).map fun b => (s.banks.get b).recipe.dwell).getD 0
           ∧ (breakEntry src s).web.exhaustAtBreak = s.cmds.lastValue .exhaustSp
           ∧ (s.web.state = .resuming → (breakEntry src s).web.timer = none
               ∧ (breakEntry src s).web.record =
                   s.web.record.map fun r => { r with second := min 255 (r.second + 1) })
           ∧ (s.web.state = .threading → (breakEntry src s).web.record = s.web.record)
           ∧ (∀ b, s.web.state = .running → activeBank s.banks = some b → s.dryer.state.burning = true →
               (breakEntry src s).web.record = some
                 { bank := b, cycle := s.line.refreshCycle, lead := s.board.lead, source := src,
                   temps := Four.ofFn fun k => if k.val < s.zoneCount then s.cmds.lastValue (.zoneTempSp k) else none,
                   fans := Four.ofFn fun k => if k.val < s.zoneCount then s.cmds.lastValue (.zoneFanSp k) else none,
                   exhaust := s.cmds.lastValue .exhaustSp, second := 0 })
           ∧ (s.web.state = .running → activeBank s.banks = none ∨ s.dryer.state.burning = false →
               (breakEntry src s).web.record = s.web.record)
           ∧ (breakEntry src s).log.nextSeq = s.log.nextSeq + (if s.web.state = .resuming then 2 else 1)
           ∧ (s.web.state = .threading ∨ s.web.state = .running →
               breakEntry src s = offer .webBreak sub report.value { s with web := (breakEntry src s).web }
               ∧ (s.log.queue.length < 32 → (breakEntry src s).log.queue = s.log.queue ++ [report]))
           ∧ (∀ r, s.web.state = .resuming → s.web.record = some r →
               breakEntry src s = offer .secondBreak sub (.num (min 255 (r.second + 1) : Nat))
                 (offer .webBreak sub report.value { s with web := (breakEntry src s).web })
               ∧ (s.log.queue.length < 31 → (breakEntry src s).log.queue = s.log.queue ++
                   [report,
                    { report with
                      seq := s.log.nextSeq + 1, code := .secondBreak, value := .num (min 255 (r.second + 1) : Nat) }]))
           ∧ { breakEntry src s with web := s.web, log := s.log } = s)

/-- The transition of a judged refresh, by the table of R94, while the speed is measured. With the speed frozen no web
starts from STOPPED and no moving web is stopped or stepped down by it; a web in BREAK still completes its stop where
the frozen figure lies below the crawl threshold, and breaks, impression, the dwell and the resume timer still act. In
STOPPED and BREAK every source that appears is counted as ignored, a LEVEL detector that named the break once where it
still stands at the next judged refresh, and with a break every source beside the one that names it. A web that becomes
STOPPED clears the resume timer, the dwell, the break source and the exhaust at break, keeps the resume record, and then
the bank PENDING AT_STOP, where there is one, takes over. The line return sets STOPPED or THREADING from the actual
speed and clears what belonged to the former state. A judged refresh with a splice event leaves what it leaves without
one, and then the bank PENDING AT_SPLICE, where there is one, takes over; a refresh that is not judged only hands the
splice event over. What frozen means for each transition, the stop of a BREAK web among them, is the model's reading
(log 18), and so are which refresh makes the one count of a LEVEL detector (log 20), that a latch consumed in STOPPED or
BREAK is counted (log 27), and the hand-over after a line return (log 33). -/
def Obligations.JudgedRefreshMovesWeb : Prop :=
  (∀ (r : Refresh) (s t : State), judged r s = true → r.entry = false → s.web.returnDue = false →
    s.board.splice = false → s.board.frozen = false → t = react r .webSequencer s →
      (s.web.state = .stopped →
        (s.board.actual < s.crawl → t.web.state = .stopped)
        ∧ (s.crawl ≤ s.board.actual → s.web.record.isSome = true →
            t.web.state = .resuming ∧ t.web.timer = some s.resumeTimeout)
        ∧ (s.crawl ≤ s.board.actual → s.web.record = none → t.web.state = .threading))
      ∧ ((s.web.state = .threading ∨ s.web.state = .running ∨ s.web.state = .resuming) →
        (∀ b, s.sources.head? = some b → t.web.state = .break ∧ t.web.source = some b)
        ∧ (s.sources = [] → s.board.actual < s.crawl → t.web.state = .stopped))
      ∧ (s.sources = [] → s.crawl ≤ s.board.actual →
        (s.web.state = .threading →
          t.web.state = if s.impression = some true ∧ s.runThreshold ≤ s.board.actual then .running else .threading)
        ∧ (s.web.state = .running → t.web.state = if s.impression = some false then .threading else .running)
        ∧ (∀ n, s.web.state = .resuming → s.web.timer = some n →
          (s.impression = some true → s.runThreshold ≤ s.board.actual →
            t.web.state = .running ∧ t.web.record = none ∧ t.web.timer = none)
          ∧ (¬ (s.impression = some true ∧ s.runThreshold ≤ s.board.actual) →
            (n ≤ r.step → t.web.state = .threading ∧ t.web.record = none ∧ t.web.timer = none)
            ∧ (r.step < n → t.web.state = .resuming ∧ t.web.timer = some (n - r.step)
                ∧ t.web.record = s.web.record))))
      ∧ (s.web.state = .break →
        (s.web.dwell ≤ r.step → s.board.actual < s.crawl → t.web.state = .stopped ∧ t.web.source = none)
        ∧ (r.step < s.web.dwell ∨ s.crawl ≤ s.board.actual →
            t.web.state = .break ∧ t.web.dwell = s.web.dwell - r.step))
      ∧ t.web.latch = false ∧ t.dryer = s.dryer ∧ t.cmds = s.cmds ∧ t.board = s.board ∧ t.line = s.line
      ∧ t.comm = s.comm ∧ t.agent = s.agent)
    ∧ (∀ (r : Refresh) (s t : State), judged r s = true → r.entry = false → s.web.returnDue = false →
        s.board.splice = false → s.board.frozen = true → t = react r .webSequencer s →
          (s.web.state = .stopped → t.web.state = .stopped)
          ∧ ((s.web.state = .threading ∨ s.web.state = .running ∨ s.web.state = .resuming) →
              ∀ b, s.sources.head? = some b → t.web.state = .break ∧ t.web.source = some b)
          ∧ (s.sources = [] →
            (s.web.state = .threading → t.web.state =
              if s.impression = some true ∧ s.runThreshold ≤ s.board.actual then .running else .threading)
            ∧ (s.web.state = .running → t.web.state = if s.impression = some false then .threading else .running)
            ∧ (∀ n, s.web.state = .resuming → s.web.timer = some n →
              (s.impression = some true → s.runThreshold ≤ s.board.actual →
                t.web.state = .running ∧ t.web.record = none ∧ t.web.timer = none)
              ∧ (¬ (s.impression = some true ∧ s.runThreshold ≤ s.board.actual) →
                (n ≤ r.step → t.web.state = .threading ∧ t.web.record = none ∧ t.web.timer = none)
                ∧ (r.step < n → t.web.state = .resuming ∧ t.web.timer = some (n - r.step)
                    ∧ t.web.record = s.web.record))))
          ∧ (s.web.state = .break →
            (s.web.dwell ≤ r.step → s.board.actual < s.crawl → t.web.state = .stopped ∧ t.web.source = none)
            ∧ (r.step < s.web.dwell ∨ s.crawl ≤ s.board.actual →
                t.web.state = .break ∧ t.web.dwell = s.web.dwell - r.step)))
    ∧ (∀ (r : Refresh) (s t : State), judged r s = true → r.entry = false → s.web.returnDue = false →
        s.board.splice = false → t = react r .webSequencer s →
          t.web.memLine = s.lineBreakPresent ∧ t.web.memPin = s.pinPresent
          ∧ (s.web.state = .stopped ∨ s.web.state = .break → t.web.countDue = false
            ∧ t.web.ignored = min 4294967295 (s.web.ignored + ((if s.web.latch = true then 1 else 0)
                + ((if s.pinPresent = true ∧ (s.web.memPin = false ∨ s.web.countDue = true) then 1 else 0)
                  + (if s.lineBreakPresent = true ∧ s.web.memLine = false then 1 else 0)))))
          ∧ (s.web.state = .threading ∨ s.web.state = .running ∨ s.web.state = .resuming →
            t.web.countDue = s.pinPresent
            ∧ t.web.ignored = min 4294967295 (s.web.ignored + (s.sources.length - 1))))
    ∧ (∀ (r : Refresh) (s t w : State), judged r s = true → r.entry = false → s.web.returnDue = false →
        s.board.splice = false → t = react r .webSequencer s → s.web.state ≠ .stopped → t.web.state = .stopped →
        w = { s with web := { s.web with
          state := .stopped, timer := none, dwell := 0, source := none, exhaustAtBreak := none, latch := false
          memLine := s.lineBreakPresent, memPin := s.pinPresent, countDue := t.web.countDue
          ignored := t.web.ignored } } →
          ((∀ b, (s.banks.get b).state ≠ .pending .atStop) → t = w)
          ∧ ∀ b, pendingBank s.banks = some b → (s.banks.get b).state = .pending .atStop → t = changeover b w)
    ∧ (∀ (r : Refresh) (s t u : State), judged r s = true → s.board.splice = true → t = react r .webSequencer s →
        u = react r .webSequencer { s with board.splice := false } →
          ((∀ b, (u.banks.get b).state ≠ .pending .atSplice) → t = { u with board.splice := true })
          ∧ ∀ b, pendingBank u.banks = some b → (u.banks.get b).state = .pending .atSplice →
              t = changeover b { u with board.splice := true })
    ∧ (∀ (r : Refresh) (s t : State) (w : WebState → State), judged r s = true →
        (r.entry = true ∨ s.web.returnDue = true) → s.board.splice = false → t = react r .webSequencer s →
        (∀ st, w st = { s with web := { s.web with
          state := st, timer := none, dwell := 0, source := none, exhaustAtBreak := none, returnDue := false
          memLine := s.lineBreakPresent, memPin := s.pinPresent, countDue := false } }) →
          (s.crawl ≤ s.board.actual → t = w .threading)
          ∧ (s.board.actual < s.crawl →
            ((∀ b, (s.banks.get b).state ≠ .pending .atStop) → t = w .stopped)
            ∧ ∀ b, pendingBank s.banks = some b → (s.banks.get b).state = .pending .atStop →
                t = changeover b (w .stopped)))
    ∧ ∀ (r : Refresh) (s : State), judged r s = false →
        (s.board.splice = false → react r .webSequencer s = s)
        ∧ (s.board.splice = true →
          ((∀ b, (s.banks.get b).state ≠ .pending .atSplice) → react r .webSequencer s = s)
          ∧ ∀ b, pendingBank s.banks = some b → (s.banks.get b).state = .pending .atSplice →
              react r .webSequencer s = changeover b s)

/-! ## The Command Table -/

/-- The owner of an entry at a passage, by the three steps of R139. -/
def Obligations.OwnerResolved : Prop :=
  ∀ (r : Role) (p : CommandParams) (e : CmdEntry) (s : State),
    (s.dryer.state = .tripped → (r.isBurner = true ∨ p.safe.isSome = true) → resolveOwner r p e s = .safe)
    ∧ (¬ (s.dryer.state = .tripped ∧ (r.isBurner = true ∨ p.safe.isSome = true)) →
      (e.released = true → resolveOwner r p e s = .line)
      ∧ (e.released = false →
        (p.authority = .observe → resolveOwner r p e s = .line)
        ∧ (p.authority = .supervise →
          resolveOwner r p e s =
            if s.web.state = .break ∨ s.dryer.state = .unpurged ∨ s.dryer.state = .purging then .sequence else .line)
        ∧ (p.authority = .full → (∀ b, (s.banks.get b).state ≠ .active) →
          resolveOwner r p e s =
            if s.dryer.state = .unpurged ∨ s.dryer.state = .purging then .sequence else .line)
        ∧ (p.authority = .full → (∃ b, (s.banks.get b).state = .active) →
          resolveOwner r p e s =
            if (s.web.state = .threading ∨ s.web.state = .running)
                ∧ (s.dryer.state = .purged ∨ s.dryer.state = .firing) then .schedule else .sequence)))

/-- What a SEQUENCE owner gives: the table of R140, the dryer column before the web columns, and a term that cannot be
had replaced by the controller's value. -/
def Obligations.SequenceOwnerValues : Prop :=
  ∀ (p : CommandParams) (c : Int) (e : CmdEntry) (s : State) (v : Role → Int),
    (∀ r, v r = ownerValue .sequence r p c e s) →
      ((s.dryer.state = .unpurged ∨ s.dryer.state = .purging) →
        (∀ k, v (.zoneTempSp k) = c ∧ v (.zoneFanSp k) = 1000 ∧ v (.zoneBurnerEn k) = 0)
        ∧ v .exhaustSp = (s.qCap : Int) ∧ ∀ j, v (.chillWaterSp j) = c)
      ∧ (s.dryer.state ≠ .unpurged → s.dryer.state ≠ .purging →
        (s.web.state = .break →
          (∀ k, v (.zoneTempSp k) = bankTerm (fun x => (x.zoneProfiles.get k).breakTemp) c s
            ∧ v (.zoneFanSp k) = bankTerm (fun x => (x.zoneProfiles.get k).breakFan) c s
            ∧ v (.zoneBurnerEn k) = 1)
          ∧ (∀ b, s.web.exhaustAtBreak = some b →
              v .exhaustSp = max b (scheduleTerm (fun q => some (min q.exhaust s.qCap)) c s))
          ∧ (s.web.exhaustAtBreak = none →
              v .exhaustSp = scheduleTerm (fun q => some (min q.exhaust s.qCap)) c s)
          ∧ ∀ j, v (.chillWaterSp j) = (e.last.map Forwarded.value).getD c)
        ∧ (s.web.state = .resuming →
          (∀ k, v (.zoneFanSp k) = scheduleTerm (fun q => q.zoneFan.get k) c s ∧ v (.zoneBurnerEn k) = 1
            ∧ (∀ r t, s.web.record = some r → r.temps.get k = some t →
                v (.zoneTempSp k) = max (scheduleTerm (fun q => q.zoneTemp.get k) c s) t)
            ∧ ((∀ r, s.web.record = some r → r.temps.get k = none) →
                v (.zoneTempSp k) = scheduleTerm (fun q => q.zoneTemp.get k) c s)))
        ∧ (s.web.state = .stopped →
          (∀ k, v (.zoneTempSp k) = bankTerm (fun x =>
                if s.web.preheat then (x.zoneProfiles.get k).preheatTemp else (x.zoneProfiles.get k).breakTemp) c s
            ∧ v (.zoneFanSp k) = bankTerm (fun x =>
                if s.web.preheat then (x.zoneProfiles.get k).preheatFan else (x.zoneProfiles.get k).breakFan) c s
            ∧ v (.zoneBurnerEn k) = if s.web.preheat then 1 else 0)
          ∧ ∀ j, v (.chillWaterSp j) = bankTerm (fun x => (x.circuitProfiles.get j).standby) c s)
        ∧ (s.web.state ≠ .break →
            v .exhaustSp = scheduleTerm (fun q => some (min q.exhaust s.qCap)) c s)
        ∧ (s.web.state = .threading ∨ s.web.state = .running →
            ∀ k, v (.zoneFanSp k) = scheduleTerm (fun q => q.zoneFan.get k) c s)
        ∧ (s.web.state = .threading ∨ s.web.state = .running ∨ s.web.state = .resuming →
            ∀ j, v (.chillWaterSp j) = scheduleTerm (fun q => q.chill.get j) c s))

/-- The other owners' values, the hold and the limit stage at a passage: SCHEDULE gives the standing publication's value
or the controller's, LINE the controller's, SAFE the entry's safe value; a hold replaces SCHEDULE and SEQUENCE values by
the last forwarded one; and then, whatever the owner, burner gating, the exhaust floor, and the bound of the speed
reference by the controller's value and under the cap (R147, whose SPEED_CAPPED stands with the passage). A refresh
loads the hold count from a GOOD HOLD slot, at most 1,000, and otherwise counts it down by the cycle step. -/
def Obligations.OwnerValuesHoldAndLimits : Prop :=
  ∀ (p : CommandParams) (e : CmdEntry) (w : Word) (s : State) (held : Role → Int),
    (∀ r, held r =
      applyHold (resolveOwner r p e s) e (ownerValue (resolveOwner r p e s) r p (readValue r w) e s)) →
    (∀ c, (∀ r, s.sched.publication = none → ownerValue .schedule r p c e s = c)
      ∧ (∀ q, s.sched.publication = some q →
          (∀ k, ownerValue .schedule (.zoneTempSp k) p c e s = (q.zoneTemp.get k).getD c
            ∧ ownerValue .schedule (.zoneFanSp k) p c e s = (q.zoneFan.get k).getD c
            ∧ ownerValue .schedule (.zoneBurnerEn k) p c e s = 1)
          ∧ (∀ j, ownerValue .schedule (.chillWaterSp j) p c e s = (q.chill.get j).getD c)
          ∧ ownerValue .schedule .exhaustSp p c e s = min q.exhaust (s.qCap : Int))
      ∧ (∀ r, ownerValue .line r p c e s = c)
      ∧ (∀ r v, p.safe = some v → ownerValue .safe r p c e s = v))
    ∧ (∀ o v, (o = .schedule ∨ o = .sequence) → 0 < e.hold →
        (∀ f, e.last = some f → applyHold o e v = f.value) ∧ (e.last = none → applyHold o e v = v))
    ∧ (∀ o v, o = .line ∨ o = .safe ∨ e.hold = 0 → applyHold o e v = v)
    ∧ (∀ k, (forwardValue (.zoneBurnerEn k) p e w s).2.1 =
        if s.dryer.state = .purged ∨ s.dryer.state = .firing then held (.zoneBurnerEn k) else 0)
    ∧ (p.authority = .observe ∨ s.solv.publication = none → (forwardValue .exhaustSp p e w s).2.1 = held .exhaustSp)
    ∧ (∀ q, s.solv.publication = some q → p.authority ≠ .observe →
        (forwardValue .exhaustSp p e w s).2.1 = max (held .exhaustSp) ((min s.qCap q.floor : Nat) : Int))
    ∧ (forwardValue .speedRef p e w s).2.1 ≤ readValue .speedRef w
    ∧ (∀ c q, s.scalars? = some c → c.speedCap = true → s.solv.publication = some q →
        (s.web.state = .threading ∨ s.web.state = .running ∨ s.web.state = .resuming) →
        resolveOwner .speedRef p e s ≠ .safe →
          (forwardValue .speedRef p e w s).2.1 =
            min (readValue .speedRef w) ((max q.combined s.board.actual : Nat) : Int))
    ∧ ((∀ c, s.scalars? = some c → c.speedCap = false) ∨ s.solv.publication = none ∨ s.web.state = .stopped
          ∨ s.web.state = .break ∨ resolveOwner .speedRef p e s = .safe →
        (forwardValue .speedRef p e w s).2.1 = min (held .speedRef) (readValue .speedRef w))
    ∧ (∀ r, (∀ k, r ≠ .zoneBurnerEn k) → r ≠ .exhaustSp → r ≠ .speedRef →
        forwardValue r p e w s = (resolveOwner r p e s, held r, false))
    ∧ ∀ (x : Refresh) (u t : State) (r : Role) (f : CmdEntry), u.commissioned = true →
        t = react x .commandTable u → u.cmds.entry? r = some f → ∃ g, t.cmds.entry? r = some g
          ∧ (∀ h slot, holdEntry u.map r = some h → lastSlotFor h x.slots = some slot → slot.quality = .good →
              g.hold = min 1000 slot.value.toNat)
          ∧ (∀ h, holdEntry u.map r = some h →
              (∀ slot, lastSlotFor h x.slots = some slot → slot.quality ≠ .good) → g.hold = f.hold - x.step)
          ∧ (holdEntry u.map r = none → g.hold = f.hold)

/-- A mapped command slot that streams past in ONLINE leaves with the forwarded value in its value bytes and nothing
else of it changed; the entry records owner, value, cycle number and limited flag, and no other entry moves. An unmapped
slot passes unaltered. In SYNCING and SILENT, while UNCOMMISSIONED, in a frame that started before ONLINE, and for a
slot of another kind, nothing is offered and nothing changes. A passage, mapped or not, that finds an evaluation running
is counted and offered as a late forward; a SPEED_REF passage keeps the arriving value and judges SPEED_CAPPED. At a
GOOD refresh of a cycle number an entry forwarded with, its ECHO record is judged: a match clears the misses, a hold
leaves them, a miss counts, and at the limit the entry is UNRESPONSIVE, which is offered or, for EXHAUST_SP, trips the
dryer. A trip there clears every released flag; without one they stand, and the late count, the kept values and
SPEED_CAPPED stand in any case. Where a passage is not capped and its value differs from the controller's, a SAFE
passage below it among these, R147 gives neither the onset nor the clearing; the clause that leaves SPEED_CAPPED as it
stood there is the model's reading (log 26). That slots are named by their index, that the later of two values kept for
one cycle number stands, and the order in which records of one passage or one refresh are offered, are the model's too
(log 4, log 32, log 17). -/
def Obligations.CommandPassageForwards : Prop :=
  (∀ (i : Nat) (s : State) (t : Transit) (rest : List Transit) (slot : Slot), s.line.outStore = t :: rest →
    SlotPasses i t slot →
      (s.line.state ≠ .online ∨ t.sinceOnline = false ∨ s.commissioned = false ∨ slot.kind ≠ .command →
        exec (.commandPassage i) s = .next s)
      ∧ (s.line.state = .online → t.sinceOnline = true → s.commissioned = true → slot.kind = .command →
        (entryAt s.map slot.node slot.channel .command = none →
          (s.sched.job = none → s.solv.job = none →
            exec (.commandPassage i) s = .next { s with line.outStore := { t with cursor := i + 1 } :: rest })
          ∧ (s.sched.job ≠ none ∨ s.solv.job ≠ none →
            exec (.commandPassage i) s = .next (offer .lateForward .none .absent
              { s with
                line.outStore := { t with cursor := i + 1 } :: rest
                cmds.late := min 4294967295 (s.cmds.late + 1) })))
        ∧ ∀ m p e, entryAt s.map slot.node slot.channel .command = some m → commandParams m = some p →
          s.cmds.entry? m.role = some e → ∃ u, exec (.commandPassage i) s = .next u
            ∧ u.line = { s.line with outStore :=
                { t with
                  cursor := i + 1
                  forwarded := overwrite t.forwarded (4 + 5 * i + 3)
                    (be16Int (forwardValue m.role p e slot.value s).2.1) } :: rest }
            ∧ u.cmds.entry? m.role = some { e with
                owner := resolveOwner m.role p e s
                last := some ⟨(forwardValue m.role p e slot.value s).2.1, cycleNumber t.arrived⟩
                previous := e.last
                limited := (forwardValue m.role p e slot.value s).2.2 }
            ∧ (∀ q, q ≠ m.role → u.cmds.entry? q = s.cmds.entry? q)
            ∧ (s.sched.job ≠ none ∨ s.solv.job ≠ none → u.cmds.late = min 4294967295 (s.cmds.late + 1))
            ∧ (s.sched.job = none → s.solv.job = none → u.cmds.late = s.cmds.late)
            ∧ { u with line := s.line, cmds := s.cmds, log := s.log } = s
            ∧ ∀ (late : Bool) (x : State) (capped : Prop) (v c : Int),
                late = (s.sched.job.isSome || s.solv.job.isSome) →
                x = (if late then offer .lateForward .none .absent s else s) →
                v = (forwardValue m.role p e slot.value s).2.1 → c = readValue m.role slot.value →
                (capped ↔ (∃ w, s.scalars? = some w ∧ w.speedCap = true) ∧ s.solv.publication ≠ none
                  ∧ (s.web.state = .threading ∨ s.web.state = .running ∨ s.web.state = .resuming)
                  ∧ resolveOwner m.role p e s ≠ .safe ∧ v < c) →
                  (m.role ≠ .speedRef →
                    u.log = x.log ∧ u.cmds.kept = s.cmds.kept ∧ u.cmds.speedCapped = s.cmds.speedCapped)
                  ∧ (m.role = .speedRef →
                    lookupKey (cycleNumber t.arrived) u.cmds.kept = some slot.value ∧ u.cmds.kept.length ≤ 2
                    ∧ (capped → u.cmds.speedCapped = true)
                    ∧ (capped → s.cmds.speedCapped = false →
                        u.log = (offer .speedCapped (.role .speedRef) (.num v) x).log)
                    ∧ (¬ capped ∨ s.cmds.speedCapped = true → u.log = x.log)
                    ∧ (v = c → u.cmds.speedCapped = false)
                    ∧ (¬ capped → v ≠ c → u.cmds.speedCapped = s.cmds.speedCapped))))
    ∧ ∀ (r : Refresh) (s t : State), t = react r .commandTable s →
        (s.commissioned = false → t = s)
        ∧ { t with cmds := s.cmds, dryer := s.dryer, web := s.web, log := s.log } = s
        ∧ { t.cmds with entries := s.cmds.entries } = s.cmds
        ∧ (t.cmds.entries.map Prod.fst = s.cmds.entries.map Prod.fst)
        ∧ ∀ (role : Role) (e : CmdEntry) (p : CommandParams) (c : CycleNo) (h : Nat) (matched : Prop),
            TableLaw s → s.commissioned = true → s.cmds.entry? role = some e →
            (commandEntry s.map role).bind commandParams = some p → h = holdAfter s.map r role e.hold →
            (matched ↔ ∃ b v f, s.board.echo? role = some b ∧ b.quality = .good ∧ b.value = some v
              ∧ (e.last = some f ∨ e.previous = some f) ∧ (v - f.value).natAbs ≤ p.tolerance) →
            ∀ released,
              released = (if s.dryer.state ≠ .tripped ∧ t.dryer.state = .tripped then false else e.released) →
              (r.good = false ∨ r.cycle = none ∨ echoEntry s.map role = none →
                t.cmds.entry? role = some { e with hold := h, released := released })
              ∧ (r.good = true → r.cycle = some c → echoEntry s.map role ≠ none →
                (e.last.map Forwarded.cycle ≠ some c → e.previous.map Forwarded.cycle ≠ some c →
                  t.cmds.entry? role = some { e with hold := h, released := released })
                ∧ ((e.last.map Forwarded.cycle = some c ∨ e.previous.map Forwarded.cycle = some c) →
                  (matched → t.cmds.entry? role =
                    some { e with hold := h, released := released, miss := 0, responsiveness := .responsive }
                    ∧ (role = .exhaustSp → e.responsiveness = .unresponsive → t.dryer.exhaustUnresponsive = false))
                  ∧ (¬ matched → 0 < h →
                      t.cmds.entry? role = some { e with hold := h, released := released })
                  ∧ (¬ matched → h = 0 → ∀ n, n = min 64 (e.miss + 1) →
                    t.cmds.entry? role = some { e with
                      hold := h, released := released, miss := n
                      responsiveness := if p.missLimit ≤ n then .unresponsive else e.responsiveness }
                    ∧ (p.missLimit ≤ n → e.responsiveness ≠ .unresponsive →
                      (role = .exhaustSp → t.dryer.exhaustUnresponsive = true
                        ∧ (s.dryer.exhaustUnresponsive = false → t.dryer.state = .tripped))
                      ∧ (s.log.queue.length + s.cmds.entries.length < 32 →
                        (role ≠ .exhaustSp → ∃ i ∈ t.log.queue, i.code = .actuatorUnresponsive
                          ∧ i.subject = .role role ∧ i.value = (s.cmds.lastValue role).elim .absent .num)
                        ∧ (role = .exhaustSp → s.dryer.exhaustUnresponsive = false →
                          ∃ i ∈ t.log.queue, i.code = .exhaustUnresponsive
                            ∧ i.subject = .role role ∧ i.value = (s.cmds.lastValue role).elim .absent .num))))))

/-! ## The Incident Log -/

/-- An offer: discarded while its quiet counter runs; otherwise numbered, and admitted to a queue with room, put in the
place of the oldest record of a lower class, or lost and counted. At each board refresh both quiet counters decrease by
the cycle step and stop at 0, in any line state and commissioning state, and nothing else of the log moves. -/
def Obligations.OfferAdmitted : Prop :=
  (∀ (c : IncidentCode) (sub : Subject) (v : IncidentValue) (s t : State) (r : Incident), t = offer c sub v s →
    r = { seq := s.log.nextSeq, cycle := s.line.refreshCycle, code := c, subject := sub, value := v,
          web := s.web.state, dryer := s.dryer.state } →
      ((c = .frameErrors ∧ 0 < s.log.quietErrors) ∨ (c = .lateForward ∧ 0 < s.log.quietLate) → t = s)
      ∧ (¬ (c = .frameErrors ∧ 0 < s.log.quietErrors) → ¬ (c = .lateForward ∧ 0 < s.log.quietLate) →
        t.log.nextSeq = s.log.nextSeq + 1
        ∧ (c = .frameErrors → t.log.quietErrors = 1000) ∧ (c = .lateForward → t.log.quietLate = 1000)
        ∧ (s.log.queue.length < 32 → t.log.queue = s.log.queue ++ [r] ∧ t.log.dropped = s.log.dropped)
        ∧ (32 ≤ s.log.queue.length → t.log.dropped = min 4294967295 (s.log.dropped + 1)
          ∧ ((∀ x ∈ s.log.queue, c.cls.rank ≤ x.code.cls.rank) → t.log.queue = s.log.queue)
          ∧ ∀ (d : IncidentClass) (before after : List Incident) (x : Incident),
              s.log.queue = before ++ x :: after → x.code.cls = d → (∀ y ∈ before, y.code.cls ≠ d) →
              d.rank < c.cls.rank → (∀ y ∈ s.log.queue, d.rank ≤ y.code.cls.rank) →
                t.log.queue = before ++ (after ++ [r])))
      ∧ { t with log := s.log } = s)
    ∧ ∀ (r : Refresh) (s : State), react r .incidentLog s =
        { s with log := { s.log with
          quietErrors := s.log.quietErrors - r.step, quietLate := s.log.quietLate - r.step } }

/-- TAKE_INCIDENTS answers and removes the oldest one to four records, twelve bytes each, and ALERT is judged; the gap
timer's expiry judges ALERT again. The count's two bytes and the time base are the model's choice (log 2, log 12). -/
def Obligations.IncidentsTakenAndAlert : Prop :=
  (∀ (p : Place) (s : State), Executes 20 2 p s →
    (p.wordParam 0 = 0 ∨ 5 ≤ p.wordParam 0 → exec .takeIncidents s = .next (reply (plain .range) s))
    ∧ (1 ≤ p.wordParam 0 → p.wordParam 0 ≤ 4 → ∃ l,
      exec .takeIncidents s = .next (reply (doneWith ((s.log.queue.take (p.wordParam 0)).flatMap encIncident))
        { s with log := l })
      ∧ l.queue = s.log.queue.drop (p.wordParam 0) ∧ l.nextSeq = s.log.nextSeq ∧ l.dropped = s.log.dropped
      ∧ (s.log.queue = [] → l = s.log)
      ∧ (s.log.queue ≠ [] → s.log.alert = true → l.queue.any (qualifies s.alertThreshold) = false →
          l.alert = false ∧ l.gap = if s.alertGap = 0 then none else some (s.now + 1000 * s.alertGap))
      ∧ (s.log.alert = true → l.queue.any (qualifies s.alertThreshold) = true → l.alert = true ∧ l.gap = s.log.gap)))
  ∧ (∀ r, (encIncident r).length = 12)
  ∧ ∀ (s : State) (d : Nat), s.log.gap = some d → s.log.alert = false →
      exec .alertGapExpiry s = .next
        { s with
          now := max s.now d
          log := { s.log with gap := none, alert := s.log.queue.any (qualifies s.alertThreshold) } }

/-! ## The Service Agent -/

/-- SET_OVERRIDE and CLEAR_OVERRIDE: the override moves, the effective parameters are formed anew, and the reply
carries the effective value; a parameter or value outside its range is refused, an UNCOMMISSIONED part answers STATE.
An effective parameter is never laxer than the stored figure, nor than a standing override. That the parameter is
judged, then an UNCOMMISSIONED part, then the value is the model's reading (log 23); the one byte of the parameter and
the two of the value are deduced (log 12); the numbers of the parameters and the layout of the replies are the model's
choice (log 13, log 16). -/
def Obligations.OverridesExecute : Prop :=
  (∀ (p : Place) (s : State),
    (Executes 22 3 p s →
      (5 ≤ p.byteParam 0 → exec .setOverride s = .next (reply (plain .range) s))
      ∧ ∀ q, safetyParamOf (p.byteParam 0) = some q →
        (s.scalars? = none → exec .setOverride s = .next (reply (plain .state) s))
        ∧ ∀ c, s.scalars? = some c →
          (¬ (q.range.1 ≤ p.wordParam 1 ∧ p.wordParam 1 ≤ q.range.2) →
            exec .setOverride s = .next (reply (plain .range) s))
          ∧ ∀ o, q.range.1 ≤ p.wordParam 1 → p.wordParam 1 ≤ q.range.2 →
            o = setOverrideOf q (some (p.wordParam 1)) s.agent.overrides →
              exec .setOverride s = .next (reply (doneWith (be16 (q.effective c o)))
                { s with agent.overrides := o, solv.eff := some (effectiveParams c o s.board.mode) }))
    ∧ (Executes 23 1 p s →
      (6 ≤ p.byteParam 0 → exec .clearOverride s = .next (reply (plain .range) s))
      ∧ (p.byteParam 0 ≤ 5 → s.scalars? = none → exec .clearOverride s = .next (reply (plain .state) s))
      ∧ ∀ c, s.scalars? = some c →
        (∀ q o, safetyParamOf (p.byteParam 0) = some q → o = setOverrideOf q none s.agent.overrides →
          exec .clearOverride s = .next (reply (doneWith (be16 (q.effective c o)))
            { s with agent.overrides := o, solv.eff := some (effectiveParams c o s.board.mode) }))
        ∧ (p.byteParam 0 = 5 →
          exec .clearOverride s = .next (reply (plain .done)
            { s with
              agent.overrides := ⟨none, none, none, none, none⟩
              solv.eff := some (effectiveParams c ⟨none, none, none, none, none⟩ s.board.mode) }))))
  ∧ ∀ (c : Scalars) (o : Overrides) (m : AnalyzerMode),
      (m = .monitored → (effectiveParams c o m).fEff ≤ c.fMon ∧ ∀ v, o.fMon = some v → (effectiveParams c o m).fEff ≤ v)
      ∧ (m = .unmonitored →
          (effectiveParams c o m).fEff ≤ c.fUnmon ∧ ∀ v, o.fUnmon = some v → (effectiveParams c o m).fEff ≤ v)
      ∧ (effectiveParams c o m).trip ≤ c.trip ∧ (∀ v, o.trip = some v → (effectiveParams c o m).trip ≤ v)
      ∧ c.margin ≤ (effectiveParams c o m).margin ∧ (∀ v, o.margin = some v → v ≤ (effectiveParams c o m).margin)
      ∧ c.qFloor ≤ (effectiveParams c o m).qFloor ∧ ∀ v, o.qFloor = some v → v ≤ (effectiveParams c o m).qFloor

/-- READ_COUNTERS answers the counters asked for, four bytes each; with the clear flag each counter read becomes 0,
any histogram bucket clearing all six, and nothing else moves. The widths of the parameters are the model's choice
(log 12). -/
def Obligations.CountersRead : Prop :=
  ∀ (p : Place) (s : State), Executes 24 5 p s →
    (2 ≤ p.byteParam 4 ∨ p.wordParam 2 = 0 ∨ 18 < p.wordParam 0 + p.wordParam 2 →
      exec .readCounters s = .next (reply (plain .range) s))
    ∧ (p.byteParam 4 < 2 → 1 ≤ p.wordParam 2 → p.wordParam 0 + p.wordParam 2 ≤ 18 → ∃ u,
      exec .readCounters s = .next (reply
        (doneWith ((List.range (p.wordParam 2)).flatMap fun i => be32 (counterValue (p.wordParam 0 + i) s))) u)
      ∧ (p.byteParam 4 = 0 → u = s)
      ∧ (p.byteParam 4 = 1 →
        (∀ n, n < 18 → counterValue n u =
          if (p.wordParam 0 ≤ n ∧ n < p.wordParam 0 + p.wordParam 2)
              ∨ (12 ≤ n ∧ 12 < p.wordParam 0 + p.wordParam 2) then 0 else counterValue n s)
        ∧ { u with
            line.goodOut := s.line.goodOut, line.goodBack := s.line.goodBack, line.poisoned := s.line.poisoned
            line.overruns := s.line.overruns, line.longFrames := s.line.longFrames
            line.serviceFrames := s.line.serviceFrames, line.irregular := s.line.irregular
            agent.busyRefusals := s.agent.busyRefusals, cmds.late := s.cmds.late, web.ignored := s.web.ignored
            board.clamped := s.board.clamped, log.dropped := s.log.dropped
            solv.histogram := s.solv.histogram } = s))

/-- RESET_PART starts the wait of 100 ms unless a STORE runs; the wait's end, the RESET pin, the supply's return and
its loss each begin a reset, which leaves every block at its values after reset, the relay closed, and only the stored
record, the pins and the reset cause record standing. What stands while the part is without supply, and the RESET pin
at power-on, are the model's choice (log 2, log 10, log 11). -/
def Obligations.ResetsAndSupply : Prop :=
  ∀ (s : State) (fresh : Phase → ResetCauses → State → State),
    (∀ ph c u, fresh ph c u =
      { State.reset with
        pending := u.pending, now := u.now, choices := u.choices, phase := ph, pins := u.pins
        comm.stored := u.comm.stored, agent.causes := c }) →
      (∀ p, Executes 25 0 p s →
        (s.agent.storeRunning = true → exec .resetPart s = .next (reply (plain .busy) s))
        ∧ (s.agent.storeRunning = false →
          exec .resetPart s = .next (reply (plain .done) { s with agent.resetWait := some (s.now + 100000) })))
      ∧ (∀ d, s.agent.resetWait = some d → exec .serviceResetWaitExpiry s =
          .next (fresh .loading { s.agent.causes with service := true } { s with now := max s.now d }))
      ∧ exec .supplyLoss s = .next (fresh .unpowered ⟨false, false, false⟩ s)
      ∧ (s.phase = .unpowered →
        (s.pins.resetAsserted = false → exec .powerOn s = .next (fresh .loading ⟨true, false, false⟩ s))
        ∧ (s.pins.resetAsserted = true → exec .powerOn s = .next (fresh .heldByPin ⟨true, true, false⟩ s)))
      ∧ (s.pins.resetAsserted = false → s.phase ≠ .unpowered → exec .resetPinAssert s =
          .next (fresh .heldByPin { s.agent.causes with pin := true } { s with pins.resetAsserted := true }))
      ∧ (s.phase = .heldByPin →
          exec .resetPinRelease s = .next { s with pins.resetAsserted := false, phase := .loading })

/-- A request record addressed to the part is taken into one of the eight places, or, with all eight held, refused
BUSY with a mark, and is blanked either way; a record for another node passes untouched. That a record is named by its
index (log 4), and that in a frame cut short one that runs into the last four bytes is still a record (log 7), are the
model's choices; which marks count toward the eight is its reading (log 21). -/
def Obligations.RequestTakenOrRefused : Prop :=
  ∀ (i : Nat) (s : State) (t : Transit) (rest : List Transit) (rec : List Byte), s.line.outStore = t :: rest →
    s.line.state ≠ .bypass → kindOf t.arrived = .service → headerComplete t.arrived = true → t.cursor ≤ i →
    requestAt t.arrived i = some rec →
      (byteAt rec 0 ≠ s.node → exec (.requestTaking i) s = .next s)
      ∧ ∀ blanked, blanked = { t with
          cursor := i + 1
          forwarded := overwrite t.forwarded (3 + 16 * i) (255 :: List.replicate 15 0) } →
        (byteAt rec 0 = s.node → s.agent.places.length < 8 →
          exec (.requestTaking i) s = .next
            { s with
              line.outStore := blanked :: rest
              agent.places := s.agent.places ++
                [{ tag := rec.getD 1 0, code := byteAt rec 2, length := byteAt rec 3, params := rec.drop 4,
                   stage := .provisional }] })
        ∧ (byteAt rec 0 = s.node → 8 ≤ s.agent.places.length →
          exec (.requestTaking i) s = .next
            { s with
              line.outStore := blanked :: rest
              agent.busyRefusals := min 4294967295 (s.agent.busyRefusals + 1)
              agent.newMarks :=
                if marksHeld s < 8 then s.agent.newMarks ++ [rec.getD 1 0] else s.agent.newMarks })

/-- A free reply place is filled with the frame's first BUSY mark, else with the next part of the first reply in
execution order, whose place is IN_FRAME once its last part is in; a place that is not free, and every other byte of
the frame, is left as it came. That places are named by their index (log 4), and that in a frame cut short one that
runs into the last four bytes is still a place (log 7), are the model's choices. -/
def Obligations.ReplyPlaceFilled : Prop :=
  ∀ (i : Nat) (s : State) (t : Transit) (rest : List Transit), s.line.backStore = t :: rest →
    s.line.state ≠ .bypass → kindOf t.arrived = .service → headerComplete t.arrived = true → t.cursor ≤ i →
      (freePlaceAt t.arrived i = false → exec (.replyPlaceFill i) s = .next s)
      ∧ (freePlaceAt t.arrived i = true →
        (∀ m ms, t.marks = m :: ms →
          exec (.replyPlaceFill i) s = .next
            { s with line.backStore :=
              { t with
                cursor := i + 1, marks := ms
                forwarded := overwrite t.forwarded (3 + 16 * requestPlaces t.arrived + 17 * i)
                  ([byte s.node, m, 2, 17, 0] ++ List.replicate 12 0) } :: rest })
        ∧ (∀ ahead behind p r n f, t.marks = [] → s.agent.places = ahead ++ p :: behind →
          (∀ q ∈ ahead, ∀ r' n' f', q.stage ≠ .reply r' n' f') → p.stage = .reply r n f →
            exec (.replyPlaceFill i) s = .next
              { s with
                line.backStore :=
                  { t with
                    cursor := i + 1
                    forwarded := overwrite t.forwarded (3 + 16 * requestPlaces t.arrived + 17 * i)
                      (replyPart s.node p.tag r n) } :: rest
                agent.places := ahead ++
                  { p with
                    stage := if n + 1 < max 1 ((r.data.length + 11) / 12) then .reply r (n + 1) true
                      else .inFrame r } :: behind })
        ∧ (t.marks = [] → (∀ q ∈ s.agent.places, ∀ r n f, q.stage ≠ .reply r n f) →
          exec (.replyPlaceFill i) s = .next { s with line.backStore := { t with cursor := i + 1 } :: rest }))

/-! ## The Line Interface -/

/-- A frame takes a place of its direction's elastic store; a BACK service frame takes the standing BUSY marks with
it. With both places held it is an overrun: counted and offered as FRAME_ERRORS, a CYCLE frame also dropping the sync
count, a FOREIGN frame nothing. In BYPASS the part sees no frame. That a whole frame arrives at once, and that an
overrun takes the marks, are the model's choice (log 4, log 21). -/
def Obligations.FrameArrives : Prop :=
  ∀ (d : Dir) (first : Byte) (rest : List Byte) (s : State),
    (s.line.state = .bypass → exec (.frameArrival d first rest) s = .next s)
    ∧ (s.line.state ≠ .bypass → ∀ place, place = Transit.mk (first :: rest) (first :: rest)
          (decide (s.line.state = .online)) 0 [] [] →
      (d = .out → s.line.outStore.length < 2 → exec (.frameArrival d first rest) s =
        .next { s with line.outStore := s.line.outStore ++ [place] })
      ∧ (d = .back → frameKind first ≠ .service → s.line.backStore.length < 2 →
        exec (.frameArrival d first rest) s = .next { s with line.backStore := s.line.backStore ++ [place] })
      ∧ (d = .back → frameKind first = .service → s.line.backStore.length < 2 →
        exec (.frameArrival d first rest) s = .next
          { s with
            line.backStore := s.line.backStore ++ [{ place with marks := s.agent.marks }]
            agent.marks := [] })
      ∧ (2 ≤ (s.line.store d).length →
        (frameKind first = .foreign → exec (.frameArrival d first rest) s = .next s)
        ∧ (frameKind first = .cycle → exec (.frameArrival d first rest) s =
          .next (offer .frameErrors .none .absent
            { s with
              line.overruns := min 4294967295 (s.line.overruns + 1)
              line.syncCount := if s.line.state = .syncing then 0 else s.line.syncCount }))
        ∧ (frameKind first = .service → exec (.frameArrival d first rest) s =
          .next (offer .frameErrors .none .absent
            { s with
              line.overruns := min 4294967295 (s.line.overruns + 1)
              agent.marks := if d = .back then [] else s.agent.marks }))))

/-- An OUT frame ends. A good CYCLE frame is counted and its cycle number remembered, a poisoned one drops the sync
count; one whose header announces more than 96 slots is also counted as long and offered as FRAME_ERRORS, and its 97th
and later slots pass unread and unaltered in either direction; a good SERVICE frame makes what was taken from it wait
and its BUSY marks stand, a poisoned one gives both back. A poisoned frame is offered as FRAME_ERRORS; a FOREIGN frame
only passes. The elapsed time the command carries and the record of the bytes sent are the model's own (log 2, log
29), and so is that a frame which ends before its header is complete is not long (log 7). -/
def Obligations.OutFrameEnds : Prop :=
  (∀ (us : Nat) (s : State) (t : Transit) (l : LineIf), Leaving .out t s →
    l = { s.line with outStore := s.line.outStore.tail, sentOut := some (sentBytes t) } →
      (kindOf t.arrived = .foreign →
        exec (.frameEnd .out us) s = .next { s with now := s.now + us, line := l })
      ∧ (kindOf t.arrived = .cycle → longFrame t.arrived = false →
        (goodFrame t.arrived = true →
          exec (.frameEnd .out us) s = .next
            { s with
              now := s.now + us
              line := { l with
                goodOut := min 4294967295 (l.goodOut + 1)
                remembered := (cycleNumber t.arrived :: l.remembered).take 2 } })
        ∧ (goodFrame t.arrived = false →
          exec (.frameEnd .out us) s = .next (offer .frameErrors .none .absent
            { s with
              now := s.now + us
              line := { l with
                poisoned := min 4294967295 (l.poisoned + 1)
                syncCount := if l.state = .syncing then 0 else l.syncCount } })))
      ∧ (kindOf t.arrived = .cycle → longFrame t.arrived = true →
        (goodFrame t.arrived = true →
          exec (.frameEnd .out us) s = .next (offer .frameErrors .none .absent
            { s with
              now := s.now + us
              line := { l with
                longFrames := min 4294967295 (l.longFrames + 1)
                goodOut := min 4294967295 (l.goodOut + 1)
                remembered := (cycleNumber t.arrived :: l.remembered).take 2 } }))
        ∧ (goodFrame t.arrived = false →
          exec (.frameEnd .out us) s = .next (offer .frameErrors .none .absent
            { s with
              now := s.now + us
              line := { l with
                longFrames := min 4294967295 (l.longFrames + 1)
                poisoned := min 4294967295 (l.poisoned + 1)
                syncCount := if l.state = .syncing then 0 else l.syncCount } })))
      ∧ (kindOf t.arrived = .service →
        (goodFrame t.arrived = true →
          exec (.frameEnd .out us) s = .next
            { s with
              now := s.now + us
              line := { l with
                goodOut := min 4294967295 (l.goodOut + 1)
                serviceFrames := min 4294967295 (l.serviceFrames + 1) }
              agent := { s.agent with
                places := s.agent.places.map fun p =>
                  if p.stage = .provisional then { p with stage := .waiting } else p
                marks := s.agent.marks ++ s.agent.newMarks
                newMarks := [] } })
        ∧ (goodFrame t.arrived = false →
          exec (.frameEnd .out us) s = .next (offer .frameErrors .none .absent
            { s with
              now := s.now + us
              line := { l with poisoned := min 4294967295 (l.poisoned + 1) }
              agent := { s.agent with
                places := s.agent.places.filter fun p => !decide (p.stage = .provisional)
                newMarks := [] } }))))
    ∧ (∀ (t : Transit), longFrame t.arrived = true ↔
        kindOf t.arrived = .cycle ∧ headerComplete t.arrived = true ∧ 96 < slotCount t.arrived)
    ∧ ∀ (i : Nat) (s : State), 96 ≤ i →
        exec (.commandPassage i) s = .next s ∧ exec (.statusSlotWrite i) s = .next s

/-- A BACK service frame ends: good, every reply whose last part it carried is delivered and its place freed, and the
delivery of RESET_PART's answer begins the service reset; poisoned, every reply with a part in it is placed again
whole. The elapsed time the command carries and the record of the bytes sent are the model's own (log 2, log 29). -/
def Obligations.BackServiceFrameEnds : Prop :=
  ∀ (us : Nat) (s : State) (t : Transit) (l : LineIf), Leaving .back t s → kindOf t.arrived = .service →
    l = { s.line with backStore := s.line.backStore.tail, sentBack := some (sentBytes t) } →
      (goodFrame t.arrived = true →
        (s.agent.resetWait = none → ∃ places,
          exec (.frameEnd .back us) s = .next
            { s with
              now := s.now + us
              line := { l with goodBack := min 4294967295 (l.goodBack + 1) }
              agent.places := places }
          ∧ (∀ p, (∃ r, p.stage = .inFrame r) → p ∉ places)
          ∧ (∀ p ∈ s.agent.places, p.stage = .provisional ∨ p.stage = .waiting → p ∈ places)
          ∧ ∀ p ∈ s.agent.places, ∀ r n f, p.stage = .reply r n f → { p with stage := .reply r n false } ∈ places)
        ∧ (∀ d p, s.agent.resetWait = some d → p ∈ s.agent.places → p.code = 25 →
          p.stage = .inFrame { status := .done, data := [] } → ∃ u,
            exec (.frameEnd .back us) s = .next u ∧ u.phase = .loading ∧ u.line.relayClosed = true
              ∧ u.agent.causes = { s.agent.causes with service := true } ∧ u.agent.places = []
              ∧ u.comm.stored = s.comm.stored))
      ∧ (goodFrame t.arrived = false →
        exec (.frameEnd .back us) s = .next (offer .frameErrors .none .absent
          { s with
            now := s.now + us
            line := { l with poisoned := min 4294967295 (l.poisoned + 1) }
            agent.places := s.agent.places.map fun p =>
              match p.stage with
              | .inFrame r => { p with stage := .reply r 0 false }
              | .reply r n f => { p with stage := .reply r (if f then 0 else n) false }
              | .provisional => p
              | .waiting => p }))

/-- A good BACK CYCLE frame that is not repeated, and a poisoned one, give a board refresh: the line moves (numbering,
interval, silence timer, sync count, line state, counters), the Sample Board takes the samples, and then every block's
reaction follows, each whole and each once, in some order. The refresh carries line state, ONLINE entry, cycle number,
step and REGULAR: a COMMISSIONED part, no renumbering, and an interval from 750 P to 1,250 P; any other counts as
irregular in a COMMISSIONED part. FRAME_ERRORS is offered before the refresh or among the reactions. A repeated frame is
no refresh; a long frame is counted as such. The refresh hands on the slots captured as the frame streamed past: every
SAMPLE, ECHO and HOLD slot, and the COMMAND slot that the map in force as it passes gives SPEED_REF, of the first 96.
That the slots before the latest status slot written have passed by then and the others pass as the frame ends (log 22),
the elapsed time, the record of the bytes sent and the open order with its count (log 2, log 29, log 1) are the model's
own. -/
def Obligations.BackCycleFrameEnds : Prop :=
  ∀ (us : Nat) (s : State) (t : Transit), Leaving .back t s → kindOf t.arrived = .cycle →
    (∀ n renumbered, goodFrame t.arrived = true →
      (numbering s.line.lastCycle (cycleNumber t.arrived) = .step n ∧ renumbered = false
        ∨ numbering s.line.lastCycle (cycleNumber t.arrived) = .renumbered ∧ n = 255 ∧ renumbered = true) →
      ∃ (u : State) (r : Refresh) (l : LineIf) (log : IncidentLog) (order : List Reaction),
        exec (.frameEnd .back us) s = .next u
        ∧ u = order.foldl (fun y b => react r b y)
            (takeSamples r { s with now := s.now + us, choices := s.choices + 1, line := l, log := log })
        ∧ order.Perm [.lineInterface, .sampleBoard, .commandTable, .webSequencer, .dryerSafety, .scheduleUnit,
            .solventUnit, .incidentLog]
        ∧ (log = s.log ∧ r.errors = longFrame t.arrived
          ∨ r.errors = false ∧ log = if longFrame t.arrived then
              (offer .frameErrors .none .absent { s with now := s.now + us }).log else s.log)
        ∧ r.slots = t.captured ++ (((List.range (min 96 (slotCount t.arrived))).drop t.cursor).filterMap
            (slotAt t.arrived)).filter (isCaptured s.map)
        ∧ r.good = true ∧ r.step = n ∧ r.cycle = some (cycleNumber t.arrived) ∧ r.line = l.state
        ∧ (r.entry = true ↔ l.state = .online ∧ s.line.state ≠ .online)
        ∧ (r.regular = true ↔ renumbered = false ∧ ∃ c p, s.scalars? = some c ∧ s.line.lastRefreshAt = some p
            ∧ 750 * c.period ≤ s.now + us - p ∧ s.now + us - p ≤ 1250 * c.period)
        ∧ (t.captured.length ≤ min 96 t.cursor → r.slots.length ≤ 96)
        ∧ u.line = l
        ∧ l = { s.line with
            state := l.state
            syncCount := l.syncCount
            outStore := s.line.outStore.map fun f => { f with sinceOnline := f.sinceOnline && !r.entry }
            backStore := s.line.backStore.tail.map fun f => { f with sinceOnline := f.sinceOnline && !r.entry }
            longFrames := if longFrame t.arrived then min 4294967295 (s.line.longFrames + 1) else s.line.longFrames
            lastCycle := some (cycleNumber t.arrived)
            refreshCycle := some (cycleNumber t.arrived)
            silence := some (s.now + us + 1000 * s.silenceLimit)
            interval := s.line.lastRefreshAt.map fun p => s.now + us - p
            lastRefreshAt := some (s.now + us)
            goodBack := min 4294967295 (s.line.goodBack + 1)
            irregular := if s.commissioned = true ∧ r.regular = false then min 4294967295 (s.line.irregular + 1)
              else s.line.irregular
            sentBack := some (sentBytes t) }
        ∧ u.board.records = s.board.records.map (fun p => (p.1, takeRecord s r p.1 p.2))
        ∧ (s.line.state = .online → l.state = .online ∧ l.syncCount = s.line.syncCount)
        ∧ (s.line.state = .silent → l.state = .syncing
          ∧ l.syncCount = if cycleNumber t.arrived ∈ s.line.remembered then 1 else 0)
        ∧ (s.line.state = .syncing → l.state = (if l.syncCount = 8 then .online else .syncing)
          ∧ l.syncCount = if cycleNumber t.arrived ∈ s.line.remembered then
              (if s.line.syncCount = 0 ∨ n ≠ 1 then 1 else s.line.syncCount + 1) else 0)
        ∧ u.comm = s.comm ∧ u.pins = s.pins ∧ u.agent = s.agent ∧ u.phase = s.phase)
    ∧ (goodFrame t.arrived = false →
      ∃ (u : State) (r : Refresh) (l : LineIf) (log : IncidentLog) (order : List Reaction),
        exec (.frameEnd .back us) s = .next u
        ∧ u = order.foldl (fun y b => react r b y)
            (takeSamples r { s with now := s.now + us, choices := s.choices + 1, line := l, log := log })
        ∧ order.Perm [.lineInterface, .sampleBoard, .commandTable, .webSequencer, .dryerSafety, .scheduleUnit,
            .solventUnit, .incidentLog]
        ∧ (log = s.log ∧ r.errors = true
          ∨ r.errors = false ∧ log = (offer .frameErrors .none .absent { s with now := s.now + us }).log)
        ∧ r.slots = [] ∧ r.step = 1 ∧ r.cycle = none ∧ r.good = false ∧ r.regular = false ∧ r.entry = false
        ∧ r.line = s.line.state ∧ u.line = l
        ∧ l = { s.line with
            backStore := s.line.backStore.tail
            longFrames := if longFrame t.arrived then min 4294967295 (s.line.longFrames + 1) else s.line.longFrames
            lastCycle := s.line.lastCycle.map (fun c => c + 1)
            refreshCycle := none
            interval := s.line.lastRefreshAt.map fun p => s.now + us - p
            lastRefreshAt := some (s.now + us)
            poisoned := min 4294967295 (s.line.poisoned + 1)
            syncCount := if s.line.state = .syncing then 0 else s.line.syncCount
            irregular := if s.commissioned = true then min 4294967295 (s.line.irregular + 1) else s.line.irregular
            sentBack := some (sentBytes t) }
        ∧ u.board.records = s.board.records.map (fun p => (p.1, takeRecord s r p.1 p.2))
        ∧ u.comm = s.comm ∧ u.pins = s.pins ∧ u.agent = s.agent ∧ u.phase = s.phase)
    ∧ (goodFrame t.arrived = true → longFrame t.arrived = false →
        numbering s.line.lastCycle (cycleNumber t.arrived) = .repeated →
          exec (.frameEnd .back us) s = .next
            { s with
              now := s.now + us
              line := { s.line with
                backStore := s.line.backStore.tail
                sentBack := some (sentBytes t)
                goodBack := min 4294967295 (s.line.goodBack + 1)
                irregular := min 4294967295 (s.line.irregular + 1)
                syncCount := if s.line.state = .syncing then 0 else s.line.syncCount } })
    ∧ (goodFrame t.arrived = true → longFrame t.arrived = true →
        numbering s.line.lastCycle (cycleNumber t.arrived) = .repeated →
          exec (.frameEnd .back us) s = .next (offer .frameErrors .none .absent
            { s with
              now := s.now + us
              line := { s.line with
                backStore := s.line.backStore.tail
                sentBack := some (sentBytes t)
                longFrames := min 4294967295 (s.line.longFrames + 1)
                goodBack := min 4294967295 (s.line.goodBack + 1)
                irregular := min 4294967295 (s.line.irregular + 1)
                syncCount := if s.line.state = .syncing then 0 else s.line.syncCount } }))
    ∧ ∀ m x, isCaptured m x = true ↔ x.kind = .sample ∨ x.kind = .echo ∨ x.kind = .hold
        ∨ x.kind = .command ∧ (entryAt m x.node x.channel .command).map SlotEntry.role = some .speedRef

/-- The fresh trailer makes a frame of the announced length good and the complemented one does not; a frame leaves the
part good exactly when it arrived good. -/
def Obligations.TrailersTellGood : Prop :=
  (∀ bs : List Byte, kindOf bs ≠ .foreign → headerComplete bs = true →
      bs.length = headerLength (kindOf bs) + bodyLength bs →
        goodFrame (bs ++ freshTrailer bs) = true ∧ goodFrame (bs ++ poisonedTrailer bs) = false)
    ∧ ∀ t : Transit, TransitKept t → kindOf t.arrived ≠ .foreign → goodFrame (sentBytes t) = goodFrame t.arrived

/-- A status slot of the part's node and a channel 0 to 7 that streams past in ONLINE, in a frame that started in
ONLINE, leaves with quality GOOD and the item as it stands; the slots before it that had not passed yet are captured
with it under the map in force, and nothing else changes. Any other slot is left as it came. The items are those of
R194: the states; the combined ceiling, predicted LEL and exhaust floor of the standing publication, the floor at most
65,535; the effective measured LEL; the queue count and highest class; the ACTIVE and PENDING banks and the mode; the
operation record. That slots are named by their index, and that a status slot written tells how far its frame has
passed, is the model's choice (log 4, log 22). -/
def Obligations.StatusSlotWritten : Prop :=
  (∀ (i : Nat) (s : State) (t : Transit) (rest : List Transit) (slot : Slot), s.line.backStore = t :: rest →
    SlotPasses i t slot →
      (s.line.state = .online → t.sinceOnline = true → slot.kind = .status → slot.node = s.node → slot.channel ≤ 7 →
        exec (.statusSlotWrite i) s = .next
          { s with line.backStore :=
            { t with
              cursor := i + 1
              forwarded := overwrite t.forwarded (4 + 5 * i + 2) (0 :: be16 (statusItem slot.channel s))
              captured := t.captured ++ (((List.range (min i (min 96 (slotCount t.arrived)))).drop t.cursor).filterMap
                (slotAt t.arrived)).filter (isCaptured s.map) } :: rest })
      ∧ (s.line.state ≠ .online ∨ t.sinceOnline = false ∨ slot.kind ≠ .status ∨ slot.node ≠ s.node
            ∨ 7 < slot.channel → exec (.statusSlotWrite i) s = .next s))
    ∧ ∀ s : State,
      statusItem 0 s = s.web.state.code * 4096 + s.dryer.state.code * 256 + s.line.state.code * 16
          + (if s.comm.inForce.isSome then 1 else 0)
      ∧ (s.solv.publication = none → statusItem 1 s = 65535 ∧ statusItem 2 s = 65535 ∧ statusItem 3 s = 65535)
      ∧ (∀ p, s.solv.publication = some p → statusItem 1 s = p.combined ∧ statusItem 3 s = min 65535 p.floor
          ∧ (∀ v, p.predicted = some v → statusItem 2 s = v) ∧ (p.predicted = none → statusItem 2 s = 65535))
      ∧ (s.board.measuredLel = none → statusItem 4 s = 65535)
      ∧ (∀ v, s.board.measuredLel = some v → statusItem 4 s = v)
      ∧ (∀ m, (∀ x ∈ s.log.queue, x.code.cls.rank ≤ m) →
          (m = 0 ∧ s.log.queue = [] ∨ ∃ x ∈ s.log.queue, x.code.cls.rank = m) →
            statusItem 5 s = s.log.queue.length * 256 + m)
      ∧ (∀ a p m : Nat,
          (a = 15 ∧ (∀ b, (s.banks.get b).state ≠ .active)
            ∨ ∃ b : BankNo, a = b.val ∧ (s.banks.get b).state = .active
              ∧ ∀ c, (s.banks.get c).state = .active → c = b) →
          (p = 15 ∧ m = 255 ∧ (∀ b, (s.banks.get b).state.isPending = false)
            ∨ ∃ b : BankNo, p = b.val ∧ (∀ c, (s.banks.get c).state.isPending = true → c = b)
              ∧ ((s.banks.get b).state = .pending .atSplice ∧ m = 0
                ∨ (s.banks.get b).state = .pending .atStop ∧ m = 1)) →
            statusItem 6 s = a * 4096 + p * 256 + m)
      ∧ (∀ c : Nat, (s.agent.checking = none ∧ c = 255 ∨ ∃ b : BankNo, s.agent.checking = some b ∧ c = b.val) →
          statusItem 7 s = (if s.agent.storeRunning then 1 else 0) * 256 + c)
      ∧ [WebState.stopped, .threading, .running, .break, .resuming].map WebState.code = [0, 1, 2, 3, 4]
      ∧ [DryerState.unpurged, .purging, .purged, .firing, .tripped].map DryerState.code = [0, 1, 2, 3, 4]
      ∧ [LineState.bypass, .syncing, .online, .silent].map LineState.code = [0, 1, 2, 3]
      ∧ [IncidentClass.advisory, .process, .safety].map IncidentClass.rank = [1, 2, 3]

/-! ## The Schedule Unit, the Solvent Unit and the Sample Board -/

/-- A schedule evaluation completes and its record replaces the former one. A schedule is read flat before its first and
beyond its last breakpoint, exactly at each, and between two neighbours at the nearest whole unit of the straight line,
halves away from the value it starts at. The thermal ceiling is the table of R66 raised to the thread speed: 1,500 at or
above the last temperature, the thread speed below the first, and between them the speed at which the schedule reaches
the zone's temperature, rounded down; for a LOST record it is the thread speed. A refresh abandons a running evaluation
and, with a bank ACTIVE, starts one on its inputs; while the refresh is judged it moves the deviation and shortfall
watches of the configured zones and circuits by their tables and offers each onset. -/
def Obligations.ScheduleCompletes : Prop :=
  (∀ (s : State) (j : SchedJob), s.sched.job = some j →
    exec .scheduleEvaluationComplete s = .next
      { s with
        sched.job := none
        sched.publication := some
          { bank := j.bank, cycle := j.cycle, lead := j.lead,
            zoneTemp := Four.ofFn fun k =>
              if k.val < j.zones then some (interpolate (j.recipe.zoneTemp.get k) j.lead) else none,
            zoneFan := Four.ofFn fun k =>
              if k.val < j.zones then some (interpolate (j.recipe.zoneFan.get k) j.lead) else none,
            exhaust := interpolate j.recipe.exhaust j.lead,
            chill := Three.ofFn fun i =>
              if i.val < j.circuits then some (interpolate (j.recipe.chill.get i) j.lead) else none,
            ceiling := Four.ofFn fun k =>
              if k.val < j.zones then
                some (thermalCeiling (j.recipe.zoneTemp.get k) j.recipe.thread j.recipe.tolerance (j.temps.get k))
              else none } })
  ∧ (∀ (l : List Breakpoint) (v : Nat), SoundSchedule l →
      (∀ p, l.head? = some p → v ≤ p.speed → interpolate l v = p.value)
      ∧ (∀ p, l.getLast? = some p → p.speed ≤ v → interpolate l v = p.value)
      ∧ (∀ p ∈ l, interpolate l p.speed = p.value)
      ∧ ∀ before after p q, l = before ++ p :: q :: after → p.speed ≤ v → v ≤ q.speed →
          min p.value q.value ≤ interpolate l v ∧ interpolate l v ≤ max p.value q.value
          ∧ (p.value ≤ q.value → interpolate l v = p.value
              + (2 * ((v : Int) - p.speed) * (q.value - p.value) + ((q.speed : Int) - p.speed))
                / (2 * ((q.speed : Int) - p.speed)))
          ∧ (q.value ≤ p.value → interpolate l v = p.value
              - (2 * ((v : Int) - p.speed) * (p.value - q.value) + ((q.speed : Int) - p.speed))
                / (2 * ((q.speed : Int) - p.speed))))
  ∧ (∀ (l : List Breakpoint) (thread tolerance : Nat) (x : Option Int),
      thread ≤ thermalCeiling l thread tolerance x ∧ thermalCeiling l thread tolerance none = thread
      ∧ (SoundSchedule l → thermalCeiling l thread tolerance x ≤ max thread 1500)
      ∧ ∀ v y, SoundSchedule l → RisingValues l → x = some v → y = v + (tolerance : Int) →
        (∀ p, l.getLast? = some p → p.value ≤ y → thermalCeiling l thread tolerance x = max thread 1500)
        ∧ (∀ p, l.head? = some p → y < p.value → thermalCeiling l thread tolerance x = thread)
        ∧ ∀ before after p q, l = before ++ p :: q :: after → p.value ≤ y → y < q.value →
            (thermalCeiling l thread tolerance x : Int) = max (thread : Int)
              ((p.speed : Int) + (y - p.value) * ((q.speed : Int) - p.speed) / (q.value - p.value)))
  ∧ ∀ (r : Refresh) (s t : State), t = react r .scheduleUnit s →
      { t with sched := s.sched, log := s.log } = s ∧ t.sched.publication = s.sched.publication
      ∧ (activeBank s.banks = none → t.sched = { s.sched with job := none } ∧ t.log = s.log)
      ∧ (judged r s = false → t.sched = { s.sched with job := t.sched.job } ∧ t.log = s.log)
      ∧ ∀ b, activeBank s.banks = some b →
        t.sched.job = some
          { cycle := r.cycle, bank := b, recipe := (s.banks.get b).recipe, lead := s.board.lead,
            temps := Four.ofFn fun k => s.board.current (.zoneTemp k), zones := s.zoneCount,
            circuits := s.circuitCount }
        ∧ ∀ x, judged r s = true → x = (s.banks.get b).recipe →
          (∀ k : Zone, s.zoneCount ≤ k.val → t.sched.devCount.get k = s.sched.devCount.get k
              ∧ t.sched.deviation.get k = s.sched.deviation.get k)
          ∧ (∀ j : Circuit, s.circuitCount ≤ j.val → t.sched.shortCount.get j = s.sched.shortCount.get j
              ∧ t.sched.shortfall.get j = s.sched.shortfall.get j)
          ∧ ((∀ k, t.sched.deviation.get k = true → s.sched.deviation.get k = true) →
              (∀ j, t.sched.shortfall.get j = true → s.sched.shortfall.get j = true) → t.log = s.log)
          ∧ (∀ k : Zone, k.val < s.zoneCount →
            (s.web.state ≠ .running → t.sched.devCount.get k = 0 ∧ t.sched.deviation.get k = false)
            ∧ (s.web.state = .running →
              (s.cmds.lastValue (.zoneTempSp k) = none ∨ s.board.fresh (.zoneTemp k) = none →
                t.sched.devCount.get k = 0 ∧ t.sched.deviation.get k = s.sched.deviation.get k)
              ∧ ∀ sp v, s.cmds.lastValue (.zoneTempSp k) = some sp → s.board.fresh (.zoneTemp k) = some v →
                ((v - sp).natAbs ≤ x.devBand → t.sched.devCount.get k = 0 ∧ t.sched.deviation.get k = false)
                ∧ (x.devBand < (v - sp).natAbs → ∀ n, n = min 500 (s.sched.devCount.get k + r.step) →
                  t.sched.devCount.get k = n
                  ∧ t.sched.deviation.get k = (s.sched.deviation.get k || decide (x.devConfirm ≤ n))
                  ∧ (x.devConfirm ≤ n → s.sched.deviation.get k = false → s.log.queue.length ≤ 25 →
                      ∃ i ∈ t.log.queue, i.code = .zoneDeviation ∧ i.subject = .role (.zoneTemp k)
                        ∧ i.value = .num (v - sp)))))
          ∧ ∀ j : Circuit, j.val < s.circuitCount →
            (s.web.state ≠ .running → t.sched.shortCount.get j = 0 ∧ t.sched.shortfall.get j = false)
            ∧ (s.web.state = .running →
              (s.board.current (.chillWebTemp j) = none →
                t.sched.shortCount.get j = 0 ∧ t.sched.shortfall.get j = s.sched.shortfall.get j)
              ∧ ∀ v, s.board.current (.chillWebTemp j) = some v →
                (v ≤ (x.circuitProfiles.get j).limit →
                  t.sched.shortCount.get j = 0 ∧ t.sched.shortfall.get j = false)
                ∧ ((x.circuitProfiles.get j).limit < v → ∀ n, n = min 100 (s.sched.shortCount.get j + r.step) →
                  t.sched.shortCount.get j = n
                  ∧ t.sched.shortfall.get j = (s.sched.shortfall.get j || decide (100 ≤ n))
                  ∧ (100 ≤ n → s.sched.shortfall.get j = false → s.log.queue.length ≤ 25 →
                      ∃ i ∈ t.log.queue, i.code = .chillShortfall ∧ i.subject = .role (.chillWebTemp j)
                        ∧ i.value = .num v)))

/-- A solvent evaluation completes, whatever the order of the reactions to it: the record carries the inputs taken and
the figures of R78 to R84, the combined ceiling being the least of the solvent, the measured and every thermal ceiling;
DRYER_LIMITED, SOLVENT_MISMATCH, the histogram and LEL_PREDICTED_HIGH move by their tables and offer each onset; beside
the Solvent Unit only the dryer, the log and, at a trip, the resume record and the released flags move. A refresh
abandons a running evaluation and, with a bank ACTIVE, adds its step to the cycles pending and starts one on its inputs;
a judged one moves ANALYZER_DISAGREE. The open order of the reactions is a free value, its count the model's own, and
the Q_cap judged is the one taken (log 1, log 25). -/
def Obligations.SolventCompletes : Prop :=
  (∀ (s : State) (j : SolvJob) (thermal : Zone → Nat), s.solv.job = some j →
    (∀ k, thermal k = match s.sched.publication with
      | some q => (q.ceiling.get k).getD j.thread
      | none => j.thread) →
    ∃ u p, exec .solventEvaluationComplete s = .next u
      ∧ u.solv.publication = some p ∧ u.solv.job = none ∧ u.solv.pendingCycles = 0 ∧ u.solv.eff = s.solv.eff
      ∧ p.covered = s.solv.pendingCycles ∧ p.bank = j.bank ∧ p.cycle = j.cycle ∧ p.speed = j.speed
      ∧ p.line = j.line ∧ p.web = j.web ∧ p.dryer = j.dryer ∧ p.substituted = j.substituted
      ∧ p.coverage = j.coverage ∧ p.mode = j.mode ∧ p.lel = j.lel ∧ p.eff = j.eff ∧ p.flow = j.flow
      ∧ p.rate = (j.speed * j.width * j.coverage * j.evap * 60 + 99999999) / 100000000
      ∧ (j.flow = none → p.predicted = none)
      ∧ (∀ q, j.flow = some q → 0 < q → p.predicted = some (min 1000 ((p.rate * 1000 + (q * j.lg - 1)) / (q * j.lg))))
      ∧ (j.flow = some 0 → p.predicted = some (if p.rate = 0 then 0 else 1000))
      ∧ p.qMin = (p.rate * 100 + (j.lg * j.eff.fEff - 1)) / (j.lg * j.eff.fEff)
      ∧ p.floor = (if j.dryer = .firing then max ((p.qMin * (100 + j.eff.margin) + 99) / 100) j.eff.qFloor
          else (p.qMin * (100 + j.eff.margin) + 99) / 100)
      ∧ (j.coverage = 0 → p.solventCeiling = 1500)
      ∧ (j.coverage ≠ 0 → j.flow = none ∨ j.flow = some 0 → p.solventCeiling = 0)
      ∧ (∀ q, j.coverage ≠ 0 → j.flow = some q → 0 < q → p.solventCeiling =
          min 1500 (q * j.lg * j.eff.fEff * 1000000 / (j.width * j.coverage * j.evap * 60)))
      ∧ (j.web ≠ .running ∨ j.mode = .unmonitored ∨ j.lel = some 0 → p.measuredCeiling = 1500)
      ∧ (∀ m, j.web = .running → j.mode = .monitored → j.lel = some m → 0 < m →
          p.measuredCeiling = min 1500 (j.speed * j.eff.fEff * 10 / m))
      ∧ p.source = (match s.sched.publication with
          | some q => .publication q.cycle q.bank
          | none => .thread j.thread)
      ∧ p.combined ≤ p.solventCeiling ∧ p.combined ≤ p.measuredCeiling ∧ p.combined ≤ 1500
      ∧ (∀ q k v, s.sched.publication = some q → k.val < j.zones → q.ceiling.get k = some v → p.combined ≤ v)
      ∧ (∀ k, k.val < j.zones → p.combined ≤ thermal k)
      ∧ (p.combined = p.solventCeiling ∨ p.combined = p.measuredCeiling
          ∨ ∃ k, k.val < j.zones ∧ p.combined = thermal k)
      ∧ (j.flow = none → j.coverage ≠ 0 → p.combined = 0)
      ∧ u.board = s.board ∧ u.banks = s.banks ∧ u.sched = s.sched ∧ u.line = s.line ∧ u.comm = s.comm
      ∧ u.agent = s.agent ∧ u.pins = s.pins ∧ u.cmds.entries.map Prod.fst = s.cmds.entries.map Prod.fst
      ∧ u = { s with
          choices := s.choices + 1, solv := u.solv, dryer := u.dryer, log := u.log, web := u.web, cmds := u.cmds }
      ∧ u.solv.disagree = s.solv.disagree
      ∧ (u.dryer.state = s.dryer.state → u.web = s.web ∧ u.cmds = s.cmds)
      ∧ (u.dryer.state ≠ s.dryer.state → u.dryer.state = .tripped
          ∧ u.cmds = { s.cmds with entries := s.cmds.entries.map fun x => (x.1, { x.2 with released := false }) }
          ∧ (s.dryer.state.burning = false ∨ s.web.record = none → u.web = s.web)
          ∧ (s.dryer.state.burning = true → s.web.record ≠ none → u.web =
              { s.web with
                record := none
                state := if s.web.state = .resuming then .threading else s.web.state
                timer := if s.web.state = .resuming then none else s.web.timer }))
      ∧ (p.line ≠ .online → u.solv.limited = s.solv.limited ∧ u.solv.mismatch = s.solv.mismatch
          ∧ u.solv.mismatchCount = s.solv.mismatchCount)
      ∧ (p.line = .online → u.solv.limited = decide (j.qCap < p.floor)
          ∧ (p.web ≠ .running ∨ p.mode = .unmonitored →
              u.solv.mismatchCount = 0 ∧ u.solv.mismatch = false)
          ∧ ∀ m, p.web = .running → p.mode = .monitored → p.lel = some m →
            (p.predicted = none → u.solv.mismatchCount = 0 ∧ u.solv.mismatch = s.solv.mismatch)
            ∧ ∀ q, p.predicted = some q →
              (m ≤ q + 100 → u.solv.mismatchCount = 0 ∧ u.solv.mismatch = false)
              ∧ (q + 100 < m → ∀ n, n = min 50 (s.solv.mismatchCount + p.covered) →
                u.solv.mismatchCount = n ∧ u.solv.mismatch = (s.solv.mismatch || decide (50 ≤ n))
                ∧ (50 ≤ n → s.solv.mismatch = false → s.log.queue.length ≤ 28 →
                    ∃ i ∈ u.log.queue, i.code = .solventMismatch ∧ i.subject = .none
                      ∧ i.value = .num ((m : Int) - (q : Int)))))
      ∧ (p.line = .online → j.qCap < p.floor → s.solv.limited = false → s.log.queue.length ≤ 28 →
          ∃ i ∈ u.log.queue, i.code = .dryerLimited ∧ i.subject = .none ∧ i.value = .num (p.floor : Int))
      ∧ (p.web ≠ .running ∨ p.predicted = none → u.solv.histogram = s.solv.histogram)
      ∧ (∀ v g, p.web = .running → p.predicted = some v → g = s.solv.histogram → u.solv.histogram =
          { b1 := if v < 100 then min 4294967295 (g.b1 + 1) else g.b1
            b2 := if 100 ≤ v ∧ v < 200 then min 4294967295 (g.b2 + 1) else g.b2
            b3 := if 200 ≤ v ∧ v < 250 then min 4294967295 (g.b3 + 1) else g.b3
            b4 := if 250 ≤ v ∧ v < 300 then min 4294967295 (g.b4 + 1) else g.b4
            b5 := if 300 ≤ v ∧ v < 400 then min 4294967295 (g.b5 + 1) else g.b5
            b6 := if 400 ≤ v then min 4294967295 (g.b6 + 1) else g.b6 })
      ∧ (p.web = .stopped ∨ p.web = .break → u.dryer = { s.dryer with lelPredicted := ⟨false, 0⟩ })
      ∧ (p.web ≠ .stopped → p.web ≠ .break →
          (p.predicted = none → u.dryer = s.dryer)
          ∧ ∀ v e c, p.predicted = some v → s.solv.eff = some e → s.scalars? = some c →
            (v < e.trip → u.dryer = { s.dryer with lelPredicted := ⟨false, 0⟩ })
            ∧ (e.trip ≤ v → ∀ n, n = min 50 (s.dryer.lelPredicted.count + p.covered) →
              (n < c.confirm ∨ s.dryer.lelPredicted.active = true →
                u.dryer = { s.dryer with lelPredicted := { s.dryer.lelPredicted with count := n } })
              ∧ (c.confirm ≤ n → s.dryer.lelPredicted.active = false →
                u.dryer.lelPredicted = ⟨true, n⟩ ∧ u.dryer.state = .tripped
                ∧ (s.log.queue.length ≤ 28 → ∃ i ∈ u.log.queue, i.code = .lelPredictedHigh
                    ∧ i.subject = .none ∧ i.value = .num (v : Int))))))
  ∧ ∀ (r : Refresh) (s t : State), t = react r .solventUnit s →
      { t with solv := s.solv, log := s.log } = s
      ∧ t.solv = { s.solv with
          eff := s.scalars?.map fun c => effectiveParams c s.agent.overrides s.board.mode
          job := t.solv.job, pendingCycles := t.solv.pendingCycles, disagree := t.solv.disagree }
      ∧ (activeBank s.banks = none → t.solv.job = none ∧ t.solv.pendingCycles = s.solv.pendingCycles)
      ∧ (∀ b c x, activeBank s.banks = some b → s.scalars? = some c → x = (s.banks.get b).recipe →
          t.solv.pendingCycles = min 65535 (s.solv.pendingCycles + r.step)
          ∧ ∃ coverage, t.solv.job = some
              { bank := b, cycle := r.cycle, line := r.line, web := s.web.state, dryer := s.dryer.state,
                speed := if s.board.speedsLost then 1500 else s.board.lead, substituted := s.board.speedsLost,
                coverage := coverage, width := x.width, evap := x.evap, thread := x.thread, mode := s.board.mode,
                lel := s.board.measuredLel, eff := effectiveParams c s.agent.overrides s.board.mode,
                flow := (s.board.current .exhaustFlow).map Int.toNat, lg := c.lg, qCap := c.qCap, zones := c.zones }
            ∧ (s.board.fresh .liveCoverage = none → coverage = x.films.sum)
            ∧ ∀ v, s.board.fresh .liveCoverage = some v → coverage = max x.films.sum v.toNat)
      ∧ (judged r s = false → t.solv.disagree = s.solv.disagree ∧ t.log = s.log)
      ∧ (judged r s = true →
          (s.board.quality (.lel 0) = .lost ∨ s.board.quality (.lel 1) = .lost →
            t.solv.disagree = false ∧ t.log = s.log)
          ∧ (s.board.quality (.lel 0) ≠ .lost → s.board.quality (.lel 1) ≠ .lost →
              s.board.quality (.lel 0) = .held ∨ s.board.quality (.lel 1) = .held →
                t.solv.disagree = s.solv.disagree ∧ t.log = s.log)
          ∧ ∀ a b, s.board.fresh (.lel 0) = some a → s.board.fresh (.lel 1) = some b →
              ((a - b).natAbs ≤ 50 → t.solv.disagree = false ∧ t.log = s.log)
              ∧ (50 < (a - b).natAbs → t.solv.disagree = true
                ∧ t.log = if s.solv.disagree then s.log else (offer .analyzerDisagree .none (.num (a - b)) s).log))

/-- A record of the board at a refresh: the last captured slot of its key, when GOOD, sets value, age and last good
value, read in the role's terms and counted when clamped (for SPEED_REF the arriving value kept for the cycle number);
otherwise the record ages by the cycle step, HELD on its last good value up to its staleness limit and LOST beyond it.
Each clamp is also counted in the part's clamped samples, and the value kept for the refresh's cycle number is discarded
where no SPEED_REF slot came back; any other kept value stands (that one that was used stands too is log 22). From the
records the refresh forms the actual and lead speeds, the effective measured LEL, the analyzer mode and the splice
event, and at a judged refresh SPEED_LOST and LEL_UNMONITORED stand exactly while their circumstance does, each onset
offered. -/
def Obligations.RecordsFollowRefresh : Prop :=
  (∀ (s : State) (r : Refresh) (k : RecKey) (x : BoardRec),
    (∀ e slot, recordEntry s.map k = some e → lastSlotFor e r.slots = some slot → slot.quality = .good →
      (k.role ≠ .speedRef ∨ k.echo = true) →
        takeRecord s r k x =
          { value := some (readValue k.role slot.value), quality := .good, age := 0,
            lastGood := some (readValue k.role slot.value),
            clamps := if wasClamped k.role slot.value then min 65535 (x.clamps + 1) else x.clamps })
    ∧ ((∀ e slot, recordEntry s.map k = some e → lastSlotFor e r.slots = some slot → slot.quality ≠ .good) →
      (takeRecord s r k x).age = min 255 (x.age + r.step) ∧ (takeRecord s r k x).lastGood = x.lastGood
      ∧ (takeRecord s r k x).clamps = x.clamps
      ∧ (∀ v, x.lastGood = some v → min 255 (x.age + r.step) ≤ stalenessLimit s.map k →
          (takeRecord s r k x).quality = .held ∧ (takeRecord s r k x).value = some v)
      ∧ (x.lastGood = none ∨ stalenessLimit s.map k < min 255 (x.age + r.step) →
          (takeRecord s r k x).quality = .lost ∧ (takeRecord s r k x).value = none))
    ∧ (∀ e slot c, recordEntry s.map k = some e → lastSlotFor e r.slots = some slot → slot.quality = .good →
        k.role = .speedRef → k.echo = false → r.cycle = some c →
          (∀ w, lookupKey c s.cmds.kept = some w → (takeRecord s r k x).value = some (readValue .speedRef w))
          ∧ (lookupKey c s.cmds.kept = none →
              (takeRecord s r k x).value = some (readValue .speedRef slot.value)))
    ∧ ∀ (role : Role) (w : Word), role.lowest ≤ readValue role w ∧ readValue role w ≤ role.highest
        ∧ (role.isBinary = true → readValue role w = if w.toNat = 0 then 0 else 1)
        ∧ (role.isBinary = false → role.lowest ≤ readWord role w → readWord role w ≤ role.highest →
            readValue role w = readWord role w))
    ∧ (∀ (r : Refresh) (s t : State), t = takeSamples r s →
        { t with board := s.board, cmds.kept := s.cmds.kept } = s
        ∧ t.board.records = s.board.records.map (fun p => (p.1, takeRecord s r p.1 p.2))
        ∧ (∀ v, t.board.current .webSpeed = some v → t.board.actual = v.toNat)
        ∧ (∀ v, t.board.current .webSpeed = none → t.board.current .speedRef = some v → t.board.actual = v.toNat)
        ∧ (t.board.current .webSpeed = none → t.board.current .speedRef = none →
            t.board.actual = ((t.board.lastGood .webSpeed).map Int.toNat).getD 0 ∧ t.board.lead = t.board.actual)
        ∧ (∀ v w, t.board.current .webSpeed = some v → t.board.current .speedRef = some w →
            t.board.lead = max v.toNat w.toNat)
        ∧ (∀ v, t.board.current .webSpeed = some v → t.board.current .speedRef = none → t.board.lead = v.toNat)
        ∧ (∀ w, t.board.current .webSpeed = none → t.board.current .speedRef = some w → t.board.lead = w.toNat)
        ∧ (∀ v w, t.board.current (.lel 0) = some v → t.board.current (.lel 1) = some w →
            t.board.measuredLel = some (max v.toNat w.toNat))
        ∧ (∀ a b v, (a = 0 ∧ b = 1 ∨ a = 1 ∧ b = 0) → t.board.current (.lel a) = some v →
            t.board.current (.lel b) = none → t.board.measuredLel = some v.toNat)
        ∧ (t.board.current (.lel 0) = none → t.board.current (.lel 1) = none → t.board.measuredLel = none)
        ∧ (t.board.mode = .monitored ↔ t.board.measuredLel ≠ none)
        ∧ (t.board.splice = true ↔ ∃ a c, s.board.lastGood .splice = some a ∧ t.board.fresh .splice = some c ∧ a ≠ c)
        ∧ t.board.speedLost = s.board.speedLost ∧ t.board.lelUnmonitored = s.board.lelUnmonitored
        ∧ (∀ f : RecKey → Bool,
            (∀ k, f k = true ↔ ∃ e slot w, recordEntry s.map k = some e ∧ lastSlotFor e r.slots = some slot
              ∧ slot.quality = .good
              ∧ w = (if k.role = .speedRef ∧ k.echo = false then
                  (r.cycle.bind fun c => lookupKey c s.cmds.kept).getD slot.value else slot.value)
              ∧ k.role.isBinary = false ∧ (readWord k.role w < k.role.lowest ∨ k.role.highest < readWord k.role w)) →
            t.board.clamped = min 4294967295 (s.board.clamped + (s.board.records.filter fun p => f p.1).length))
        ∧ (∀ c, r.cycle = some c →
            (∀ e, recordEntry s.map ⟨.speedRef, false⟩ = some e → lastSlotFor e r.slots = none) →
              t.cmds.kept = s.cmds.kept.filter fun p => decide (p.1 ≠ c))
        ∧ (r.cycle = none ∨ (∃ e slot, recordEntry s.map ⟨.speedRef, false⟩ = some e
              ∧ lastSlotFor e r.slots = some slot) → t.cmds.kept = s.cmds.kept))
    ∧ ∀ (r : Refresh) (s t : State), t = react r .sampleBoard s →
        (judged r s = false → t = s)
        ∧ ∀ c, judged r s = true → s.scalars? = some c →
          t = { s with
            log := t.log
            board := { s.board with
              speedLost := decide (s.board.quality .webSpeed = .lost ∧ s.board.quality .speedRef = .lost)
              lelUnmonitored := decide (c.analyzers ≠ 0 ∧ s.board.mode = .unmonitored) } }
          ∧ ((t.board.speedLost = true → s.board.speedLost = true) →
              (t.board.lelUnmonitored = true → s.board.lelUnmonitored = true) → t.log = s.log)
          ∧ (s.log.queue.length ≤ 30 →
            (t.board.speedLost = true → s.board.speedLost = false → ∃ i ∈ t.log.queue,
              i.code = .speedLost ∧ i.subject = .none ∧ i.value = .num (s.board.actual : Int))
            ∧ (t.board.lelUnmonitored = true → s.board.lelUnmonitored = false → ∃ i ∈ t.log.queue,
              i.code = .lelUnmonitored ∧ i.subject = .none ∧ i.value = .absent))

/-! ## Laws that every step keeps -/

/-- The dryer's laws, each kept by every step by itself: PERMIT is high exactly in PURGED and FIRING; an
UNCOMMISSIONED part holds no record, entry, evaluation or sealed bank and stays UNPURGED; the dryer is TRIPPED exactly
while the capture stands, no safety condition is active elsewhere, and the hold timer runs exactly in PURGED. That no
record is in force and no STORE runs while the part is not running is the model's choice (log 10). -/
def Obligations.DryerLawsKept : Prop :=
  (∀ s t, PermitLaw s → step s = .next t → PermitLaw t)
    ∧ (∀ s t, UncommissionedLaw s → step s = .next t → UncommissionedLaw t)
    ∧ ∀ s t, DryerLaw s → step s = .next t → DryerLaw t

/-- Every step keeps the bound of the incident queue and the meaning of ALERT, from every state whose blocks hold
their values after reset while the part is not running. What stands while the part is not running is the model's
choice (log 10). -/
def Obligations.AlertLawKept : Prop :=
  (∀ s t, HeldLaw s → step s = .next t → HeldLaw t) ∧ ∀ s t, AlertLaw s → step s = .next t → AlertLaw t

/-- Every step keeps at most eight places and at most eight BUSY marks; it keeps the line state in agreement with the
relay, the phase, the stores, the sync count and the silence timer; and every frame in a store keeps its length and its
header, with no more slots captured than have streamed past. That the new, the standing and the bound marks together are
the eight is the model's reading (log 21). -/
def Obligations.LineLawsKept : Prop :=
  (∀ s t, PlacesLaw s → step s = .next t → PlacesLaw t)
    ∧ ((∀ s t, LineLaw s → step s = .next t → LineLaw t) ∧ ∀ s t, StoresLaw s → step s = .next t → StoresLaw t)

/-- Every step keeps the banks' laws, the running STORE's laws, and, over them, those of the resume record. That no
stored record stands for the whole of a running STORE, from its acceptance on, is the model's choice (log 28). -/
def Obligations.ResumeLawsKept : Prop :=
  (∀ s t, BankLaw s → step s = .next t → BankLaw t)
    ∧ (∀ s t, StoreLaw s → step s = .next t → StoreLaw t)
    ∧ ∀ s t, ResumeLaw s → step s = .next t → ResumeLaw t

/-- Every step keeps every record of the Sample Board in its role's range, its value absent exactly while LOST; the
published figures in their ranges; every counter a 32-bit count; and the effective parameters those of the stored
figures and the overrides. -/
def Obligations.FiguresLawsKept : Prop :=
  (∀ s t, BoardLaw s → step s = .next t → BoardLaw t)
    ∧ ((∀ s t, SolventLaw s → step s = .next t → SolventLaw t)
         ∧ (∀ s t, CounterLaw s → step s = .next t → CounterLaw t)
         ∧ ∀ s t, EffLaw s → step s = .next t → EffLaw t)

/-- Every step keeps every recipe and every commissioning record in the ranges of its writes, and a record in force
passing the checks of STORE; and the Command Table and the Sample Board hold exactly what the map in force asks for. -/
def Obligations.RecordLawsKept : Prop :=
  (∀ s t, RecipeLaw s → step s = .next t → RecipeLaw t)
    ∧ (∀ s t, RecordLaw s → step s = .next t → RecordLaw t)
    ∧ ∀ s t, TableLaw s → step s = .next t → TableLaw t

/-- The part right after a power-on reset keeps every law. That this state is a power-on with a store never written is
the model's choice (log 8, log 9). -/
def Obligations.ResetKeepsLaws : Prop :=
  PermitLaw State.reset ∧ DryerLaw State.reset ∧ AlertLaw State.reset ∧ PlacesLaw State.reset ∧ LineLaw State.reset
    ∧ StoresLaw State.reset ∧ ResumeLaw State.reset ∧ BoardLaw State.reset ∧ SolventLaw State.reset
    ∧ CounterLaw State.reset ∧ EffLaw State.reset ∧ RecipeLaw State.reset ∧ RecordLaw State.reset
    ∧ TableLaw State.reset

/-! ## The whole part -/

/-- The stored commissioning record changes at two commands only: an accepted STORE, which leaves none, and the
completion of its write, which leaves the working copy. That an accepted STORE leaves no stored record until its write
ends is the model's reading (log 28). -/
def Obligations.StoredRecordChanges : Prop :=
  ∀ (c : Instr) (s t : State), exec c s = .next t → t.comm.stored ≠ s.comm.stored →
    (c = .store ∧ t.comm.stored = none ∧ t.agent.storeRunning = true ∧ checkData s.comm.working = none
        ∧ (s.dryer.state = .unpurged ∨ s.dryer.state = .tripped))
      ∨ (c = .storeWriteComplete ∧ s.agent.storeRunning = true ∧ t.comm.stored = some s.comm.working)

/-- PERMIT rises at one event only: the end of a good BACK cycle frame in PURGING whose refresh brings the purge
accumulator to the required volume, with every mapped flame GOOD 0 and the exhaust flow GOOD and not below the purge
minimum. -/
def Obligations.PermitRisesAtPurge : Prop :=
  ∀ (c : Instr) (s t : State), PermitLaw s → exec c s = .next t → s.dryer.permit = false → t.dryer.permit = true →
    ∃ us frame w q, c = .frameEnd .back us ∧ Leaving .back frame s ∧ kindOf frame.arrived = .cycle
      ∧ goodFrame frame.arrived = true ∧ s.dryer.state = .purging ∧ s.scalars? = some w
      ∧ w.volume * w.changes * 1000 ≤ t.dryer.accumulator
      ∧ t.board.fresh .exhaustFlow = some q ∧ (w.purgeMin : Int) ≤ q
      ∧ ∀ k ∈ s.flameZones, t.board.fresh (.zoneFlame k) = some 0

/-- Whatever the order of the blocks' reactions, a board refresh that leaves the effective measured LEL at or above
the stored trip level, or at or above an override of it, leaves the dryer TRIPPED and PERMIT low. The Dryer Safety
Unit's own reaction to a refresh moves every condition by its table (LEL_MEASURED_HIGH, EXHAUST_LOW,
FLAME_WITHOUT_ENABLE, the clearing of LINE_SILENT and LEL_PREDICTED_HIGH), an onset trips, and in a dryer that is not
tripped the purge is thrown back, paused or counted, and flames move it between PURGED and FIRING. -/
def Obligations.MeasuredLelTrips : Prop :=
  (∀ (us : Nat) (s t : State) (frame : Transit) (w : Scalars) (v : Nat), DryerLaw s → PermitLaw s → EffLaw s →
    Leaving .back frame s → kindOf frame.arrived = .cycle →
    (goodFrame frame.arrived = true → numbering s.line.lastCycle (cycleNumber frame.arrived) ≠ .repeated) →
    exec (.frameEnd .back us) s = .next t → s.scalars? = some w → t.board.measuredLel = some v →
    (w.trip ≤ v ∨ ∃ o, s.agent.overrides.trip = some o ∧ o ≤ v) →
      t.dryer.state = .tripped ∧ t.dryer.permit = false)
  ∧ ∀ (r : Refresh) (s t : State) (w : Scalars) (e : EffParams) (high thrown paused : Prop),
      s.scalars? = some w → s.solv.eff = some e → t = react r .dryerSafety s →
      (high ↔ ∃ v, s.board.measuredLel = some v ∧ e.trip ≤ v) →
      (thrown ↔ (∃ k ∈ s.flameZones, s.board.current (.zoneFlame k) = some 1) ∨ s.board.current .exhaustFlow = none
        ∨ ∃ q, s.board.fresh .exhaustFlow = some q ∧ q.toNat < w.purgeMin) →
      (paused ↔ r.regular = false ∨ s.board.fresh .exhaustFlow = none
        ∨ ∃ k ∈ s.flameZones, s.board.fresh (.zoneFlame k) ≠ some 0) →
        { t with dryer := s.dryer, web := s.web, log := s.log, cmds := s.cmds } = s
        ∧ (t.dryer.lelMeasured = true ↔ high)
        ∧ (high → s.dryer.lelMeasured = false → t.dryer.state = .tripped)
        ∧ t.dryer.lelPredicted = (if s.solv.publication = none then ⟨false, 0⟩ else s.dryer.lelPredicted)
        ∧ t.dryer.lineSilent = (s.dryer.lineSilent && decide (r.line ≠ .online))
        ∧ t.dryer.exhaustUnresponsive = s.dryer.exhaustUnresponsive
        ∧ (s.dryer.state ≠ .firing ∨ (high ∧ s.dryer.lelMeasured = false) → t.dryer.exhaustLow = ⟨false, 0⟩)
        ∧ (s.dryer.state = .firing → ¬ (high ∧ s.dryer.lelMeasured = false) →
          (s.board.current .exhaustFlow = none → t.dryer.exhaustLow = ⟨true, 0⟩
              ∧ (s.dryer.exhaustLow.active = false → t.dryer.state = .tripped))
          ∧ ∀ q, s.board.current .exhaustFlow = some q →
            (e.qFloor ≤ q.toNat → t.dryer.exhaustLow = ⟨false, 0⟩)
            ∧ (q.toNat < e.qFloor → ∀ n, n = min 50 (s.dryer.exhaustLow.count + r.step) →
              t.dryer.exhaustLow = ⟨s.dryer.exhaustLow.active || decide (w.confirm ≤ n), n⟩
              ∧ (w.confirm ≤ n → s.dryer.exhaustLow.active = false → t.dryer.state = .tripped)))
        ∧ (∀ k, k ∉ s.flameZones → t.dryer.flame.get k = s.dryer.flame.get k)
        ∧ (∀ k ∈ s.flameZones,
          (s.board.fresh (.zoneFlame k) = none → t.dryer.flame.get k = { s.dryer.flame.get k with count := 0 })
          ∧ (s.board.fresh (.zoneFlame k) = some 0 → t.dryer.flame.get k = ⟨false, 0⟩)
          ∧ (s.board.fresh (.zoneFlame k) = some 1 →
            (commandEntry s.map (.zoneBurnerEn k) ≠ none → s.cmds.lastValue (.zoneBurnerEn k) = some 1 →
              t.dryer.flame.get k = ⟨false, 0⟩)
            ∧ (commandEntry s.map (.zoneBurnerEn k) = none → s.dryer.state.burning = true →
              t.dryer.state ≠ .tripped → t.dryer.flame.get k = ⟨false, 0⟩)
            ∧ ((commandEntry s.map (.zoneBurnerEn k) ≠ none ∧ s.cmds.lastValue (.zoneBurnerEn k) ≠ some 1)
                  ∨ (commandEntry s.map (.zoneBurnerEn k) = none ∧ s.dryer.state.burning = false) →
              ∀ n, n = min 50 ((s.dryer.flame.get k).count + r.step) →
                t.dryer.flame.get k = ⟨(s.dryer.flame.get k).active || decide (w.confirm ≤ n), n⟩
                ∧ (w.confirm ≤ n → (s.dryer.flame.get k).active = false → t.dryer.state = .tripped))))
        ∧ (s.dryer.state = .tripped → t.dryer.state = .tripped)
        ∧ (s.dryer.state ≠ .tripped → t.dryer.state = .tripped → t.dryer.permit = false ∧ AnyActive t.dryer
            ∧ t.dryer.accumulator = s.dryer.accumulator ∧ t.dryer.remainder = s.dryer.remainder)
        ∧ (t.dryer.state ≠ .tripped →
          (s.dryer.state = .unpurged → t.dryer.state = .unpurged)
          ∧ (s.dryer.state = .purging →
            (thrown → t.dryer.state = .purging ∧ t.dryer.accumulator = 0 ∧ t.dryer.remainder = 0)
            ∧ (¬ thrown → paused → t.dryer.state = .purging ∧ t.dryer.accumulator = s.dryer.accumulator
                ∧ t.dryer.remainder = s.dryer.remainder)
            ∧ (¬ thrown → ¬ paused → ∀ q n, s.board.fresh .exhaustFlow = some q →
                n = q.toNat * w.period + s.dryer.remainder →
                  t.dryer.accumulator = s.dryer.accumulator + n / 3600 ∧ t.dryer.remainder = n % 3600
                  ∧ (t.dryer.accumulator < w.volume * w.changes * 1000 → t.dryer.state = .purging)
                  ∧ (w.volume * w.changes * 1000 ≤ t.dryer.accumulator → t.dryer.state = .purged
                      ∧ t.dryer.permit = true ∧ t.dryer.hold = some (s.now + 1000000 * w.purgeHold))))
          ∧ (s.dryer.state = .purged →
            ((∃ k ∈ s.flameZones, s.board.fresh (.zoneFlame k) = some 1) →
              t.dryer.state = .firing ∧ t.dryer.permit = true ∧ t.dryer.hold = none)
            ∧ ((∀ k ∈ s.flameZones, s.board.fresh (.zoneFlame k) ≠ some 1) →
              t.dryer.state = .purged ∧ t.dryer.permit = s.dryer.permit ∧ t.dryer.hold = s.dryer.hold))
          ∧ (s.dryer.state = .firing →
            ((∀ k ∈ s.flameZones, s.board.fresh (.zoneFlame k) = some 0) →
              t.dryer.state = .purged ∧ t.dryer.permit = true
                ∧ t.dryer.hold = some (s.now + 1000000 * w.purgeHold))
            ∧ ((∃ k ∈ s.flameZones, s.board.fresh (.zoneFlame k) ≠ some 0) →
              t.dryer.state = .firing ∧ t.dryer.permit = s.dryer.permit ∧ t.dryer.hold = s.dryer.hold)))
end

