-- ==== Sys2Proof/Laws/State.lean ====
section
/-! SUPPORT. What each plain update of the state does, field by field, so that no later proof unfolds a record
update. -/

namespace Sys2Proof.Machine

variable (s : State)

/-! ### elapse -/

@[simp] theorem elapse_pending (us : Nat) : (elapse us s).pending = s.pending := rfl
@[simp] theorem elapse_now (us : Nat) : (elapse us s).now = s.now + us := rfl
@[simp] theorem elapse_choices (us : Nat) : (elapse us s).choices = s.choices := rfl
@[simp] theorem elapse_phase (us : Nat) : (elapse us s).phase = s.phase := rfl
@[simp] theorem elapse_pins (us : Nat) : (elapse us s).pins = s.pins := rfl
@[simp] theorem elapse_line (us : Nat) : (elapse us s).line = s.line := rfl
@[simp] theorem elapse_comm (us : Nat) : (elapse us s).comm = s.comm := rfl
@[simp] theorem elapse_board (us : Nat) : (elapse us s).board = s.board := rfl
@[simp] theorem elapse_banks (us : Nat) : (elapse us s).banks = s.banks := rfl
@[simp] theorem elapse_sched (us : Nat) : (elapse us s).sched = s.sched := rfl
@[simp] theorem elapse_solv (us : Nat) : (elapse us s).solv = s.solv := rfl
@[simp] theorem elapse_web (us : Nat) : (elapse us s).web = s.web := rfl
@[simp] theorem elapse_dryer (us : Nat) : (elapse us s).dryer = s.dryer := rfl
@[simp] theorem elapse_cmds (us : Nat) : (elapse us s).cmds = s.cmds := rfl
@[simp] theorem elapse_log (us : Nat) : (elapse us s).log = s.log := rfl
@[simp] theorem elapse_agent (us : Nat) : (elapse us s).agent = s.agent := rfl

/-! ### reachDeadline -/

@[simp] theorem reachDeadline_pending (d : Nat) : (reachDeadline d s).pending = s.pending := rfl
@[simp] theorem reachDeadline_now (d : Nat) : (reachDeadline d s).now = max s.now d := rfl
@[simp] theorem reachDeadline_choices (d : Nat) : (reachDeadline d s).choices = s.choices := rfl
@[simp] theorem reachDeadline_phase (d : Nat) : (reachDeadline d s).phase = s.phase := rfl
@[simp] theorem reachDeadline_pins (d : Nat) : (reachDeadline d s).pins = s.pins := rfl
@[simp] theorem reachDeadline_line (d : Nat) : (reachDeadline d s).line = s.line := rfl
@[simp] theorem reachDeadline_comm (d : Nat) : (reachDeadline d s).comm = s.comm := rfl
@[simp] theorem reachDeadline_board (d : Nat) : (reachDeadline d s).board = s.board := rfl
@[simp] theorem reachDeadline_banks (d : Nat) : (reachDeadline d s).banks = s.banks := rfl
@[simp] theorem reachDeadline_sched (d : Nat) : (reachDeadline d s).sched = s.sched := rfl
@[simp] theorem reachDeadline_solv (d : Nat) : (reachDeadline d s).solv = s.solv := rfl
@[simp] theorem reachDeadline_web (d : Nat) : (reachDeadline d s).web = s.web := rfl
@[simp] theorem reachDeadline_dryer (d : Nat) : (reachDeadline d s).dryer = s.dryer := rfl
@[simp] theorem reachDeadline_cmds (d : Nat) : (reachDeadline d s).cmds = s.cmds := rfl
@[simp] theorem reachDeadline_log (d : Nat) : (reachDeadline d s).log = s.log := rfl
@[simp] theorem reachDeadline_agent (d : Nat) : (reachDeadline d s).agent = s.agent := rfl

/-! ### takeChoice -/

@[simp] theorem takeChoice_pending : (takeChoice s).pending = s.pending := rfl
@[simp] theorem takeChoice_now : (takeChoice s).now = s.now := rfl
@[simp] theorem takeChoice_choices : (takeChoice s).choices = s.choices + 1 := rfl
@[simp] theorem takeChoice_phase : (takeChoice s).phase = s.phase := rfl
@[simp] theorem takeChoice_pins : (takeChoice s).pins = s.pins := rfl
@[simp] theorem takeChoice_line : (takeChoice s).line = s.line := rfl
@[simp] theorem takeChoice_comm : (takeChoice s).comm = s.comm := rfl
@[simp] theorem takeChoice_board : (takeChoice s).board = s.board := rfl
@[simp] theorem takeChoice_banks : (takeChoice s).banks = s.banks := rfl
@[simp] theorem takeChoice_sched : (takeChoice s).sched = s.sched := rfl
@[simp] theorem takeChoice_solv : (takeChoice s).solv = s.solv := rfl
@[simp] theorem takeChoice_web : (takeChoice s).web = s.web := rfl
@[simp] theorem takeChoice_dryer : (takeChoice s).dryer = s.dryer := rfl
@[simp] theorem takeChoice_cmds : (takeChoice s).cmds = s.cmds := rfl
@[simp] theorem takeChoice_log : (takeChoice s).log = s.log := rfl
@[simp] theorem takeChoice_agent : (takeChoice s).agent = s.agent := rfl

/-! ### quietDown -/

@[simp] theorem quietDown_pending (n : Nat) : (quietDown n s).pending = s.pending := rfl
@[simp] theorem quietDown_now (n : Nat) : (quietDown n s).now = s.now := rfl
@[simp] theorem quietDown_choices (n : Nat) : (quietDown n s).choices = s.choices := rfl
@[simp] theorem quietDown_phase (n : Nat) : (quietDown n s).phase = s.phase := rfl
@[simp] theorem quietDown_pins (n : Nat) : (quietDown n s).pins = s.pins := rfl
@[simp] theorem quietDown_line (n : Nat) : (quietDown n s).line = s.line := rfl
@[simp] theorem quietDown_comm (n : Nat) : (quietDown n s).comm = s.comm := rfl
@[simp] theorem quietDown_board (n : Nat) : (quietDown n s).board = s.board := rfl
@[simp] theorem quietDown_banks (n : Nat) : (quietDown n s).banks = s.banks := rfl
@[simp] theorem quietDown_sched (n : Nat) : (quietDown n s).sched = s.sched := rfl
@[simp] theorem quietDown_solv (n : Nat) : (quietDown n s).solv = s.solv := rfl
@[simp] theorem quietDown_web (n : Nat) : (quietDown n s).web = s.web := rfl
@[simp] theorem quietDown_dryer (n : Nat) : (quietDown n s).dryer = s.dryer := rfl
@[simp] theorem quietDown_cmds (n : Nat) : (quietDown n s).cmds = s.cmds := rfl
@[simp] theorem quietDown_log (n : Nat) :
    (quietDown n s).log = { s.log with quietErrors := s.log.quietErrors - n, quietLate := s.log.quietLate - n } := rfl
@[simp] theorem quietDown_agent (n : Nat) : (quietDown n s).agent = s.agent := rfl

/-! ### setOutHead -/

@[simp] theorem setOutHead_pending (t : Transit) : (setOutHead t s).pending = s.pending := rfl
@[simp] theorem setOutHead_now (t : Transit) : (setOutHead t s).now = s.now := rfl
@[simp] theorem setOutHead_choices (t : Transit) : (setOutHead t s).choices = s.choices := rfl
@[simp] theorem setOutHead_phase (t : Transit) : (setOutHead t s).phase = s.phase := rfl
@[simp] theorem setOutHead_pins (t : Transit) : (setOutHead t s).pins = s.pins := rfl
@[simp] theorem setOutHead_line (t : Transit) :
    (setOutHead t s).line = { s.line with outStore := t :: s.line.outStore.tail } := rfl
@[simp] theorem setOutHead_comm (t : Transit) : (setOutHead t s).comm = s.comm := rfl
@[simp] theorem setOutHead_board (t : Transit) : (setOutHead t s).board = s.board := rfl
@[simp] theorem setOutHead_banks (t : Transit) : (setOutHead t s).banks = s.banks := rfl
@[simp] theorem setOutHead_sched (t : Transit) : (setOutHead t s).sched = s.sched := rfl
@[simp] theorem setOutHead_solv (t : Transit) : (setOutHead t s).solv = s.solv := rfl
@[simp] theorem setOutHead_web (t : Transit) : (setOutHead t s).web = s.web := rfl
@[simp] theorem setOutHead_dryer (t : Transit) : (setOutHead t s).dryer = s.dryer := rfl
@[simp] theorem setOutHead_cmds (t : Transit) : (setOutHead t s).cmds = s.cmds := rfl
@[simp] theorem setOutHead_log (t : Transit) : (setOutHead t s).log = s.log := rfl
@[simp] theorem setOutHead_agent (t : Transit) : (setOutHead t s).agent = s.agent := rfl

/-! ### setBackHead -/

@[simp] theorem setBackHead_pending (t : Transit) : (setBackHead t s).pending = s.pending := rfl
@[simp] theorem setBackHead_now (t : Transit) : (setBackHead t s).now = s.now := rfl
@[simp] theorem setBackHead_choices (t : Transit) : (setBackHead t s).choices = s.choices := rfl
@[simp] theorem setBackHead_phase (t : Transit) : (setBackHead t s).phase = s.phase := rfl
@[simp] theorem setBackHead_pins (t : Transit) : (setBackHead t s).pins = s.pins := rfl
@[simp] theorem setBackHead_line (t : Transit) :
    (setBackHead t s).line = { s.line with backStore := t :: s.line.backStore.tail } := rfl
@[simp] theorem setBackHead_comm (t : Transit) : (setBackHead t s).comm = s.comm := rfl
@[simp] theorem setBackHead_board (t : Transit) : (setBackHead t s).board = s.board := rfl
@[simp] theorem setBackHead_banks (t : Transit) : (setBackHead t s).banks = s.banks := rfl
@[simp] theorem setBackHead_sched (t : Transit) : (setBackHead t s).sched = s.sched := rfl
@[simp] theorem setBackHead_solv (t : Transit) : (setBackHead t s).solv = s.solv := rfl
@[simp] theorem setBackHead_web (t : Transit) : (setBackHead t s).web = s.web := rfl
@[simp] theorem setBackHead_dryer (t : Transit) : (setBackHead t s).dryer = s.dryer := rfl
@[simp] theorem setBackHead_cmds (t : Transit) : (setBackHead t s).cmds = s.cmds := rfl
@[simp] theorem setBackHead_log (t : Transit) : (setBackHead t s).log = s.log := rfl
@[simp] theorem setBackHead_agent (t : Transit) : (setBackHead t s).agent = s.agent := rfl

/-! ### startSilence -/

@[simp] theorem startSilence_pending : (startSilence s).pending = s.pending := rfl
@[simp] theorem startSilence_now : (startSilence s).now = s.now := rfl
@[simp] theorem startSilence_choices : (startSilence s).choices = s.choices := rfl
@[simp] theorem startSilence_phase : (startSilence s).phase = s.phase := rfl
@[simp] theorem startSilence_pins : (startSilence s).pins = s.pins := rfl
@[simp] theorem startSilence_line :
    (startSilence s).line = { s.line with silence := some (s.after s.silenceLimit) } := rfl
@[simp] theorem startSilence_comm : (startSilence s).comm = s.comm := rfl
@[simp] theorem startSilence_board : (startSilence s).board = s.board := rfl
@[simp] theorem startSilence_banks : (startSilence s).banks = s.banks := rfl
@[simp] theorem startSilence_sched : (startSilence s).sched = s.sched := rfl
@[simp] theorem startSilence_solv : (startSilence s).solv = s.solv := rfl
@[simp] theorem startSilence_web : (startSilence s).web = s.web := rfl
@[simp] theorem startSilence_dryer : (startSilence s).dryer = s.dryer := rfl
@[simp] theorem startSilence_cmds : (startSilence s).cmds = s.cmds := rfl
@[simp] theorem startSilence_log : (startSilence s).log = s.log := rfl
@[simp] theorem startSilence_agent : (startSilence s).agent = s.agent := rfl

/-! ### measureInterval -/

@[simp] theorem measureInterval_pending (reg : Bool) (c : Option CycleNo) : (measureInterval reg c s).pending = s.pending := rfl
@[simp] theorem measureInterval_now (reg : Bool) (c : Option CycleNo) : (measureInterval reg c s).now = s.now := rfl
@[simp] theorem measureInterval_choices (reg : Bool) (c : Option CycleNo) : (measureInterval reg c s).choices = s.choices := rfl
@[simp] theorem measureInterval_phase (reg : Bool) (c : Option CycleNo) : (measureInterval reg c s).phase = s.phase := rfl
@[simp] theorem measureInterval_pins (reg : Bool) (c : Option CycleNo) : (measureInterval reg c s).pins = s.pins := rfl
@[simp] theorem measureInterval_comm (reg : Bool) (c : Option CycleNo) : (measureInterval reg c s).comm = s.comm := rfl
@[simp] theorem measureInterval_board (reg : Bool) (c : Option CycleNo) : (measureInterval reg c s).board = s.board := rfl
@[simp] theorem measureInterval_banks (reg : Bool) (c : Option CycleNo) : (measureInterval reg c s).banks = s.banks := rfl
@[simp] theorem measureInterval_sched (reg : Bool) (c : Option CycleNo) : (measureInterval reg c s).sched = s.sched := rfl
@[simp] theorem measureInterval_solv (reg : Bool) (c : Option CycleNo) : (measureInterval reg c s).solv = s.solv := rfl
@[simp] theorem measureInterval_web (reg : Bool) (c : Option CycleNo) : (measureInterval reg c s).web = s.web := rfl
@[simp] theorem measureInterval_dryer (reg : Bool) (c : Option CycleNo) : (measureInterval reg c s).dryer = s.dryer := rfl
@[simp] theorem measureInterval_cmds (reg : Bool) (c : Option CycleNo) : (measureInterval reg c s).cmds = s.cmds := rfl
@[simp] theorem measureInterval_log (reg : Bool) (c : Option CycleNo) : (measureInterval reg c s).log = s.log := rfl
@[simp] theorem measureInterval_agent (reg : Bool) (c : Option CycleNo) : (measureInterval reg c s).agent = s.agent := rfl

/-! ### shutWindow -/

@[simp] theorem shutWindow_pending : (shutWindow s).pending = s.pending := rfl
@[simp] theorem shutWindow_now : (shutWindow s).now = s.now := rfl
@[simp] theorem shutWindow_choices : (shutWindow s).choices = s.choices := rfl
@[simp] theorem shutWindow_phase : (shutWindow s).phase = s.phase := rfl
@[simp] theorem shutWindow_pins : (shutWindow s).pins = s.pins := rfl
@[simp] theorem shutWindow_line : (shutWindow s).line = s.line := rfl
@[simp] theorem shutWindow_comm : (shutWindow s).comm = s.comm := rfl
@[simp] theorem shutWindow_board : (shutWindow s).board = s.board := rfl
@[simp] theorem shutWindow_banks : (shutWindow s).banks = s.banks := rfl
@[simp] theorem shutWindow_sched : (shutWindow s).sched = s.sched := rfl
@[simp] theorem shutWindow_solv : (shutWindow s).solv = s.solv := rfl
@[simp] theorem shutWindow_web : (shutWindow s).web = s.web := rfl
@[simp] theorem shutWindow_dryer : (shutWindow s).dryer = s.dryer := rfl
@[simp] theorem shutWindow_cmds : (shutWindow s).cmds = s.cmds := rfl
@[simp] theorem shutWindow_log : (shutWindow s).log = s.log := rfl
@[simp] theorem shutWindow_agent : (shutWindow s).agent = { s.agent with window := none } := rfl

/-! ### reply -/

@[simp] theorem reply_pending (r : Reply) : (reply r s).pending = s.pending := rfl
@[simp] theorem reply_now (r : Reply) : (reply r s).now = s.now := rfl
@[simp] theorem reply_choices (r : Reply) : (reply r s).choices = s.choices := rfl
@[simp] theorem reply_phase (r : Reply) : (reply r s).phase = s.phase := rfl
@[simp] theorem reply_pins (r : Reply) : (reply r s).pins = s.pins := rfl
@[simp] theorem reply_line (r : Reply) : (reply r s).line = s.line := rfl
@[simp] theorem reply_comm (r : Reply) : (reply r s).comm = s.comm := rfl
@[simp] theorem reply_board (r : Reply) : (reply r s).board = s.board := rfl
@[simp] theorem reply_banks (r : Reply) : (reply r s).banks = s.banks := rfl
@[simp] theorem reply_sched (r : Reply) : (reply r s).sched = s.sched := rfl
@[simp] theorem reply_solv (r : Reply) : (reply r s).solv = s.solv := rfl
@[simp] theorem reply_web (r : Reply) : (reply r s).web = s.web := rfl
@[simp] theorem reply_dryer (r : Reply) : (reply r s).dryer = s.dryer := rfl
@[simp] theorem reply_cmds (r : Reply) : (reply r s).cmds = s.cmds := rfl
@[simp] theorem reply_log (r : Reply) : (reply r s).log = s.log := rfl
@[simp] theorem reply_agent (r : Reply) :
    (reply r s).agent = { s.agent with places := answerHead r s.agent.places } := rfl

/-! ### startCheck -/

@[simp] theorem startCheck_pending (b : BankNo) : (startCheck b s).pending = s.pending := rfl
@[simp] theorem startCheck_now (b : BankNo) : (startCheck b s).now = s.now := rfl
@[simp] theorem startCheck_choices (b : BankNo) : (startCheck b s).choices = s.choices := rfl
@[simp] theorem startCheck_phase (b : BankNo) : (startCheck b s).phase = s.phase := rfl
@[simp] theorem startCheck_pins (b : BankNo) : (startCheck b s).pins = s.pins := rfl
@[simp] theorem startCheck_line (b : BankNo) : (startCheck b s).line = s.line := rfl
@[simp] theorem startCheck_comm (b : BankNo) : (startCheck b s).comm = s.comm := rfl
@[simp] theorem startCheck_board (b : BankNo) : (startCheck b s).board = s.board := rfl
@[simp] theorem startCheck_banks (b : BankNo) :
    (startCheck b s).banks = setBankState s.banks b (.checking s.zoneCount s.circuitCount) := rfl
@[simp] theorem startCheck_sched (b : BankNo) : (startCheck b s).sched = s.sched := rfl
@[simp] theorem startCheck_solv (b : BankNo) : (startCheck b s).solv = s.solv := rfl
@[simp] theorem startCheck_web (b : BankNo) : (startCheck b s).web = s.web := rfl
@[simp] theorem startCheck_dryer (b : BankNo) : (startCheck b s).dryer = s.dryer := rfl
@[simp] theorem startCheck_cmds (b : BankNo) : (startCheck b s).cmds = s.cmds := rfl
@[simp] theorem startCheck_log (b : BankNo) : (startCheck b s).log = s.log := rfl
@[simp] theorem startCheck_agent (b : BankNo) :
    (startCheck b s).agent = { s.agent with checking := some b } := rfl

/-! ### enqueue -/

@[simp] theorem enqueue_pending (b : BankNo) (m : PendingMode) : (enqueue b m s).pending = s.pending := rfl
@[simp] theorem enqueue_now (b : BankNo) (m : PendingMode) : (enqueue b m s).now = s.now := rfl
@[simp] theorem enqueue_choices (b : BankNo) (m : PendingMode) : (enqueue b m s).choices = s.choices := rfl
@[simp] theorem enqueue_phase (b : BankNo) (m : PendingMode) : (enqueue b m s).phase = s.phase := rfl
@[simp] theorem enqueue_pins (b : BankNo) (m : PendingMode) : (enqueue b m s).pins = s.pins := rfl
@[simp] theorem enqueue_line (b : BankNo) (m : PendingMode) : (enqueue b m s).line = s.line := rfl
@[simp] theorem enqueue_comm (b : BankNo) (m : PendingMode) : (enqueue b m s).comm = s.comm := rfl
@[simp] theorem enqueue_board (b : BankNo) (m : PendingMode) : (enqueue b m s).board = s.board := rfl
@[simp] theorem enqueue_banks (b : BankNo) (m : PendingMode) :
    (enqueue b m s).banks = setBankState s.banks b (.pending m) := rfl
@[simp] theorem enqueue_sched (b : BankNo) (m : PendingMode) : (enqueue b m s).sched = s.sched := rfl
@[simp] theorem enqueue_solv (b : BankNo) (m : PendingMode) : (enqueue b m s).solv = s.solv := rfl
@[simp] theorem enqueue_web (b : BankNo) (m : PendingMode) : (enqueue b m s).web = s.web := rfl
@[simp] theorem enqueue_dryer (b : BankNo) (m : PendingMode) : (enqueue b m s).dryer = s.dryer := rfl
@[simp] theorem enqueue_cmds (b : BankNo) (m : PendingMode) : (enqueue b m s).cmds = s.cmds := rfl
@[simp] theorem enqueue_log (b : BankNo) (m : PendingMode) : (enqueue b m s).log = s.log := rfl
@[simp] theorem enqueue_agent (b : BankNo) (m : PendingMode) : (enqueue b m s).agent = s.agent := rfl

/-! ### editBank -/

@[simp] theorem editBank_pending (b : BankNo) (x : Recipe) : (editBank b x s).pending = s.pending := rfl
@[simp] theorem editBank_now (b : BankNo) (x : Recipe) : (editBank b x s).now = s.now := rfl
@[simp] theorem editBank_choices (b : BankNo) (x : Recipe) : (editBank b x s).choices = s.choices := rfl
@[simp] theorem editBank_phase (b : BankNo) (x : Recipe) : (editBank b x s).phase = s.phase := rfl
@[simp] theorem editBank_pins (b : BankNo) (x : Recipe) : (editBank b x s).pins = s.pins := rfl
@[simp] theorem editBank_line (b : BankNo) (x : Recipe) : (editBank b x s).line = s.line := rfl
@[simp] theorem editBank_comm (b : BankNo) (x : Recipe) : (editBank b x s).comm = s.comm := rfl
@[simp] theorem editBank_board (b : BankNo) (x : Recipe) : (editBank b x s).board = s.board := rfl
@[simp] theorem editBank_banks (b : BankNo) (x : Recipe) :
    (editBank b x s).banks = s.banks.set b { s.banks.get b with state := .editing, recipe := x } := rfl
@[simp] theorem editBank_sched (b : BankNo) (x : Recipe) : (editBank b x s).sched = s.sched := rfl
@[simp] theorem editBank_solv (b : BankNo) (x : Recipe) : (editBank b x s).solv = s.solv := rfl
@[simp] theorem editBank_web (b : BankNo) (x : Recipe) : (editBank b x s).web = s.web := rfl
@[simp] theorem editBank_dryer (b : BankNo) (x : Recipe) : (editBank b x s).dryer = s.dryer := rfl
@[simp] theorem editBank_cmds (b : BankNo) (x : Recipe) : (editBank b x s).cmds = s.cmds := rfl
@[simp] theorem editBank_log (b : BankNo) (x : Recipe) : (editBank b x s).log = s.log := rfl
@[simp] theorem editBank_agent (b : BankNo) (x : Recipe) : (editBank b x s).agent = s.agent := rfl

/-! ### setReleased -/

@[simp] theorem setReleased_pending (r : Role) (b : Bool) : (setReleased r b s).pending = s.pending := rfl
@[simp] theorem setReleased_now (r : Role) (b : Bool) : (setReleased r b s).now = s.now := rfl
@[simp] theorem setReleased_choices (r : Role) (b : Bool) : (setReleased r b s).choices = s.choices := rfl
@[simp] theorem setReleased_phase (r : Role) (b : Bool) : (setReleased r b s).phase = s.phase := rfl
@[simp] theorem setReleased_pins (r : Role) (b : Bool) : (setReleased r b s).pins = s.pins := rfl
@[simp] theorem setReleased_line (r : Role) (b : Bool) : (setReleased r b s).line = s.line := rfl
@[simp] theorem setReleased_comm (r : Role) (b : Bool) : (setReleased r b s).comm = s.comm := rfl
@[simp] theorem setReleased_board (r : Role) (b : Bool) : (setReleased r b s).board = s.board := rfl
@[simp] theorem setReleased_banks (r : Role) (b : Bool) : (setReleased r b s).banks = s.banks := rfl
@[simp] theorem setReleased_sched (r : Role) (b : Bool) : (setReleased r b s).sched = s.sched := rfl
@[simp] theorem setReleased_solv (r : Role) (b : Bool) : (setReleased r b s).solv = s.solv := rfl
@[simp] theorem setReleased_web (r : Role) (b : Bool) : (setReleased r b s).web = s.web := rfl
@[simp] theorem setReleased_dryer (r : Role) (b : Bool) : (setReleased r b s).dryer = s.dryer := rfl
@[simp] theorem setReleased_cmds (r : Role) (b : Bool) :
    (setReleased r b s).cmds = { s.cmds with entries := updateKey r (fun e => { e with released := b }) s.cmds.entries } := rfl
@[simp] theorem setReleased_log (r : Role) (b : Bool) : (setReleased r b s).log = s.log := rfl
@[simp] theorem setReleased_agent (r : Role) (b : Bool) : (setReleased r b s).agent = s.agent := rfl

/-! ### startSchedule -/

@[simp] theorem startSchedule_pending (r : Refresh) : (startSchedule r s).pending = s.pending := rfl
@[simp] theorem startSchedule_now (r : Refresh) : (startSchedule r s).now = s.now := rfl
@[simp] theorem startSchedule_choices (r : Refresh) : (startSchedule r s).choices = s.choices := rfl
@[simp] theorem startSchedule_phase (r : Refresh) : (startSchedule r s).phase = s.phase := rfl
@[simp] theorem startSchedule_pins (r : Refresh) : (startSchedule r s).pins = s.pins := rfl
@[simp] theorem startSchedule_line (r : Refresh) : (startSchedule r s).line = s.line := rfl
@[simp] theorem startSchedule_comm (r : Refresh) : (startSchedule r s).comm = s.comm := rfl
@[simp] theorem startSchedule_board (r : Refresh) : (startSchedule r s).board = s.board := rfl
@[simp] theorem startSchedule_banks (r : Refresh) : (startSchedule r s).banks = s.banks := rfl
@[simp] theorem startSchedule_sched (r : Refresh) :
    (startSchedule r s).sched = { s.sched with job := (activeBank s.banks).map fun b => schedInputs b r s } := rfl
@[simp] theorem startSchedule_solv (r : Refresh) : (startSchedule r s).solv = s.solv := rfl
@[simp] theorem startSchedule_web (r : Refresh) : (startSchedule r s).web = s.web := rfl
@[simp] theorem startSchedule_dryer (r : Refresh) : (startSchedule r s).dryer = s.dryer := rfl
@[simp] theorem startSchedule_cmds (r : Refresh) : (startSchedule r s).cmds = s.cmds := rfl
@[simp] theorem startSchedule_log (r : Refresh) : (startSchedule r s).log = s.log := rfl
@[simp] theorem startSchedule_agent (r : Refresh) : (startSchedule r s).agent = s.agent := rfl

/-! ### withdrawSchedule -/

@[simp] theorem withdrawSchedule_pending : (withdrawSchedule s).pending = s.pending := rfl
@[simp] theorem withdrawSchedule_now : (withdrawSchedule s).now = s.now := rfl
@[simp] theorem withdrawSchedule_choices : (withdrawSchedule s).choices = s.choices := rfl
@[simp] theorem withdrawSchedule_phase : (withdrawSchedule s).phase = s.phase := rfl
@[simp] theorem withdrawSchedule_pins : (withdrawSchedule s).pins = s.pins := rfl
@[simp] theorem withdrawSchedule_line : (withdrawSchedule s).line = s.line := rfl
@[simp] theorem withdrawSchedule_comm : (withdrawSchedule s).comm = s.comm := rfl
@[simp] theorem withdrawSchedule_board : (withdrawSchedule s).board = s.board := rfl
@[simp] theorem withdrawSchedule_banks : (withdrawSchedule s).banks = s.banks := rfl
@[simp] theorem withdrawSchedule_sched : (withdrawSchedule s).sched = SchedUnit.afterReset := rfl
@[simp] theorem withdrawSchedule_solv : (withdrawSchedule s).solv = s.solv := rfl
@[simp] theorem withdrawSchedule_web : (withdrawSchedule s).web = s.web := rfl
@[simp] theorem withdrawSchedule_dryer : (withdrawSchedule s).dryer = s.dryer := rfl
@[simp] theorem withdrawSchedule_cmds : (withdrawSchedule s).cmds = s.cmds := rfl
@[simp] theorem withdrawSchedule_log : (withdrawSchedule s).log = s.log := rfl
@[simp] theorem withdrawSchedule_agent : (withdrawSchedule s).agent = s.agent := rfl

/-! ### withdrawSolvent -/

@[simp] theorem withdrawSolvent_pending : (withdrawSolvent s).pending = s.pending := rfl
@[simp] theorem withdrawSolvent_now : (withdrawSolvent s).now = s.now := rfl
@[simp] theorem withdrawSolvent_choices : (withdrawSolvent s).choices = s.choices := rfl
@[simp] theorem withdrawSolvent_phase : (withdrawSolvent s).phase = s.phase := rfl
@[simp] theorem withdrawSolvent_pins : (withdrawSolvent s).pins = s.pins := rfl
@[simp] theorem withdrawSolvent_line : (withdrawSolvent s).line = s.line := rfl
@[simp] theorem withdrawSolvent_comm : (withdrawSolvent s).comm = s.comm := rfl
@[simp] theorem withdrawSolvent_board : (withdrawSolvent s).board = s.board := rfl
@[simp] theorem withdrawSolvent_banks : (withdrawSolvent s).banks = s.banks := rfl
@[simp] theorem withdrawSolvent_sched : (withdrawSolvent s).sched = s.sched := rfl
@[simp] theorem withdrawSolvent_web : (withdrawSolvent s).web = s.web := rfl
@[simp] theorem withdrawSolvent_dryer : (withdrawSolvent s).dryer = s.dryer := rfl
@[simp] theorem withdrawSolvent_cmds : (withdrawSolvent s).cmds = s.cmds := rfl
@[simp] theorem withdrawSolvent_log : (withdrawSolvent s).log = s.log := rfl
@[simp] theorem withdrawSolvent_agent : (withdrawSolvent s).agent = s.agent := rfl

/-! ### formParams -/

@[simp] theorem formParams_pending : (formParams s).pending = s.pending := rfl
@[simp] theorem formParams_now : (formParams s).now = s.now := rfl
@[simp] theorem formParams_choices : (formParams s).choices = s.choices := rfl
@[simp] theorem formParams_phase : (formParams s).phase = s.phase := rfl
@[simp] theorem formParams_pins : (formParams s).pins = s.pins := rfl
@[simp] theorem formParams_line : (formParams s).line = s.line := rfl
@[simp] theorem formParams_comm : (formParams s).comm = s.comm := rfl
@[simp] theorem formParams_board : (formParams s).board = s.board := rfl
@[simp] theorem formParams_banks : (formParams s).banks = s.banks := rfl
@[simp] theorem formParams_sched : (formParams s).sched = s.sched := rfl
@[simp] theorem formParams_solv :
    (formParams s).solv = { s.solv with eff := s.scalars?.map fun c => effectiveParams c s.agent.overrides s.board.mode } := rfl
@[simp] theorem formParams_web : (formParams s).web = s.web := rfl
@[simp] theorem formParams_dryer : (formParams s).dryer = s.dryer := rfl
@[simp] theorem formParams_cmds : (formParams s).cmds = s.cmds := rfl
@[simp] theorem formParams_log : (formParams s).log = s.log := rfl
@[simp] theorem formParams_agent : (formParams s).agent = s.agent := rfl

/-! ### startStore -/

@[simp] theorem startStore_pending : (startStore s).pending = s.pending := rfl
@[simp] theorem startStore_now : (startStore s).now = s.now := rfl
@[simp] theorem startStore_choices : (startStore s).choices = s.choices := rfl
@[simp] theorem startStore_phase : (startStore s).phase = s.phase := rfl
@[simp] theorem startStore_pins : (startStore s).pins = s.pins := rfl
@[simp] theorem startStore_line : (startStore s).line = s.line := rfl
@[simp] theorem startStore_comm : (startStore s).comm = { s.comm with stored := none } := rfl
@[simp] theorem startStore_board : (startStore s).board = s.board := rfl
@[simp] theorem startStore_banks : (startStore s).banks = s.banks := rfl
@[simp] theorem startStore_sched : (startStore s).sched = s.sched := rfl
@[simp] theorem startStore_solv : (startStore s).solv = s.solv := rfl
@[simp] theorem startStore_web : (startStore s).web = s.web := rfl
@[simp] theorem startStore_dryer : (startStore s).dryer = s.dryer := rfl
@[simp] theorem startStore_cmds : (startStore s).cmds = s.cmds := rfl
@[simp] theorem startStore_log : (startStore s).log = s.log := rfl
@[simp] theorem startStore_agent : (startStore s).agent = { s.agent with storeRunning := true } := rfl

/-! ### flamesAtStore -/

@[simp] theorem flamesAtStore_pending : (flamesAtStore s).pending = s.pending := rfl
@[simp] theorem flamesAtStore_now : (flamesAtStore s).now = s.now := rfl
@[simp] theorem flamesAtStore_choices : (flamesAtStore s).choices = s.choices := rfl
@[simp] theorem flamesAtStore_phase : (flamesAtStore s).phase = s.phase := rfl
@[simp] theorem flamesAtStore_pins : (flamesAtStore s).pins = s.pins := rfl
@[simp] theorem flamesAtStore_line : (flamesAtStore s).line = s.line := rfl
@[simp] theorem flamesAtStore_comm : (flamesAtStore s).comm = s.comm := rfl
@[simp] theorem flamesAtStore_board : (flamesAtStore s).board = s.board := rfl
@[simp] theorem flamesAtStore_banks : (flamesAtStore s).banks = s.banks := rfl
@[simp] theorem flamesAtStore_sched : (flamesAtStore s).sched = s.sched := rfl
@[simp] theorem flamesAtStore_solv : (flamesAtStore s).solv = s.solv := rfl
@[simp] theorem flamesAtStore_web : (flamesAtStore s).web = s.web := rfl
@[simp] theorem flamesAtStore_cmds : (flamesAtStore s).cmds = s.cmds := rfl
@[simp] theorem flamesAtStore_log : (flamesAtStore s).log = s.log := rfl
@[simp] theorem flamesAtStore_agent : (flamesAtStore s).agent = s.agent := rfl

/-! ### boardAtStore -/

@[simp] theorem boardAtStore_pending : (boardAtStore s).pending = s.pending := rfl
@[simp] theorem boardAtStore_now : (boardAtStore s).now = s.now := rfl
@[simp] theorem boardAtStore_choices : (boardAtStore s).choices = s.choices := rfl
@[simp] theorem boardAtStore_phase : (boardAtStore s).phase = s.phase := rfl
@[simp] theorem boardAtStore_pins : (boardAtStore s).pins = s.pins := rfl
@[simp] theorem boardAtStore_line : (boardAtStore s).line = s.line := rfl
@[simp] theorem boardAtStore_comm : (boardAtStore s).comm = s.comm := rfl
@[simp] theorem boardAtStore_board :
    (boardAtStore s).board = { s.board with records := rebuildRecords s.map s.board.records } := rfl
@[simp] theorem boardAtStore_banks : (boardAtStore s).banks = s.banks := rfl
@[simp] theorem boardAtStore_sched : (boardAtStore s).sched = s.sched := rfl
@[simp] theorem boardAtStore_solv : (boardAtStore s).solv = s.solv := rfl
@[simp] theorem boardAtStore_web : (boardAtStore s).web = s.web := rfl
@[simp] theorem boardAtStore_dryer : (boardAtStore s).dryer = s.dryer := rfl
@[simp] theorem boardAtStore_cmds : (boardAtStore s).cmds = s.cmds := rfl
@[simp] theorem boardAtStore_log : (boardAtStore s).log = s.log := rfl
@[simp] theorem boardAtStore_agent : (boardAtStore s).agent = s.agent := rfl

/-! ### takeSamples -/

@[simp] theorem takeSamples_pending (r : Refresh) : (takeSamples r s).pending = s.pending := rfl
@[simp] theorem takeSamples_now (r : Refresh) : (takeSamples r s).now = s.now := rfl
@[simp] theorem takeSamples_choices (r : Refresh) : (takeSamples r s).choices = s.choices := rfl
@[simp] theorem takeSamples_phase (r : Refresh) : (takeSamples r s).phase = s.phase := rfl
@[simp] theorem takeSamples_pins (r : Refresh) : (takeSamples r s).pins = s.pins := rfl
@[simp] theorem takeSamples_line (r : Refresh) : (takeSamples r s).line = s.line := rfl
@[simp] theorem takeSamples_comm (r : Refresh) : (takeSamples r s).comm = s.comm := rfl
@[simp] theorem takeSamples_banks (r : Refresh) : (takeSamples r s).banks = s.banks := rfl
@[simp] theorem takeSamples_sched (r : Refresh) : (takeSamples r s).sched = s.sched := rfl
@[simp] theorem takeSamples_solv (r : Refresh) : (takeSamples r s).solv = s.solv := rfl
@[simp] theorem takeSamples_web (r : Refresh) : (takeSamples r s).web = s.web := rfl
@[simp] theorem takeSamples_dryer (r : Refresh) : (takeSamples r s).dryer = s.dryer := rfl
@[simp] theorem takeSamples_cmds (r : Refresh) :
    (takeSamples r s).cmds = { s.cmds with kept := keptAfter s r } := rfl
@[simp] theorem takeSamples_log (r : Refresh) : (takeSamples r s).log = s.log := rfl
@[simp] theorem takeSamples_agent (r : Refresh) : (takeSamples r s).agent = s.agent := rfl

/-! ### loadHolds -/

@[simp] theorem loadHolds_pending (r : Refresh) : (loadHolds r s).pending = s.pending := rfl
@[simp] theorem loadHolds_now (r : Refresh) : (loadHolds r s).now = s.now := rfl
@[simp] theorem loadHolds_choices (r : Refresh) : (loadHolds r s).choices = s.choices := rfl
@[simp] theorem loadHolds_phase (r : Refresh) : (loadHolds r s).phase = s.phase := rfl
@[simp] theorem loadHolds_pins (r : Refresh) : (loadHolds r s).pins = s.pins := rfl
@[simp] theorem loadHolds_line (r : Refresh) : (loadHolds r s).line = s.line := rfl
@[simp] theorem loadHolds_comm (r : Refresh) : (loadHolds r s).comm = s.comm := rfl
@[simp] theorem loadHolds_board (r : Refresh) : (loadHolds r s).board = s.board := rfl
@[simp] theorem loadHolds_banks (r : Refresh) : (loadHolds r s).banks = s.banks := rfl
@[simp] theorem loadHolds_sched (r : Refresh) : (loadHolds r s).sched = s.sched := rfl
@[simp] theorem loadHolds_solv (r : Refresh) : (loadHolds r s).solv = s.solv := rfl
@[simp] theorem loadHolds_web (r : Refresh) : (loadHolds r s).web = s.web := rfl
@[simp] theorem loadHolds_dryer (r : Refresh) : (loadHolds r s).dryer = s.dryer := rfl
@[simp] theorem loadHolds_log (r : Refresh) : (loadHolds r s).log = s.log := rfl
@[simp] theorem loadHolds_agent (r : Refresh) : (loadHolds r s).agent = s.agent := rfl

/-! ### exhaustResponsiveReport -/

@[simp] theorem exhaustResponsiveReport_pending : (exhaustResponsiveReport s).pending = s.pending := rfl
@[simp] theorem exhaustResponsiveReport_now : (exhaustResponsiveReport s).now = s.now := rfl
@[simp] theorem exhaustResponsiveReport_choices : (exhaustResponsiveReport s).choices = s.choices := rfl
@[simp] theorem exhaustResponsiveReport_phase : (exhaustResponsiveReport s).phase = s.phase := rfl
@[simp] theorem exhaustResponsiveReport_pins : (exhaustResponsiveReport s).pins = s.pins := rfl
@[simp] theorem exhaustResponsiveReport_line : (exhaustResponsiveReport s).line = s.line := rfl
@[simp] theorem exhaustResponsiveReport_comm : (exhaustResponsiveReport s).comm = s.comm := rfl
@[simp] theorem exhaustResponsiveReport_board : (exhaustResponsiveReport s).board = s.board := rfl
@[simp] theorem exhaustResponsiveReport_banks : (exhaustResponsiveReport s).banks = s.banks := rfl
@[simp] theorem exhaustResponsiveReport_sched : (exhaustResponsiveReport s).sched = s.sched := rfl
@[simp] theorem exhaustResponsiveReport_solv : (exhaustResponsiveReport s).solv = s.solv := rfl
@[simp] theorem exhaustResponsiveReport_web : (exhaustResponsiveReport s).web = s.web := rfl
@[simp] theorem exhaustResponsiveReport_dryer :
    (exhaustResponsiveReport s).dryer = { s.dryer with exhaustUnresponsive := false } := rfl
@[simp] theorem exhaustResponsiveReport_cmds : (exhaustResponsiveReport s).cmds = s.cmds := rfl
@[simp] theorem exhaustResponsiveReport_log : (exhaustResponsiveReport s).log = s.log := rfl
@[simp] theorem exhaustResponsiveReport_agent : (exhaustResponsiveReport s).agent = s.agent := rfl

/-! ### runningEntry -/

@[simp] theorem runningEntry_pending : (runningEntry s).pending = s.pending := rfl
@[simp] theorem runningEntry_now : (runningEntry s).now = s.now := rfl
@[simp] theorem runningEntry_choices : (runningEntry s).choices = s.choices := rfl
@[simp] theorem runningEntry_phase : (runningEntry s).phase = s.phase := rfl
@[simp] theorem runningEntry_pins : (runningEntry s).pins = s.pins := rfl
@[simp] theorem runningEntry_line : (runningEntry s).line = s.line := rfl
@[simp] theorem runningEntry_comm : (runningEntry s).comm = s.comm := rfl
@[simp] theorem runningEntry_board : (runningEntry s).board = s.board := rfl
@[simp] theorem runningEntry_banks : (runningEntry s).banks = s.banks := rfl
@[simp] theorem runningEntry_sched : (runningEntry s).sched = s.sched := rfl
@[simp] theorem runningEntry_solv : (runningEntry s).solv = s.solv := rfl
@[simp] theorem runningEntry_web :
    (runningEntry s).web = { s.web with state := .running, record := none, timer := none } := rfl
@[simp] theorem runningEntry_dryer : (runningEntry s).dryer = s.dryer := rfl
@[simp] theorem runningEntry_cmds : (runningEntry s).cmds = s.cmds := rfl
@[simp] theorem runningEntry_log : (runningEntry s).log = s.log := rfl
@[simp] theorem runningEntry_agent : (runningEntry s).agent = s.agent := rfl

/-! ### resumingEntry -/

@[simp] theorem resumingEntry_pending : (resumingEntry s).pending = s.pending := rfl
@[simp] theorem resumingEntry_now : (resumingEntry s).now = s.now := rfl
@[simp] theorem resumingEntry_choices : (resumingEntry s).choices = s.choices := rfl
@[simp] theorem resumingEntry_phase : (resumingEntry s).phase = s.phase := rfl
@[simp] theorem resumingEntry_pins : (resumingEntry s).pins = s.pins := rfl
@[simp] theorem resumingEntry_line : (resumingEntry s).line = s.line := rfl
@[simp] theorem resumingEntry_comm : (resumingEntry s).comm = s.comm := rfl
@[simp] theorem resumingEntry_board : (resumingEntry s).board = s.board := rfl
@[simp] theorem resumingEntry_banks : (resumingEntry s).banks = s.banks := rfl
@[simp] theorem resumingEntry_sched : (resumingEntry s).sched = s.sched := rfl
@[simp] theorem resumingEntry_solv : (resumingEntry s).solv = s.solv := rfl
@[simp] theorem resumingEntry_web :
    (resumingEntry s).web = { s.web with state := .resuming, timer := some s.resumeTimeout } := rfl
@[simp] theorem resumingEntry_dryer : (resumingEntry s).dryer = s.dryer := rfl
@[simp] theorem resumingEntry_cmds : (resumingEntry s).cmds = s.cmds := rfl
@[simp] theorem resumingEntry_log : (resumingEntry s).log = s.log := rfl
@[simp] theorem resumingEntry_agent : (resumingEntry s).agent = s.agent := rfl

/-! ### openRelay -/

@[simp] theorem openRelay_pending : (openRelay s).pending = s.pending := rfl
@[simp] theorem openRelay_now : (openRelay s).now = s.now := rfl
@[simp] theorem openRelay_choices : (openRelay s).choices = s.choices := rfl
@[simp] theorem openRelay_phase : (openRelay s).phase = .running := rfl
@[simp] theorem openRelay_pins : (openRelay s).pins = s.pins := rfl
@[simp] theorem openRelay_comm : (openRelay s).comm = s.comm := rfl
@[simp] theorem openRelay_board : (openRelay s).board = s.board := rfl
@[simp] theorem openRelay_banks : (openRelay s).banks = s.banks := rfl
@[simp] theorem openRelay_sched : (openRelay s).sched = s.sched := rfl
@[simp] theorem openRelay_solv : (openRelay s).solv = s.solv := rfl
@[simp] theorem openRelay_web : (openRelay s).web = { s.web with reference := s.pins.breakIn } := rfl
@[simp] theorem openRelay_dryer : (openRelay s).dryer = s.dryer := rfl
@[simp] theorem openRelay_cmds : (openRelay s).cmds = s.cmds := rfl
@[simp] theorem openRelay_log : (openRelay s).log = s.log := rfl
@[simp] theorem openRelay_agent : (openRelay s).agent = s.agent := rfl

/-! ### enterReset -/

@[simp] theorem enterReset_pending (p : Phase) (c : ResetCauses) : (enterReset p c s).pending = s.pending := rfl
@[simp] theorem enterReset_now (p : Phase) (c : ResetCauses) : (enterReset p c s).now = s.now := rfl
@[simp] theorem enterReset_choices (p : Phase) (c : ResetCauses) : (enterReset p c s).choices = s.choices := rfl
@[simp] theorem enterReset_phase (p : Phase) (c : ResetCauses) : (enterReset p c s).phase = p := rfl
@[simp] theorem enterReset_pins (p : Phase) (c : ResetCauses) : (enterReset p c s).pins = s.pins := rfl
@[simp] theorem enterReset_line (p : Phase) (c : ResetCauses) : (enterReset p c s).line = LineIf.afterReset := rfl
@[simp] theorem enterReset_comm (p : Phase) (c : ResetCauses) : (enterReset p c s).comm = { State.reset.comm with stored := s.comm.stored } := rfl
@[simp] theorem enterReset_board (p : Phase) (c : ResetCauses) : (enterReset p c s).board = Board.afterReset := rfl
@[simp] theorem enterReset_banks (p : Phase) (c : ResetCauses) : (enterReset p c s).banks = Four.fill Bank.cleared := rfl
@[simp] theorem enterReset_sched (p : Phase) (c : ResetCauses) : (enterReset p c s).sched = SchedUnit.afterReset := rfl
@[simp] theorem enterReset_solv (p : Phase) (c : ResetCauses) : (enterReset p c s).solv = SolvUnit.afterReset := rfl
@[simp] theorem enterReset_web (p : Phase) (c : ResetCauses) : (enterReset p c s).web = WebSeq.afterReset := rfl
@[simp] theorem enterReset_dryer (p : Phase) (c : ResetCauses) : (enterReset p c s).dryer = DryerUnit.afterReset := rfl
@[simp] theorem enterReset_cmds (p : Phase) (c : ResetCauses) : (enterReset p c s).cmds = CmdTable.afterReset := rfl
@[simp] theorem enterReset_log (p : Phase) (c : ResetCauses) : (enterReset p c s).log = IncidentLog.afterReset := rfl
@[simp] theorem enterReset_agent (p : Phase) (c : ResetCauses) : (enterReset p c s).agent = Agent.afterReset c := rfl

/-! ### The commissioning in force after an update that leaves it -/

/-- Whatever leaves `comm` leaves the scalars in force. -/
theorem scalars_of_comm {s t : State} (h : t.comm = s.comm) : t.scalars? = s.scalars? := by
  simp [State.scalars?, h]

/-- Whatever leaves `comm` leaves the map in force. -/
theorem map_of_comm {s t : State} (h : t.comm = s.comm) : t.map = s.map := by simp [State.map, h]

/-- Whatever leaves `comm` leaves the part COMMISSIONED or not. -/
theorem commissioned_of_comm {s t : State} (h : t.comm = s.comm) : t.commissioned = s.commissioned := by
  simp [State.commissioned, h]

/-- Whatever leaves `comm` leaves the alert threshold. -/
theorem alertThreshold_of_comm {s t : State} (h : t.comm = s.comm) : t.alertThreshold = s.alertThreshold := by
  simp [State.alertThreshold, State.scalars?, h]

/-- Whatever leaves `comm` leaves the counts in force. -/
theorem counts_of_comm {s t : State} (h : t.comm = s.comm) :
    t.zoneCount = s.zoneCount ∧ t.circuitCount = s.circuitCount := by
  simp [State.zoneCount, State.circuitCount, State.scalars?, h]

/-! ### Members of four and of three -/

variable {α : Type}

@[simp] theorem Four.get_ofFn (f : Fin 4 → α) (i : Fin 4) : (Four.ofFn f).get i = f i := by
  revert i; intro i; match i with | 0 => rfl | 1 => rfl | 2 => rfl | 3 => rfl

@[simp] theorem Four.get_fill (x : α) (i : Fin 4) : (Four.fill x).get i = x := by
  match i with | 0 => rfl | 1 => rfl | 2 => rfl | 3 => rfl

@[simp] theorem Four.get_set_self (q : Four α) (i : Fin 4) (x : α) : (q.set i x).get i = x := by
  match i with | 0 => rfl | 1 => rfl | 2 => rfl | 3 => rfl

theorem Four.get_set_ne (q : Four α) {i j : Fin 4} (x : α) (h : j ≠ i) : (q.set i x).get j = q.get j := by
  match i, j with
  | 0, 0 => exact absurd rfl h | 0, 1 => rfl | 0, 2 => rfl | 0, 3 => rfl
  | 1, 0 => rfl | 1, 1 => exact absurd rfl h | 1, 2 => rfl | 1, 3 => rfl
  | 2, 0 => rfl | 2, 1 => rfl | 2, 2 => exact absurd rfl h | 2, 3 => rfl
  | 3, 0 => rfl | 3, 1 => rfl | 3, 2 => rfl | 3, 3 => exact absurd rfl h

/-- What a set member reads as. -/
theorem Four.get_set (q : Four α) (i j : Fin 4) (x : α) : (q.set i x).get j = if j = i then x else q.get j := by
  by_cases h : j = i
  · subst h; simp
  · simp [h, Four.get_set_ne q x h]

@[simp] theorem Three.get_ofFn {α : Type} (f : Fin 3 → α) (i : Fin 3) : (Three.ofFn f).get i = f i := by
  revert i; intro i; match i with | 0 => rfl | 1 => rfl | 2 => rfl

@[simp] theorem Three.get_fill {α : Type} (x : α) (i : Fin 3) : (Three.fill x).get i = x := by
  match i with | 0 => rfl | 1 => rfl | 2 => rfl

@[simp] theorem Three.get_set_self {α : Type} (q : Three α) (i : Fin 3) (x : α) : (q.set i x).get i = x := by
  match i with | 0 => rfl | 1 => rfl | 2 => rfl

theorem Three.get_set_ne {α : Type} (q : Three α) {i j : Fin 3} (x : α) (h : j ≠ i) :
    (q.set i x).get j = q.get j := by
  revert h; match i, j with
  | 0, 0 => exact fun h => (h rfl).elim | 1, 1 => exact fun h => (h rfl).elim
  | 2, 2 => exact fun h => (h rfl).elim
  | 0, 1 => exact fun _ => rfl | 0, 2 => exact fun _ => rfl | 1, 0 => exact fun _ => rfl
  | 1, 2 => exact fun _ => rfl | 2, 0 => exact fun _ => rfl | 2, 1 => exact fun _ => rfl

theorem Three.get_set {α : Type} (q : Three α) (i j : Fin 3) (x : α) :
    (q.set i x).get j = if j = i then x else q.get j := by
  by_cases h : j = i
  · subst h; simp
  · simp [h, Three.get_set_ne q x h]

/-- Four members are equal when each is. -/
theorem Four.ext_get {p q : Four α} (h : ∀ i, p.get i = q.get i) : p = q := by
  obtain ⟨a, b, c, d⟩ := p
  obtain ⟨a', b', c', d'⟩ := q
  have h0 := h 0; have h1 := h 1; have h2 := h 2; have h3 := h 3
  simp only [Four.get] at h0 h1 h2 h3
  subst h0; subst h1; subst h2; subst h3; rfl

@[simp] theorem setBankState_get (q : Four Bank) (b c : BankNo) (st : BankState) :
    ((setBankState q b st).get c).state = if c = b then st else (q.get c).state := by
  simp only [setBankState, Four.get_set]; split <;> rfl

@[simp] theorem setBankState_recipe (q : Four Bank) (b c : BankNo) (st : BankState) :
    ((setBankState q b st).get c).recipe = (q.get c).recipe := by
  simp only [setBankState, Four.get_set]; split <;> simp [*]

/-! ### writeStatus -/

@[simp] theorem writeStatus_arrived (m : List SlotEntry) (i v : Nat) (t : Transit) :
    (writeStatus m i v t).arrived = t.arrived := rfl
@[simp] theorem writeStatus_cursor (m : List SlotEntry) (i v : Nat) (t : Transit) :
    (writeStatus m i v t).cursor = i + 1 := rfl
@[simp] theorem writeStatus_captured (m : List SlotEntry) (i v : Nat) (t : Transit) :
    (writeStatus m i v t).captured = captureTo m i t := rfl

end Sys2Proof.Machine
end

