-- ==== Sys2Proof/Laws/Frames.lean ====
section
/-! SUPPORT. Frames: which parts of the state each shared operation leaves as they are. One theorem per operation,
a conjunction that `simp` uses part by part. -/

namespace Sys2Proof.Machine

variable (s : State)

/-- A fold over a list keeps what every step keeps. -/
theorem foldl_keeps {α β : Type} (f : State → α → State) (g : State → β) (h : ∀ s x, g (f s x) = g s)
    (l : List α) (s : State) : g (l.foldl f s) = g s := by
  induction l generalizing s with
  | nil => rfl
  | cons x l ih => simp [List.foldl_cons, ih, h]

@[simp] theorem judgeAlert_frame :
    (judgeAlert s).pending = s.pending ∧ (judgeAlert s).now = s.now ∧ (judgeAlert s).choices = s.choices
      ∧ (judgeAlert s).phase = s.phase ∧ (judgeAlert s).pins = s.pins ∧ (judgeAlert s).line = s.line
      ∧ (judgeAlert s).comm = s.comm ∧ (judgeAlert s).board = s.board ∧ (judgeAlert s).banks = s.banks
      ∧ (judgeAlert s).sched = s.sched ∧ (judgeAlert s).solv = s.solv ∧ (judgeAlert s).web = s.web
      ∧ (judgeAlert s).dryer = s.dryer ∧ (judgeAlert s).cmds = s.cmds ∧ (judgeAlert s).agent = s.agent := by
  unfold judgeAlert; simp only []; repeat' split
  all_goals simp

@[simp] theorem placeRecord_frame (r : Incident) :
    (placeRecord r s).pending = s.pending ∧ (placeRecord r s).now = s.now ∧ (placeRecord r s).choices = s.choices
      ∧ (placeRecord r s).phase = s.phase ∧ (placeRecord r s).pins = s.pins ∧ (placeRecord r s).line = s.line
      ∧ (placeRecord r s).comm = s.comm ∧ (placeRecord r s).board = s.board ∧ (placeRecord r s).banks = s.banks
      ∧ (placeRecord r s).sched = s.sched ∧ (placeRecord r s).solv = s.solv ∧ (placeRecord r s).web = s.web
      ∧ (placeRecord r s).dryer = s.dryer ∧ (placeRecord r s).cmds = s.cmds ∧ (placeRecord r s).agent = s.agent := by
  unfold placeRecord; repeat' split
  all_goals simp

@[simp] theorem offer_frame (c : IncidentCode) (sub : Subject) (v : IncidentValue) :
    (offer c sub v s).pending = s.pending ∧ (offer c sub v s).now = s.now
      ∧ (offer c sub v s).choices = s.choices ∧ (offer c sub v s).phase = s.phase
      ∧ (offer c sub v s).pins = s.pins ∧ (offer c sub v s).line = s.line ∧ (offer c sub v s).comm = s.comm
      ∧ (offer c sub v s).board = s.board ∧ (offer c sub v s).banks = s.banks
      ∧ (offer c sub v s).sched = s.sched ∧ (offer c sub v s).solv = s.solv ∧ (offer c sub v s).web = s.web
      ∧ (offer c sub v s).dryer = s.dryer ∧ (offer c sub v s).cmds = s.cmds
      ∧ (offer c sub v s).agent = s.agent := by
  unfold offer; split <;> simp

@[simp] theorem frameErrors_frame :
    (frameErrors s).pending = s.pending ∧ (frameErrors s).now = s.now ∧ (frameErrors s).choices = s.choices
      ∧ (frameErrors s).phase = s.phase ∧ (frameErrors s).pins = s.pins ∧ (frameErrors s).line = s.line
      ∧ (frameErrors s).comm = s.comm ∧ (frameErrors s).board = s.board ∧ (frameErrors s).banks = s.banks
      ∧ (frameErrors s).sched = s.sched ∧ (frameErrors s).solv = s.solv ∧ (frameErrors s).web = s.web
      ∧ (frameErrors s).dryer = s.dryer ∧ (frameErrors s).cmds = s.cmds ∧ (frameErrors s).agent = s.agent := by
  simp [frameErrors]

@[simp] theorem discardResume_frame (c : DiscardCause) :
    (discardResume c s).pending = s.pending ∧ (discardResume c s).now = s.now
      ∧ (discardResume c s).choices = s.choices ∧ (discardResume c s).phase = s.phase
      ∧ (discardResume c s).pins = s.pins ∧ (discardResume c s).line = s.line
      ∧ (discardResume c s).comm = s.comm ∧ (discardResume c s).board = s.board
      ∧ (discardResume c s).banks = s.banks ∧ (discardResume c s).sched = s.sched
      ∧ (discardResume c s).solv = s.solv ∧ (discardResume c s).dryer = s.dryer
      ∧ (discardResume c s).cmds = s.cmds ∧ (discardResume c s).agent = s.agent := by
  unfold discardResume; split <;> simp

@[simp] theorem notifyChangeover_frame (b : BankNo) :
    (notifyChangeover b s).pending = s.pending ∧ (notifyChangeover b s).now = s.now
      ∧ (notifyChangeover b s).choices = s.choices ∧ (notifyChangeover b s).phase = s.phase
      ∧ (notifyChangeover b s).pins = s.pins ∧ (notifyChangeover b s).line = s.line
      ∧ (notifyChangeover b s).comm = s.comm ∧ (notifyChangeover b s).board = s.board
      ∧ (notifyChangeover b s).banks = s.banks ∧ (notifyChangeover b s).sched = s.sched
      ∧ (notifyChangeover b s).solv = s.solv ∧ (notifyChangeover b s).dryer = s.dryer
      ∧ (notifyChangeover b s).cmds = s.cmds ∧ (notifyChangeover b s).agent = s.agent := by
  unfold notifyChangeover; repeat' split
  all_goals simp

@[simp] theorem changeover_frame (b : BankNo) :
    (changeover b s).pending = s.pending ∧ (changeover b s).now = s.now
      ∧ (changeover b s).choices = s.choices ∧ (changeover b s).phase = s.phase
      ∧ (changeover b s).pins = s.pins ∧ (changeover b s).line = s.line ∧ (changeover b s).comm = s.comm
      ∧ (changeover b s).board = s.board ∧ (changeover b s).sched = s.sched ∧ (changeover b s).solv = s.solv
      ∧ (changeover b s).dryer = s.dryer ∧ (changeover b s).cmds = s.cmds ∧ (changeover b s).agent = s.agent := by
  simp [changeover]

@[simp] theorem changeoverEvent_frame (m : PendingMode) :
    (changeoverEvent m s).pending = s.pending ∧ (changeoverEvent m s).now = s.now
      ∧ (changeoverEvent m s).choices = s.choices ∧ (changeoverEvent m s).phase = s.phase
      ∧ (changeoverEvent m s).pins = s.pins ∧ (changeoverEvent m s).line = s.line
      ∧ (changeoverEvent m s).comm = s.comm ∧ (changeoverEvent m s).board = s.board
      ∧ (changeoverEvent m s).sched = s.sched ∧ (changeoverEvent m s).solv = s.solv
      ∧ (changeoverEvent m s).dryer = s.dryer ∧ (changeoverEvent m s).cmds = s.cmds
      ∧ (changeoverEvent m s).agent = s.agent := by
  unfold changeoverEvent; repeat' split
  all_goals simp

@[simp] theorem setDryer_frame (d : DryerState) :
    (setDryer d s).pending = s.pending ∧ (setDryer d s).now = s.now ∧ (setDryer d s).choices = s.choices
      ∧ (setDryer d s).phase = s.phase ∧ (setDryer d s).pins = s.pins ∧ (setDryer d s).line = s.line
      ∧ (setDryer d s).comm = s.comm ∧ (setDryer d s).board = s.board ∧ (setDryer d s).banks = s.banks
      ∧ (setDryer d s).sched = s.sched ∧ (setDryer d s).solv = s.solv ∧ (setDryer d s).cmds = s.cmds
      ∧ (setDryer d s).agent = s.agent := by
  unfold setDryer; simp only []; split <;> simp

@[simp] theorem onset_frame (c : SafetyCondition) (sub : Subject) (v : Option Int) :
    (onset c sub v s).pending = s.pending ∧ (onset c sub v s).now = s.now
      ∧ (onset c sub v s).choices = s.choices ∧ (onset c sub v s).phase = s.phase
      ∧ (onset c sub v s).pins = s.pins ∧ (onset c sub v s).line = s.line ∧ (onset c sub v s).comm = s.comm
      ∧ (onset c sub v s).board = s.board ∧ (onset c sub v s).banks = s.banks
      ∧ (onset c sub v s).sched = s.sched ∧ (onset c sub v s).solv = s.solv
      ∧ (onset c sub v s).agent = s.agent := by
  unfold onset; split <;> simp

@[simp] theorem judgeSpeedLost_frame :
    (judgeSpeedLost s).pending = s.pending ∧ (judgeSpeedLost s).now = s.now
      ∧ (judgeSpeedLost s).choices = s.choices ∧ (judgeSpeedLost s).phase = s.phase
      ∧ (judgeSpeedLost s).pins = s.pins ∧ (judgeSpeedLost s).line = s.line
      ∧ (judgeSpeedLost s).comm = s.comm ∧ (judgeSpeedLost s).banks = s.banks
      ∧ (judgeSpeedLost s).sched = s.sched ∧ (judgeSpeedLost s).solv = s.solv
      ∧ (judgeSpeedLost s).web = s.web ∧ (judgeSpeedLost s).dryer = s.dryer
      ∧ (judgeSpeedLost s).cmds = s.cmds ∧ (judgeSpeedLost s).agent = s.agent := by
  unfold judgeSpeedLost; repeat' split
  all_goals simp

@[simp] theorem judgeUnmonitored_frame :
    (judgeUnmonitored s).pending = s.pending ∧ (judgeUnmonitored s).now = s.now
      ∧ (judgeUnmonitored s).choices = s.choices ∧ (judgeUnmonitored s).phase = s.phase
      ∧ (judgeUnmonitored s).pins = s.pins ∧ (judgeUnmonitored s).line = s.line
      ∧ (judgeUnmonitored s).comm = s.comm ∧ (judgeUnmonitored s).banks = s.banks
      ∧ (judgeUnmonitored s).sched = s.sched ∧ (judgeUnmonitored s).solv = s.solv
      ∧ (judgeUnmonitored s).web = s.web ∧ (judgeUnmonitored s).dryer = s.dryer
      ∧ (judgeUnmonitored s).cmds = s.cmds ∧ (judgeUnmonitored s).agent = s.agent := by
  unfold judgeUnmonitored; repeat' split
  all_goals simp

@[simp] theorem boardReaction_frame (r : Refresh) :
    (boardReaction r s).pending = s.pending ∧ (boardReaction r s).now = s.now
      ∧ (boardReaction r s).choices = s.choices ∧ (boardReaction r s).phase = s.phase
      ∧ (boardReaction r s).pins = s.pins ∧ (boardReaction r s).line = s.line
      ∧ (boardReaction r s).comm = s.comm ∧ (boardReaction r s).banks = s.banks
      ∧ (boardReaction r s).sched = s.sched ∧ (boardReaction r s).solv = s.solv
      ∧ (boardReaction r s).web = s.web ∧ (boardReaction r s).dryer = s.dryer
      ∧ (boardReaction r s).cmds = s.cmds ∧ (boardReaction r s).agent = s.agent := by
  unfold boardReaction; split <;> simp

@[simp] theorem offerSecond_frame (w : WebState) (b : BreakSource) :
    (offerSecond w b s).pending = s.pending ∧ (offerSecond w b s).now = s.now
      ∧ (offerSecond w b s).choices = s.choices ∧ (offerSecond w b s).phase = s.phase
      ∧ (offerSecond w b s).pins = s.pins ∧ (offerSecond w b s).line = s.line
      ∧ (offerSecond w b s).comm = s.comm ∧ (offerSecond w b s).board = s.board
      ∧ (offerSecond w b s).banks = s.banks ∧ (offerSecond w b s).sched = s.sched
      ∧ (offerSecond w b s).solv = s.solv ∧ (offerSecond w b s).web = s.web
      ∧ (offerSecond w b s).dryer = s.dryer ∧ (offerSecond w b s).cmds = s.cmds
      ∧ (offerSecond w b s).agent = s.agent := by
  unfold offerSecond; split <;> simp

@[simp] theorem breakEntry_frame (b : BreakSource) :
    (breakEntry b s).pending = s.pending ∧ (breakEntry b s).now = s.now
      ∧ (breakEntry b s).choices = s.choices ∧ (breakEntry b s).phase = s.phase
      ∧ (breakEntry b s).pins = s.pins ∧ (breakEntry b s).line = s.line ∧ (breakEntry b s).comm = s.comm
      ∧ (breakEntry b s).board = s.board ∧ (breakEntry b s).banks = s.banks
      ∧ (breakEntry b s).sched = s.sched ∧ (breakEntry b s).solv = s.solv ∧ (breakEntry b s).dryer = s.dryer
      ∧ (breakEntry b s).cmds = s.cmds ∧ (breakEntry b s).agent = s.agent := by
  simp [breakEntry]

@[simp] theorem stoppedEntry_frame :
    (stoppedEntry s).pending = s.pending ∧ (stoppedEntry s).now = s.now
      ∧ (stoppedEntry s).choices = s.choices ∧ (stoppedEntry s).phase = s.phase
      ∧ (stoppedEntry s).pins = s.pins ∧ (stoppedEntry s).line = s.line ∧ (stoppedEntry s).comm = s.comm
      ∧ (stoppedEntry s).board = s.board ∧ (stoppedEntry s).sched = s.sched ∧ (stoppedEntry s).solv = s.solv
      ∧ (stoppedEntry s).dryer = s.dryer ∧ (stoppedEntry s).cmds = s.cmds ∧ (stoppedEntry s).agent = s.agent := by
  simp [stoppedEntry]

@[simp] theorem resumeExpiry_frame :
    (resumeExpiry s).pending = s.pending ∧ (resumeExpiry s).now = s.now
      ∧ (resumeExpiry s).choices = s.choices ∧ (resumeExpiry s).phase = s.phase
      ∧ (resumeExpiry s).pins = s.pins ∧ (resumeExpiry s).line = s.line ∧ (resumeExpiry s).comm = s.comm
      ∧ (resumeExpiry s).board = s.board ∧ (resumeExpiry s).banks = s.banks
      ∧ (resumeExpiry s).sched = s.sched ∧ (resumeExpiry s).solv = s.solv ∧ (resumeExpiry s).dryer = s.dryer
      ∧ (resumeExpiry s).cmds = s.cmds ∧ (resumeExpiry s).agent = s.agent := by
  simp [resumeExpiry]

@[simp] theorem transition_frame (b : Option BreakSource) :
    (transition b s).pending = s.pending ∧ (transition b s).now = s.now
      ∧ (transition b s).choices = s.choices ∧ (transition b s).phase = s.phase
      ∧ (transition b s).pins = s.pins ∧ (transition b s).line = s.line ∧ (transition b s).comm = s.comm
      ∧ (transition b s).board = s.board ∧ (transition b s).sched = s.sched ∧ (transition b s).solv = s.solv
      ∧ (transition b s).dryer = s.dryer ∧ (transition b s).cmds = s.cmds ∧ (transition b s).agent = s.agent := by
  unfold transition; repeat' split
  all_goals simp

@[simp] theorem judgeWeb_frame (n : Nat) :
    (judgeWeb n s).pending = s.pending ∧ (judgeWeb n s).now = s.now ∧ (judgeWeb n s).choices = s.choices
      ∧ (judgeWeb n s).phase = s.phase ∧ (judgeWeb n s).pins = s.pins ∧ (judgeWeb n s).line = s.line
      ∧ (judgeWeb n s).comm = s.comm ∧ (judgeWeb n s).board = s.board ∧ (judgeWeb n s).sched = s.sched
      ∧ (judgeWeb n s).solv = s.solv ∧ (judgeWeb n s).dryer = s.dryer ∧ (judgeWeb n s).cmds = s.cmds
      ∧ (judgeWeb n s).agent = s.agent := by
  simp [judgeWeb]

@[simp] theorem lineReturn_frame :
    (lineReturn s).pending = s.pending ∧ (lineReturn s).now = s.now ∧ (lineReturn s).choices = s.choices
      ∧ (lineReturn s).phase = s.phase ∧ (lineReturn s).pins = s.pins ∧ (lineReturn s).line = s.line
      ∧ (lineReturn s).comm = s.comm ∧ (lineReturn s).board = s.board ∧ (lineReturn s).sched = s.sched
      ∧ (lineReturn s).solv = s.solv ∧ (lineReturn s).dryer = s.dryer ∧ (lineReturn s).cmds = s.cmds
      ∧ (lineReturn s).agent = s.agent := by
  unfold lineReturn; simp only []; split <;> simp

@[simp] theorem handSplice_frame :
    (handSplice s).pending = s.pending ∧ (handSplice s).now = s.now ∧ (handSplice s).choices = s.choices
      ∧ (handSplice s).phase = s.phase ∧ (handSplice s).pins = s.pins ∧ (handSplice s).line = s.line
      ∧ (handSplice s).comm = s.comm ∧ (handSplice s).board = s.board ∧ (handSplice s).sched = s.sched
      ∧ (handSplice s).solv = s.solv ∧ (handSplice s).dryer = s.dryer ∧ (handSplice s).cmds = s.cmds
      ∧ (handSplice s).agent = s.agent := by
  unfold handSplice; split <;> simp

@[simp] theorem webReaction_frame (r : Refresh) :
    (webReaction r s).pending = s.pending ∧ (webReaction r s).now = s.now
      ∧ (webReaction r s).choices = s.choices ∧ (webReaction r s).phase = s.phase
      ∧ (webReaction r s).pins = s.pins ∧ (webReaction r s).line = s.line ∧ (webReaction r s).comm = s.comm
      ∧ (webReaction r s).board = s.board ∧ (webReaction r s).sched = s.sched
      ∧ (webReaction r s).solv = s.solv ∧ (webReaction r s).dryer = s.dryer ∧ (webReaction r s).cmds = s.cmds
      ∧ (webReaction r s).agent = s.agent := by
  unfold webReaction; repeat' split
  all_goals simp

@[simp] theorem takeEdge_frame :
    (takeEdge s).pending = s.pending ∧ (takeEdge s).now = s.now ∧ (takeEdge s).choices = s.choices
      ∧ (takeEdge s).phase = s.phase ∧ (takeEdge s).pins = s.pins ∧ (takeEdge s).line = s.line
      ∧ (takeEdge s).comm = s.comm ∧ (takeEdge s).board = s.board ∧ (takeEdge s).banks = s.banks
      ∧ (takeEdge s).sched = s.sched ∧ (takeEdge s).solv = s.solv ∧ (takeEdge s).dryer = s.dryer
      ∧ (takeEdge s).cmds = s.cmds ∧ (takeEdge s).agent = s.agent := by
  unfold takeEdge; simp only []; split <;> simp

@[simp] theorem webAtStore_frame (o : Option Scalars) (n : Scalars) :
    (webAtStore o n s).pending = s.pending ∧ (webAtStore o n s).now = s.now
      ∧ (webAtStore o n s).choices = s.choices ∧ (webAtStore o n s).phase = s.phase
      ∧ (webAtStore o n s).pins = s.pins ∧ (webAtStore o n s).line = s.line
      ∧ (webAtStore o n s).comm = s.comm ∧ (webAtStore o n s).board = s.board
      ∧ (webAtStore o n s).banks = s.banks ∧ (webAtStore o n s).sched = s.sched
      ∧ (webAtStore o n s).solv = s.solv ∧ (webAtStore o n s).dryer = s.dryer
      ∧ (webAtStore o n s).cmds = s.cmds ∧ (webAtStore o n s).log = s.log
      ∧ (webAtStore o n s).agent = s.agent := by
  unfold webAtStore; repeat' split
  all_goals simp

@[simp] theorem clearLineSilent_frame (r : Refresh) :
    (clearLineSilent r s).pending = s.pending ∧ (clearLineSilent r s).now = s.now
      ∧ (clearLineSilent r s).choices = s.choices ∧ (clearLineSilent r s).phase = s.phase
      ∧ (clearLineSilent r s).pins = s.pins ∧ (clearLineSilent r s).line = s.line
      ∧ (clearLineSilent r s).comm = s.comm ∧ (clearLineSilent r s).board = s.board
      ∧ (clearLineSilent r s).banks = s.banks ∧ (clearLineSilent r s).sched = s.sched
      ∧ (clearLineSilent r s).solv = s.solv ∧ (clearLineSilent r s).web = s.web
      ∧ (clearLineSilent r s).cmds = s.cmds ∧ (clearLineSilent r s).log = s.log
      ∧ (clearLineSilent r s).agent = s.agent := by
  unfold clearLineSilent; split <;> simp

@[simp] theorem clearPredicted_frame :
    (clearPredicted s).pending = s.pending ∧ (clearPredicted s).now = s.now
      ∧ (clearPredicted s).choices = s.choices ∧ (clearPredicted s).phase = s.phase
      ∧ (clearPredicted s).pins = s.pins ∧ (clearPredicted s).line = s.line
      ∧ (clearPredicted s).comm = s.comm ∧ (clearPredicted s).board = s.board
      ∧ (clearPredicted s).banks = s.banks ∧ (clearPredicted s).sched = s.sched
      ∧ (clearPredicted s).solv = s.solv ∧ (clearPredicted s).web = s.web ∧ (clearPredicted s).cmds = s.cmds
      ∧ (clearPredicted s).log = s.log ∧ (clearPredicted s).agent = s.agent := by
  unfold clearPredicted; split <;> simp

@[simp] theorem judgeLelMeasured_frame :
    (judgeLelMeasured s).pending = s.pending ∧ (judgeLelMeasured s).now = s.now
      ∧ (judgeLelMeasured s).choices = s.choices ∧ (judgeLelMeasured s).phase = s.phase
      ∧ (judgeLelMeasured s).pins = s.pins ∧ (judgeLelMeasured s).line = s.line
      ∧ (judgeLelMeasured s).comm = s.comm ∧ (judgeLelMeasured s).board = s.board
      ∧ (judgeLelMeasured s).banks = s.banks ∧ (judgeLelMeasured s).sched = s.sched
      ∧ (judgeLelMeasured s).solv = s.solv ∧ (judgeLelMeasured s).agent = s.agent := by
  unfold judgeLelMeasured; repeat' split
  all_goals simp

@[simp] theorem judgeExhaustLow_frame (r : Refresh) :
    (judgeExhaustLow r s).pending = s.pending ∧ (judgeExhaustLow r s).now = s.now
      ∧ (judgeExhaustLow r s).choices = s.choices ∧ (judgeExhaustLow r s).phase = s.phase
      ∧ (judgeExhaustLow r s).pins = s.pins ∧ (judgeExhaustLow r s).line = s.line
      ∧ (judgeExhaustLow r s).comm = s.comm ∧ (judgeExhaustLow r s).board = s.board
      ∧ (judgeExhaustLow r s).banks = s.banks ∧ (judgeExhaustLow r s).sched = s.sched
      ∧ (judgeExhaustLow r s).solv = s.solv ∧ (judgeExhaustLow r s).agent = s.agent := by
  unfold judgeExhaustLow; simp only []; repeat' split
  all_goals simp

@[simp] theorem judgeFlame_frame (r : Refresh) (k : Zone) :
    (judgeFlame r s k).pending = s.pending ∧ (judgeFlame r s k).now = s.now
      ∧ (judgeFlame r s k).choices = s.choices ∧ (judgeFlame r s k).phase = s.phase
      ∧ (judgeFlame r s k).pins = s.pins ∧ (judgeFlame r s k).line = s.line
      ∧ (judgeFlame r s k).comm = s.comm ∧ (judgeFlame r s k).board = s.board
      ∧ (judgeFlame r s k).banks = s.banks ∧ (judgeFlame r s k).sched = s.sched
      ∧ (judgeFlame r s k).solv = s.solv ∧ (judgeFlame r s k).agent = s.agent := by
  unfold judgeFlame; simp only []; repeat' split
  all_goals simp

@[simp] theorem purgeDone_frame (c : Scalars) :
    (purgeDone c s).pending = s.pending ∧ (purgeDone c s).now = s.now ∧ (purgeDone c s).choices = s.choices
      ∧ (purgeDone c s).phase = s.phase ∧ (purgeDone c s).pins = s.pins ∧ (purgeDone c s).line = s.line
      ∧ (purgeDone c s).comm = s.comm ∧ (purgeDone c s).board = s.board ∧ (purgeDone c s).banks = s.banks
      ∧ (purgeDone c s).sched = s.sched ∧ (purgeDone c s).solv = s.solv ∧ (purgeDone c s).cmds = s.cmds
      ∧ (purgeDone c s).agent = s.agent := by
  simp [purgeDone]

@[simp] theorem judgePurge_frame (r : Refresh) :
    (judgePurge r s).pending = s.pending ∧ (judgePurge r s).now = s.now
      ∧ (judgePurge r s).choices = s.choices ∧ (judgePurge r s).phase = s.phase
      ∧ (judgePurge r s).pins = s.pins ∧ (judgePurge r s).line = s.line ∧ (judgePurge r s).comm = s.comm
      ∧ (judgePurge r s).board = s.board ∧ (judgePurge r s).banks = s.banks
      ∧ (judgePurge r s).sched = s.sched ∧ (judgePurge r s).solv = s.solv ∧ (judgePurge r s).cmds = s.cmds
      ∧ (judgePurge r s).agent = s.agent := by
  unfold judgePurge; simp only []; repeat' split
  all_goals simp

@[simp] theorem judgeFlameChange_frame :
    (judgeFlameChange s).pending = s.pending ∧ (judgeFlameChange s).now = s.now
      ∧ (judgeFlameChange s).choices = s.choices ∧ (judgeFlameChange s).phase = s.phase
      ∧ (judgeFlameChange s).pins = s.pins ∧ (judgeFlameChange s).line = s.line
      ∧ (judgeFlameChange s).comm = s.comm ∧ (judgeFlameChange s).board = s.board
      ∧ (judgeFlameChange s).banks = s.banks ∧ (judgeFlameChange s).sched = s.sched
      ∧ (judgeFlameChange s).solv = s.solv ∧ (judgeFlameChange s).cmds = s.cmds
      ∧ (judgeFlameChange s).agent = s.agent := by
  unfold judgeFlameChange; simp only []; repeat' split
  all_goals simp

@[simp] theorem purgeStep_frame (r : Refresh) :
    (purgeStep r s).pending = s.pending ∧ (purgeStep r s).now = s.now ∧ (purgeStep r s).choices = s.choices
      ∧ (purgeStep r s).phase = s.phase ∧ (purgeStep r s).pins = s.pins ∧ (purgeStep r s).line = s.line
      ∧ (purgeStep r s).comm = s.comm ∧ (purgeStep r s).board = s.board ∧ (purgeStep r s).banks = s.banks
      ∧ (purgeStep r s).sched = s.sched ∧ (purgeStep r s).solv = s.solv ∧ (purgeStep r s).cmds = s.cmds
      ∧ (purgeStep r s).agent = s.agent := by
  unfold purgeStep; split <;> simp

@[simp] theorem refreshConditions_frame (r : Refresh) :
    (refreshConditions r s).pending = s.pending ∧ (refreshConditions r s).now = s.now
      ∧ (refreshConditions r s).choices = s.choices ∧ (refreshConditions r s).phase = s.phase
      ∧ (refreshConditions r s).pins = s.pins ∧ (refreshConditions r s).line = s.line
      ∧ (refreshConditions r s).comm = s.comm ∧ (refreshConditions r s).board = s.board
      ∧ (refreshConditions r s).banks = s.banks ∧ (refreshConditions r s).sched = s.sched
      ∧ (refreshConditions r s).solv = s.solv ∧ (refreshConditions r s).agent = s.agent := by
  exact ⟨(foldl_keeps _ State.pending (by simp) _ _).trans (by simp),
    (foldl_keeps _ State.now (by simp) _ _).trans (by simp),
    (foldl_keeps _ State.choices (by simp) _ _).trans (by simp),
    (foldl_keeps _ State.phase (by simp) _ _).trans (by simp),
    (foldl_keeps _ State.pins (by simp) _ _).trans (by simp),
    (foldl_keeps _ State.line (by simp) _ _).trans (by simp),
    (foldl_keeps _ State.comm (by simp) _ _).trans (by simp),
    (foldl_keeps _ State.board (by simp) _ _).trans (by simp),
    (foldl_keeps _ State.banks (by simp) _ _).trans (by simp),
    (foldl_keeps _ State.sched (by simp) _ _).trans (by simp),
    (foldl_keeps _ State.solv (by simp) _ _).trans (by simp),
    (foldl_keeps _ State.agent (by simp) _ _).trans (by simp)⟩

@[simp] theorem dryerReaction_frame (r : Refresh) :
    (dryerReaction r s).pending = s.pending ∧ (dryerReaction r s).now = s.now
      ∧ (dryerReaction r s).choices = s.choices ∧ (dryerReaction r s).phase = s.phase
      ∧ (dryerReaction r s).pins = s.pins ∧ (dryerReaction r s).line = s.line
      ∧ (dryerReaction r s).comm = s.comm ∧ (dryerReaction r s).board = s.board
      ∧ (dryerReaction r s).banks = s.banks ∧ (dryerReaction r s).sched = s.sched
      ∧ (dryerReaction r s).solv = s.solv ∧ (dryerReaction r s).agent = s.agent := by
  unfold dryerReaction; split <;> simp

@[simp] theorem judgePredicted_frame (p : SolvPub) :
    (judgePredicted p s).pending = s.pending ∧ (judgePredicted p s).now = s.now
      ∧ (judgePredicted p s).choices = s.choices ∧ (judgePredicted p s).phase = s.phase
      ∧ (judgePredicted p s).pins = s.pins ∧ (judgePredicted p s).line = s.line
      ∧ (judgePredicted p s).comm = s.comm ∧ (judgePredicted p s).board = s.board
      ∧ (judgePredicted p s).banks = s.banks ∧ (judgePredicted p s).sched = s.sched
      ∧ (judgePredicted p s).solv = s.solv ∧ (judgePredicted p s).agent = s.agent := by
  unfold judgePredicted; simp only []; repeat' split
  all_goals simp

@[simp] theorem exhaustUnresponsiveReport_frame :
    (exhaustUnresponsiveReport s).pending = s.pending ∧ (exhaustUnresponsiveReport s).now = s.now
      ∧ (exhaustUnresponsiveReport s).choices = s.choices ∧ (exhaustUnresponsiveReport s).phase = s.phase
      ∧ (exhaustUnresponsiveReport s).pins = s.pins ∧ (exhaustUnresponsiveReport s).line = s.line
      ∧ (exhaustUnresponsiveReport s).comm = s.comm ∧ (exhaustUnresponsiveReport s).board = s.board
      ∧ (exhaustUnresponsiveReport s).banks = s.banks ∧ (exhaustUnresponsiveReport s).sched = s.sched
      ∧ (exhaustUnresponsiveReport s).solv = s.solv ∧ (exhaustUnresponsiveReport s).agent = s.agent := by
  unfold exhaustUnresponsiveReport; split <;> simp

@[simp] theorem silentEntry_frame :
    (silentEntry s).pending = s.pending ∧ (silentEntry s).now = s.now ∧ (silentEntry s).choices = s.choices
      ∧ (silentEntry s).phase = s.phase ∧ (silentEntry s).pins = s.pins ∧ (silentEntry s).line = s.line
      ∧ (silentEntry s).comm = s.comm ∧ (silentEntry s).board = s.board ∧ (silentEntry s).banks = s.banks
      ∧ (silentEntry s).sched = s.sched ∧ (silentEntry s).solv = s.solv ∧ (silentEntry s).agent = s.agent := by
  unfold silentEntry; simp only []; repeat' split
  all_goals simp

@[simp] theorem lateForward_frame :
    (lateForward s).pending = s.pending ∧ (lateForward s).now = s.now ∧ (lateForward s).choices = s.choices
      ∧ (lateForward s).phase = s.phase ∧ (lateForward s).pins = s.pins ∧ (lateForward s).line = s.line
      ∧ (lateForward s).comm = s.comm ∧ (lateForward s).board = s.board ∧ (lateForward s).banks = s.banks
      ∧ (lateForward s).sched = s.sched ∧ (lateForward s).solv = s.solv ∧ (lateForward s).web = s.web
      ∧ (lateForward s).dryer = s.dryer ∧ (lateForward s).agent = s.agent := by
  unfold lateForward; split <;> simp

@[simp] theorem judgeCapped_frame (o : Owner) (c v : Int) :
    (judgeCapped o c v s).pending = s.pending ∧ (judgeCapped o c v s).now = s.now
      ∧ (judgeCapped o c v s).choices = s.choices ∧ (judgeCapped o c v s).phase = s.phase
      ∧ (judgeCapped o c v s).pins = s.pins ∧ (judgeCapped o c v s).line = s.line
      ∧ (judgeCapped o c v s).comm = s.comm ∧ (judgeCapped o c v s).board = s.board
      ∧ (judgeCapped o c v s).banks = s.banks ∧ (judgeCapped o c v s).sched = s.sched
      ∧ (judgeCapped o c v s).solv = s.solv ∧ (judgeCapped o c v s).web = s.web
      ∧ (judgeCapped o c v s).dryer = s.dryer ∧ (judgeCapped o c v s).agent = s.agent := by
  unfold judgeCapped; repeat' split
  all_goals simp

@[simp] theorem forwardRole_frame (r : Role) (p : CommandParams) (e : CmdEntry) (w : Word) (c : CycleNo) :
    (forwardRole r p e w c s).pending = s.pending ∧ (forwardRole r p e w c s).now = s.now
      ∧ (forwardRole r p e w c s).choices = s.choices ∧ (forwardRole r p e w c s).phase = s.phase
      ∧ (forwardRole r p e w c s).pins = s.pins ∧ (forwardRole r p e w c s).line = s.line
      ∧ (forwardRole r p e w c s).comm = s.comm ∧ (forwardRole r p e w c s).board = s.board
      ∧ (forwardRole r p e w c s).banks = s.banks ∧ (forwardRole r p e w c s).sched = s.sched
      ∧ (forwardRole r p e w c s).solv = s.solv ∧ (forwardRole r p e w c s).web = s.web
      ∧ (forwardRole r p e w c s).dryer = s.dryer ∧ (forwardRole r p e w c s).agent = s.agent := by
  unfold forwardRole; simp only []; split <;> simp

@[simp] theorem passSlot_frame (i : Nat) (t : Transit) (x : Slot) :
    (passSlot i t x s).pending = s.pending ∧ (passSlot i t x s).now = s.now
      ∧ (passSlot i t x s).choices = s.choices ∧ (passSlot i t x s).phase = s.phase
      ∧ (passSlot i t x s).pins = s.pins ∧ (passSlot i t x s).comm = s.comm
      ∧ (passSlot i t x s).board = s.board ∧ (passSlot i t x s).banks = s.banks
      ∧ (passSlot i t x s).sched = s.sched ∧ (passSlot i t x s).solv = s.solv
      ∧ (passSlot i t x s).web = s.web ∧ (passSlot i t x s).dryer = s.dryer
      ∧ (passSlot i t x s).agent = s.agent := by
  unfold passSlot; simp only []; repeat' split
  all_goals simp

@[simp] theorem commandPassage_frame (i : Nat) :
    (commandPassage i s).pending = s.pending ∧ (commandPassage i s).now = s.now
      ∧ (commandPassage i s).choices = s.choices ∧ (commandPassage i s).phase = s.phase
      ∧ (commandPassage i s).pins = s.pins ∧ (commandPassage i s).comm = s.comm
      ∧ (commandPassage i s).board = s.board ∧ (commandPassage i s).banks = s.banks
      ∧ (commandPassage i s).sched = s.sched ∧ (commandPassage i s).solv = s.solv
      ∧ (commandPassage i s).web = s.web ∧ (commandPassage i s).dryer = s.dryer
      ∧ (commandPassage i s).agent = s.agent := by
  unfold commandPassage; repeat' split
  all_goals simp

@[simp] theorem becameUnresponsive_frame (r : Role) :
    (becameUnresponsive r s).pending = s.pending ∧ (becameUnresponsive r s).now = s.now
      ∧ (becameUnresponsive r s).choices = s.choices ∧ (becameUnresponsive r s).phase = s.phase
      ∧ (becameUnresponsive r s).pins = s.pins ∧ (becameUnresponsive r s).line = s.line
      ∧ (becameUnresponsive r s).comm = s.comm ∧ (becameUnresponsive r s).board = s.board
      ∧ (becameUnresponsive r s).banks = s.banks ∧ (becameUnresponsive r s).sched = s.sched
      ∧ (becameUnresponsive r s).solv = s.solv ∧ (becameUnresponsive r s).agent = s.agent := by
  unfold becameUnresponsive; split <;> simp

@[simp] theorem echoMatch_frame (r : Role) (e : CmdEntry) :
    (echoMatch r e s).pending = s.pending ∧ (echoMatch r e s).now = s.now
      ∧ (echoMatch r e s).choices = s.choices ∧ (echoMatch r e s).phase = s.phase
      ∧ (echoMatch r e s).pins = s.pins ∧ (echoMatch r e s).line = s.line ∧ (echoMatch r e s).comm = s.comm
      ∧ (echoMatch r e s).board = s.board ∧ (echoMatch r e s).banks = s.banks
      ∧ (echoMatch r e s).sched = s.sched ∧ (echoMatch r e s).solv = s.solv ∧ (echoMatch r e s).web = s.web
      ∧ (echoMatch r e s).log = s.log ∧ (echoMatch r e s).agent = s.agent := by
  unfold echoMatch; simp only []; split <;> simp

@[simp] theorem echoMiss_frame (n : Nat) (r : Role) (e : CmdEntry) :
    (echoMiss n r e s).pending = s.pending ∧ (echoMiss n r e s).now = s.now
      ∧ (echoMiss n r e s).choices = s.choices ∧ (echoMiss n r e s).phase = s.phase
      ∧ (echoMiss n r e s).pins = s.pins ∧ (echoMiss n r e s).line = s.line
      ∧ (echoMiss n r e s).comm = s.comm ∧ (echoMiss n r e s).board = s.board
      ∧ (echoMiss n r e s).banks = s.banks ∧ (echoMiss n r e s).sched = s.sched
      ∧ (echoMiss n r e s).solv = s.solv ∧ (echoMiss n r e s).agent = s.agent := by
  unfold echoMiss; simp only []; split <;> simp

@[simp] theorem judgeEcho_frame (c : CycleNo) (x : Role) :
    (judgeEcho c s x).pending = s.pending ∧ (judgeEcho c s x).now = s.now
      ∧ (judgeEcho c s x).choices = s.choices ∧ (judgeEcho c s x).phase = s.phase
      ∧ (judgeEcho c s x).pins = s.pins ∧ (judgeEcho c s x).line = s.line ∧ (judgeEcho c s x).comm = s.comm
      ∧ (judgeEcho c s x).board = s.board ∧ (judgeEcho c s x).banks = s.banks
      ∧ (judgeEcho c s x).sched = s.sched ∧ (judgeEcho c s x).solv = s.solv
      ∧ (judgeEcho c s x).agent = s.agent := by
  unfold judgeEcho; repeat' split
  all_goals simp

@[simp] theorem judgeEchoes_frame (r : Refresh) :
    (judgeEchoes r s).pending = s.pending ∧ (judgeEchoes r s).now = s.now
      ∧ (judgeEchoes r s).choices = s.choices ∧ (judgeEchoes r s).phase = s.phase
      ∧ (judgeEchoes r s).pins = s.pins ∧ (judgeEchoes r s).line = s.line ∧ (judgeEchoes r s).comm = s.comm
      ∧ (judgeEchoes r s).board = s.board ∧ (judgeEchoes r s).banks = s.banks
      ∧ (judgeEchoes r s).sched = s.sched ∧ (judgeEchoes r s).solv = s.solv
      ∧ (judgeEchoes r s).agent = s.agent := by
  unfold judgeEchoes; split
  · split
    · exact ⟨(foldl_keeps _ State.pending (by simp) _ _),
    (foldl_keeps _ State.now (by simp) _ _),
    (foldl_keeps _ State.choices (by simp) _ _),
    (foldl_keeps _ State.phase (by simp) _ _),
    (foldl_keeps _ State.pins (by simp) _ _),
    (foldl_keeps _ State.line (by simp) _ _),
    (foldl_keeps _ State.comm (by simp) _ _),
    (foldl_keeps _ State.board (by simp) _ _),
    (foldl_keeps _ State.banks (by simp) _ _),
    (foldl_keeps _ State.sched (by simp) _ _),
    (foldl_keeps _ State.solv (by simp) _ _),
    (foldl_keeps _ State.agent (by simp) _ _)⟩
    · simp
  · simp

@[simp] theorem commandReaction_frame (r : Refresh) :
    (commandReaction r s).pending = s.pending ∧ (commandReaction r s).now = s.now
      ∧ (commandReaction r s).choices = s.choices ∧ (commandReaction r s).phase = s.phase
      ∧ (commandReaction r s).pins = s.pins ∧ (commandReaction r s).line = s.line
      ∧ (commandReaction r s).comm = s.comm ∧ (commandReaction r s).board = s.board
      ∧ (commandReaction r s).banks = s.banks ∧ (commandReaction r s).sched = s.sched
      ∧ (commandReaction r s).solv = s.solv ∧ (commandReaction r s).agent = s.agent := by
  unfold commandReaction; split <;> simp

@[simp] theorem commandsAtStore_frame :
    (commandsAtStore s).pending = s.pending ∧ (commandsAtStore s).now = s.now
      ∧ (commandsAtStore s).choices = s.choices ∧ (commandsAtStore s).phase = s.phase
      ∧ (commandsAtStore s).pins = s.pins ∧ (commandsAtStore s).line = s.line
      ∧ (commandsAtStore s).comm = s.comm ∧ (commandsAtStore s).board = s.board
      ∧ (commandsAtStore s).banks = s.banks ∧ (commandsAtStore s).sched = s.sched
      ∧ (commandsAtStore s).solv = s.solv ∧ (commandsAtStore s).web = s.web ∧ (commandsAtStore s).log = s.log
      ∧ (commandsAtStore s).agent = s.agent := by
  unfold commandsAtStore; simp only []; split <;> simp

@[simp] theorem judgeDeviation_frame (x : Recipe) (r : Refresh) (k : Zone) :
    (judgeDeviation x r s k).pending = s.pending ∧ (judgeDeviation x r s k).now = s.now
      ∧ (judgeDeviation x r s k).choices = s.choices ∧ (judgeDeviation x r s k).phase = s.phase
      ∧ (judgeDeviation x r s k).pins = s.pins ∧ (judgeDeviation x r s k).line = s.line
      ∧ (judgeDeviation x r s k).comm = s.comm ∧ (judgeDeviation x r s k).board = s.board
      ∧ (judgeDeviation x r s k).banks = s.banks ∧ (judgeDeviation x r s k).solv = s.solv
      ∧ (judgeDeviation x r s k).web = s.web ∧ (judgeDeviation x r s k).dryer = s.dryer
      ∧ (judgeDeviation x r s k).cmds = s.cmds ∧ (judgeDeviation x r s k).agent = s.agent := by
  unfold judgeDeviation; simp only []; repeat' split
  all_goals simp

@[simp] theorem judgeShortfall_frame (x : Recipe) (r : Refresh) (k : Circuit) :
    (judgeShortfall x r s k).pending = s.pending ∧ (judgeShortfall x r s k).now = s.now
      ∧ (judgeShortfall x r s k).choices = s.choices ∧ (judgeShortfall x r s k).phase = s.phase
      ∧ (judgeShortfall x r s k).pins = s.pins ∧ (judgeShortfall x r s k).line = s.line
      ∧ (judgeShortfall x r s k).comm = s.comm ∧ (judgeShortfall x r s k).board = s.board
      ∧ (judgeShortfall x r s k).banks = s.banks ∧ (judgeShortfall x r s k).solv = s.solv
      ∧ (judgeShortfall x r s k).web = s.web ∧ (judgeShortfall x r s k).dryer = s.dryer
      ∧ (judgeShortfall x r s k).cmds = s.cmds ∧ (judgeShortfall x r s k).agent = s.agent := by
  unfold judgeShortfall; simp only []; repeat' split
  all_goals simp

@[simp] theorem watch_frame (r : Refresh) :
    (watch r s).pending = s.pending ∧ (watch r s).now = s.now ∧ (watch r s).choices = s.choices
      ∧ (watch r s).phase = s.phase ∧ (watch r s).pins = s.pins ∧ (watch r s).line = s.line
      ∧ (watch r s).comm = s.comm ∧ (watch r s).board = s.board ∧ (watch r s).banks = s.banks
      ∧ (watch r s).solv = s.solv ∧ (watch r s).web = s.web ∧ (watch r s).dryer = s.dryer
      ∧ (watch r s).cmds = s.cmds ∧ (watch r s).agent = s.agent := by
  unfold watch; repeat' split
  · exact ⟨(foldl_keeps _ State.pending (by simp) _ _).trans (foldl_keeps _ State.pending (by simp) _ _),
      (foldl_keeps _ State.now (by simp) _ _).trans (foldl_keeps _ State.now (by simp) _ _),
      (foldl_keeps _ State.choices (by simp) _ _).trans (foldl_keeps _ State.choices (by simp) _ _),
      (foldl_keeps _ State.phase (by simp) _ _).trans (foldl_keeps _ State.phase (by simp) _ _),
      (foldl_keeps _ State.pins (by simp) _ _).trans (foldl_keeps _ State.pins (by simp) _ _),
      (foldl_keeps _ State.line (by simp) _ _).trans (foldl_keeps _ State.line (by simp) _ _),
      (foldl_keeps _ State.comm (by simp) _ _).trans (foldl_keeps _ State.comm (by simp) _ _),
      (foldl_keeps _ State.board (by simp) _ _).trans (foldl_keeps _ State.board (by simp) _ _),
      (foldl_keeps _ State.banks (by simp) _ _).trans (foldl_keeps _ State.banks (by simp) _ _),
      (foldl_keeps _ State.solv (by simp) _ _).trans (foldl_keeps _ State.solv (by simp) _ _),
      (foldl_keeps _ State.web (by simp) _ _).trans (foldl_keeps _ State.web (by simp) _ _),
      (foldl_keeps _ State.dryer (by simp) _ _).trans (foldl_keeps _ State.dryer (by simp) _ _),
      (foldl_keeps _ State.cmds (by simp) _ _).trans (foldl_keeps _ State.cmds (by simp) _ _),
      (foldl_keeps _ State.agent (by simp) _ _).trans (foldl_keeps _ State.agent (by simp) _ _)⟩
  all_goals simp

@[simp] theorem scheduleReaction_frame (r : Refresh) :
    (scheduleReaction r s).pending = s.pending ∧ (scheduleReaction r s).now = s.now
      ∧ (scheduleReaction r s).choices = s.choices ∧ (scheduleReaction r s).phase = s.phase
      ∧ (scheduleReaction r s).pins = s.pins ∧ (scheduleReaction r s).line = s.line
      ∧ (scheduleReaction r s).comm = s.comm ∧ (scheduleReaction r s).board = s.board
      ∧ (scheduleReaction r s).banks = s.banks ∧ (scheduleReaction r s).solv = s.solv
      ∧ (scheduleReaction r s).web = s.web ∧ (scheduleReaction r s).dryer = s.dryer
      ∧ (scheduleReaction r s).cmds = s.cmds ∧ (scheduleReaction r s).agent = s.agent := by
  simp [scheduleReaction]

@[simp] theorem scheduleEvaluationComplete_frame :
    (scheduleEvaluationComplete s).pending = s.pending ∧ (scheduleEvaluationComplete s).now = s.now
      ∧ (scheduleEvaluationComplete s).choices = s.choices ∧ (scheduleEvaluationComplete s).phase = s.phase
      ∧ (scheduleEvaluationComplete s).pins = s.pins ∧ (scheduleEvaluationComplete s).line = s.line
      ∧ (scheduleEvaluationComplete s).comm = s.comm ∧ (scheduleEvaluationComplete s).board = s.board
      ∧ (scheduleEvaluationComplete s).banks = s.banks ∧ (scheduleEvaluationComplete s).solv = s.solv
      ∧ (scheduleEvaluationComplete s).web = s.web ∧ (scheduleEvaluationComplete s).dryer = s.dryer
      ∧ (scheduleEvaluationComplete s).cmds = s.cmds ∧ (scheduleEvaluationComplete s).log = s.log
      ∧ (scheduleEvaluationComplete s).agent = s.agent := by
  unfold scheduleEvaluationComplete; split <;> simp

@[simp] theorem startSolvent_frame (r : Refresh) :
    (startSolvent r s).pending = s.pending ∧ (startSolvent r s).now = s.now
      ∧ (startSolvent r s).choices = s.choices ∧ (startSolvent r s).phase = s.phase
      ∧ (startSolvent r s).pins = s.pins ∧ (startSolvent r s).line = s.line
      ∧ (startSolvent r s).comm = s.comm ∧ (startSolvent r s).board = s.board
      ∧ (startSolvent r s).banks = s.banks ∧ (startSolvent r s).sched = s.sched
      ∧ (startSolvent r s).web = s.web ∧ (startSolvent r s).dryer = s.dryer
      ∧ (startSolvent r s).cmds = s.cmds ∧ (startSolvent r s).log = s.log
      ∧ (startSolvent r s).agent = s.agent := by
  unfold startSolvent; split <;> simp

@[simp] theorem judgeLimited_frame (q : Nat) (p : SolvPub) :
    (judgeLimited q p s).pending = s.pending ∧ (judgeLimited q p s).now = s.now
      ∧ (judgeLimited q p s).choices = s.choices ∧ (judgeLimited q p s).phase = s.phase
      ∧ (judgeLimited q p s).pins = s.pins ∧ (judgeLimited q p s).line = s.line
      ∧ (judgeLimited q p s).comm = s.comm ∧ (judgeLimited q p s).board = s.board
      ∧ (judgeLimited q p s).banks = s.banks ∧ (judgeLimited q p s).sched = s.sched
      ∧ (judgeLimited q p s).web = s.web ∧ (judgeLimited q p s).dryer = s.dryer
      ∧ (judgeLimited q p s).cmds = s.cmds ∧ (judgeLimited q p s).agent = s.agent := by
  unfold judgeLimited; repeat' split
  all_goals simp

@[simp] theorem judgeMismatch_frame (p : SolvPub) :
    (judgeMismatch p s).pending = s.pending ∧ (judgeMismatch p s).now = s.now
      ∧ (judgeMismatch p s).choices = s.choices ∧ (judgeMismatch p s).phase = s.phase
      ∧ (judgeMismatch p s).pins = s.pins ∧ (judgeMismatch p s).line = s.line
      ∧ (judgeMismatch p s).comm = s.comm ∧ (judgeMismatch p s).board = s.board
      ∧ (judgeMismatch p s).banks = s.banks ∧ (judgeMismatch p s).sched = s.sched
      ∧ (judgeMismatch p s).web = s.web ∧ (judgeMismatch p s).dryer = s.dryer
      ∧ (judgeMismatch p s).cmds = s.cmds ∧ (judgeMismatch p s).agent = s.agent := by
  unfold judgeMismatch; simp only []; repeat' split
  all_goals simp

@[simp] theorem judgeHistogram_frame (p : SolvPub) :
    (judgeHistogram p s).pending = s.pending ∧ (judgeHistogram p s).now = s.now
      ∧ (judgeHistogram p s).choices = s.choices ∧ (judgeHistogram p s).phase = s.phase
      ∧ (judgeHistogram p s).pins = s.pins ∧ (judgeHistogram p s).line = s.line
      ∧ (judgeHistogram p s).comm = s.comm ∧ (judgeHistogram p s).board = s.board
      ∧ (judgeHistogram p s).banks = s.banks ∧ (judgeHistogram p s).sched = s.sched
      ∧ (judgeHistogram p s).web = s.web ∧ (judgeHistogram p s).dryer = s.dryer
      ∧ (judgeHistogram p s).cmds = s.cmds ∧ (judgeHistogram p s).log = s.log
      ∧ (judgeHistogram p s).agent = s.agent := by
  unfold judgeHistogram; split <;> simp

@[simp] theorem judgePublication_frame (q : Nat) (p : SolvPub) :
    (judgePublication q p s).pending = s.pending ∧ (judgePublication q p s).now = s.now
      ∧ (judgePublication q p s).choices = s.choices ∧ (judgePublication q p s).phase = s.phase
      ∧ (judgePublication q p s).pins = s.pins ∧ (judgePublication q p s).line = s.line
      ∧ (judgePublication q p s).comm = s.comm ∧ (judgePublication q p s).board = s.board
      ∧ (judgePublication q p s).banks = s.banks ∧ (judgePublication q p s).sched = s.sched
      ∧ (judgePublication q p s).web = s.web ∧ (judgePublication q p s).dryer = s.dryer
      ∧ (judgePublication q p s).cmds = s.cmds ∧ (judgePublication q p s).agent = s.agent := by
  simp [judgePublication]

@[simp] theorem publishSolvent_frame (b : Bool) :
    (publishSolvent b s).pending = s.pending ∧ (publishSolvent b s).now = s.now
      ∧ (publishSolvent b s).choices = s.choices ∧ (publishSolvent b s).phase = s.phase
      ∧ (publishSolvent b s).pins = s.pins ∧ (publishSolvent b s).line = s.line
      ∧ (publishSolvent b s).comm = s.comm ∧ (publishSolvent b s).board = s.board
      ∧ (publishSolvent b s).banks = s.banks ∧ (publishSolvent b s).sched = s.sched
      ∧ (publishSolvent b s).agent = s.agent := by
  unfold publishSolvent; simp only []; repeat' split
  all_goals simp

@[simp] theorem solventEvaluationComplete_frame (n : Nat) :
    (solventEvaluationComplete n s).pending = s.pending ∧ (solventEvaluationComplete n s).now = s.now
      ∧ (solventEvaluationComplete n s).phase = s.phase ∧ (solventEvaluationComplete n s).pins = s.pins
      ∧ (solventEvaluationComplete n s).line = s.line ∧ (solventEvaluationComplete n s).comm = s.comm
      ∧ (solventEvaluationComplete n s).board = s.board ∧ (solventEvaluationComplete n s).banks = s.banks
      ∧ (solventEvaluationComplete n s).sched = s.sched ∧ (solventEvaluationComplete n s).agent = s.agent := by
  simp [solventEvaluationComplete]

@[simp] theorem judgeDisagree_frame :
    (judgeDisagree s).pending = s.pending ∧ (judgeDisagree s).now = s.now
      ∧ (judgeDisagree s).choices = s.choices ∧ (judgeDisagree s).phase = s.phase
      ∧ (judgeDisagree s).pins = s.pins ∧ (judgeDisagree s).line = s.line ∧ (judgeDisagree s).comm = s.comm
      ∧ (judgeDisagree s).board = s.board ∧ (judgeDisagree s).banks = s.banks
      ∧ (judgeDisagree s).sched = s.sched ∧ (judgeDisagree s).web = s.web ∧ (judgeDisagree s).dryer = s.dryer
      ∧ (judgeDisagree s).cmds = s.cmds ∧ (judgeDisagree s).agent = s.agent := by
  unfold judgeDisagree; repeat' split
  all_goals simp

@[simp] theorem solventReaction_frame (r : Refresh) :
    (solventReaction r s).pending = s.pending ∧ (solventReaction r s).now = s.now
      ∧ (solventReaction r s).choices = s.choices ∧ (solventReaction r s).phase = s.phase
      ∧ (solventReaction r s).pins = s.pins ∧ (solventReaction r s).line = s.line
      ∧ (solventReaction r s).comm = s.comm ∧ (solventReaction r s).board = s.board
      ∧ (solventReaction r s).banks = s.banks ∧ (solventReaction r s).sched = s.sched
      ∧ (solventReaction r s).web = s.web ∧ (solventReaction r s).dryer = s.dryer
      ∧ (solventReaction r s).cmds = s.cmds ∧ (solventReaction r s).agent = s.agent := by
  unfold solventReaction; simp only []; split <;> simp

@[simp] theorem overrun_frame (k : FrameKind) :
    (overrun k s).pending = s.pending ∧ (overrun k s).now = s.now ∧ (overrun k s).choices = s.choices
      ∧ (overrun k s).phase = s.phase ∧ (overrun k s).pins = s.pins ∧ (overrun k s).comm = s.comm
      ∧ (overrun k s).board = s.board ∧ (overrun k s).banks = s.banks ∧ (overrun k s).sched = s.sched
      ∧ (overrun k s).solv = s.solv ∧ (overrun k s).web = s.web ∧ (overrun k s).dryer = s.dryer
      ∧ (overrun k s).cmds = s.cmds ∧ (overrun k s).agent = s.agent := by
  unfold overrun; split <;> simp

@[simp] theorem bindMarks_frame (d : Dir) (b : Byte) :
    (bindMarks d b s).pending = s.pending ∧ (bindMarks d b s).now = s.now
      ∧ (bindMarks d b s).choices = s.choices ∧ (bindMarks d b s).phase = s.phase
      ∧ (bindMarks d b s).pins = s.pins ∧ (bindMarks d b s).line = s.line ∧ (bindMarks d b s).comm = s.comm
      ∧ (bindMarks d b s).board = s.board ∧ (bindMarks d b s).banks = s.banks
      ∧ (bindMarks d b s).sched = s.sched ∧ (bindMarks d b s).solv = s.solv ∧ (bindMarks d b s).web = s.web
      ∧ (bindMarks d b s).dryer = s.dryer ∧ (bindMarks d b s).cmds = s.cmds ∧ (bindMarks d b s).log = s.log := by
  unfold bindMarks; split <;> simp

@[simp] theorem frameArrival_frame (d : Dir) (b : Byte) (l : List Byte) :
    (frameArrival d b l s).pending = s.pending ∧ (frameArrival d b l s).now = s.now
      ∧ (frameArrival d b l s).choices = s.choices ∧ (frameArrival d b l s).phase = s.phase
      ∧ (frameArrival d b l s).pins = s.pins ∧ (frameArrival d b l s).comm = s.comm
      ∧ (frameArrival d b l s).board = s.board ∧ (frameArrival d b l s).banks = s.banks
      ∧ (frameArrival d b l s).sched = s.sched ∧ (frameArrival d b l s).solv = s.solv
      ∧ (frameArrival d b l s).web = s.web ∧ (frameArrival d b l s).dryer = s.dryer
      ∧ (frameArrival d b l s).cmds = s.cmds := by
  unfold frameArrival; repeat' split
  all_goals simp

@[simp] theorem enterSilent_frame :
    (enterSilent s).pending = s.pending ∧ (enterSilent s).now = s.now ∧ (enterSilent s).choices = s.choices
      ∧ (enterSilent s).phase = s.phase ∧ (enterSilent s).pins = s.pins ∧ (enterSilent s).comm = s.comm
      ∧ (enterSilent s).board = s.board ∧ (enterSilent s).banks = s.banks ∧ (enterSilent s).sched = s.sched
      ∧ (enterSilent s).solv = s.solv ∧ (enterSilent s).agent = s.agent := by
  simp [enterSilent]

@[simp] theorem silenceTimerExpiry_frame :
    (silenceTimerExpiry s).pending = s.pending ∧ (silenceTimerExpiry s).choices = s.choices
      ∧ (silenceTimerExpiry s).phase = s.phase ∧ (silenceTimerExpiry s).pins = s.pins
      ∧ (silenceTimerExpiry s).comm = s.comm ∧ (silenceTimerExpiry s).board = s.board
      ∧ (silenceTimerExpiry s).banks = s.banks ∧ (silenceTimerExpiry s).sched = s.sched
      ∧ (silenceTimerExpiry s).solv = s.solv ∧ (silenceTimerExpiry s).agent = s.agent := by
  unfold silenceTimerExpiry; split <;> simp

@[simp] theorem resumeTimerExpiry_frame :
    (resumeTimerExpiry s).pending = s.pending ∧ (resumeTimerExpiry s).now = s.now
      ∧ (resumeTimerExpiry s).choices = s.choices ∧ (resumeTimerExpiry s).phase = s.phase
      ∧ (resumeTimerExpiry s).pins = s.pins ∧ (resumeTimerExpiry s).line = s.line
      ∧ (resumeTimerExpiry s).comm = s.comm ∧ (resumeTimerExpiry s).board = s.board
      ∧ (resumeTimerExpiry s).banks = s.banks ∧ (resumeTimerExpiry s).sched = s.sched
      ∧ (resumeTimerExpiry s).solv = s.solv ∧ (resumeTimerExpiry s).dryer = s.dryer
      ∧ (resumeTimerExpiry s).cmds = s.cmds ∧ (resumeTimerExpiry s).agent = s.agent := by
  unfold resumeTimerExpiry; split <;> simp

@[simp] theorem breakInChange_frame (l : Level) :
    (breakInChange l s).pending = s.pending ∧ (breakInChange l s).now = s.now
      ∧ (breakInChange l s).choices = s.choices ∧ (breakInChange l s).phase = s.phase
      ∧ (breakInChange l s).line = s.line ∧ (breakInChange l s).comm = s.comm
      ∧ (breakInChange l s).board = s.board ∧ (breakInChange l s).banks = s.banks
      ∧ (breakInChange l s).sched = s.sched ∧ (breakInChange l s).solv = s.solv
      ∧ (breakInChange l s).dryer = s.dryer ∧ (breakInChange l s).cmds = s.cmds
      ∧ (breakInChange l s).agent = s.agent := by
  unfold breakInChange; simp only []; repeat' split
  all_goals simp

@[simp] theorem purgeHoldExpiry_frame :
    (purgeHoldExpiry s).pending = s.pending ∧ (purgeHoldExpiry s).choices = s.choices
      ∧ (purgeHoldExpiry s).phase = s.phase ∧ (purgeHoldExpiry s).pins = s.pins
      ∧ (purgeHoldExpiry s).line = s.line ∧ (purgeHoldExpiry s).comm = s.comm
      ∧ (purgeHoldExpiry s).board = s.board ∧ (purgeHoldExpiry s).banks = s.banks
      ∧ (purgeHoldExpiry s).sched = s.sched ∧ (purgeHoldExpiry s).solv = s.solv
      ∧ (purgeHoldExpiry s).cmds = s.cmds ∧ (purgeHoldExpiry s).agent = s.agent := by
  unfold purgeHoldExpiry; split <;> simp

@[simp] theorem react_frame (r : Refresh) (x : Reaction) :
    (react r x s).pending = s.pending ∧ (react r x s).now = s.now ∧ (react r x s).choices = s.choices
      ∧ (react r x s).phase = s.phase ∧ (react r x s).pins = s.pins ∧ (react r x s).line = s.line
      ∧ (react r x s).comm = s.comm ∧ (react r x s).agent = s.agent := by
  unfold react; split
  · split <;> simp
  all_goals simp

@[simp] theorem reactAll_frame (r : Refresh) (l : List Reaction) :
    (reactAll r l s).pending = s.pending ∧ (reactAll r l s).now = s.now
      ∧ (reactAll r l s).choices = s.choices ∧ (reactAll r l s).phase = s.phase
      ∧ (reactAll r l s).pins = s.pins ∧ (reactAll r l s).line = s.line ∧ (reactAll r l s).comm = s.comm
      ∧ (reactAll r l s).agent = s.agent := by
  exact ⟨(foldl_keeps _ State.pending (by simp) _ _),
    (foldl_keeps _ State.now (by simp) _ _),
    (foldl_keeps _ State.choices (by simp) _ _),
    (foldl_keeps _ State.phase (by simp) _ _),
    (foldl_keeps _ State.pins (by simp) _ _),
    (foldl_keeps _ State.line (by simp) _ _),
    (foldl_keeps _ State.comm (by simp) _ _),
    (foldl_keeps _ State.agent (by simp) _ _)⟩

@[simp] theorem boardRefresh_frame (n : Nat) (r : Refresh) :
    (boardRefresh n r s).pending = s.pending ∧ (boardRefresh n r s).now = s.now
      ∧ (boardRefresh n r s).choices = s.choices ∧ (boardRefresh n r s).phase = s.phase
      ∧ (boardRefresh n r s).pins = s.pins ∧ (boardRefresh n r s).comm = s.comm
      ∧ (boardRefresh n r s).agent = s.agent := by
  simp [boardRefresh]

@[simp] theorem takeRefresh_frame (n : Nat) (r : Refresh) :
    (takeRefresh n r s).pending = s.pending ∧ (takeRefresh n r s).now = s.now
      ∧ (takeRefresh n r s).phase = s.phase ∧ (takeRefresh n r s).pins = s.pins
      ∧ (takeRefresh n r s).comm = s.comm ∧ (takeRefresh n r s).agent = s.agent := by
  unfold takeRefresh; split <;> simp

/-- A refresh takes exactly one open order (log 1). -/
@[simp] theorem takeRefresh_choices (n : Nat) (r : Refresh) : (takeRefresh n r s).choices = s.choices + 1 := by
  unfold takeRefresh; split <;> simp

@[simp] theorem offerErrors_frame (t : Transit) :
    (offerErrors t s).pending = s.pending ∧ (offerErrors t s).now = s.now
      ∧ (offerErrors t s).choices = s.choices ∧ (offerErrors t s).phase = s.phase
      ∧ (offerErrors t s).pins = s.pins ∧ (offerErrors t s).line = s.line ∧ (offerErrors t s).comm = s.comm
      ∧ (offerErrors t s).board = s.board ∧ (offerErrors t s).banks = s.banks
      ∧ (offerErrors t s).sched = s.sched ∧ (offerErrors t s).solv = s.solv ∧ (offerErrors t s).web = s.web
      ∧ (offerErrors t s).dryer = s.dryer ∧ (offerErrors t s).cmds = s.cmds
      ∧ (offerErrors t s).agent = s.agent := by
  unfold offerErrors; split <;> simp

@[simp] theorem outCycleEnd_frame (t : Transit) :
    (outCycleEnd t s).pending = s.pending ∧ (outCycleEnd t s).now = s.now
      ∧ (outCycleEnd t s).choices = s.choices ∧ (outCycleEnd t s).phase = s.phase
      ∧ (outCycleEnd t s).pins = s.pins ∧ (outCycleEnd t s).comm = s.comm ∧ (outCycleEnd t s).board = s.board
      ∧ (outCycleEnd t s).banks = s.banks ∧ (outCycleEnd t s).sched = s.sched
      ∧ (outCycleEnd t s).solv = s.solv ∧ (outCycleEnd t s).web = s.web ∧ (outCycleEnd t s).dryer = s.dryer
      ∧ (outCycleEnd t s).cmds = s.cmds ∧ (outCycleEnd t s).agent = s.agent := by
  simp [outCycleEnd]

@[simp] theorem backCycleEnd_frame (n : Nat) (t : Transit) :
    (backCycleEnd n t s).pending = s.pending ∧ (backCycleEnd n t s).now = s.now
      ∧ (backCycleEnd n t s).phase = s.phase ∧ (backCycleEnd n t s).pins = s.pins
      ∧ (backCycleEnd n t s).comm = s.comm ∧ (backCycleEnd n t s).agent = s.agent := by
  unfold backCycleEnd; simp only []; repeat' split
  all_goals simp [goodCycleEnd, poisonedCycleEnd]

@[simp] theorem outServiceEnd_frame (t : Transit) :
    (outServiceEnd t s).pending = s.pending ∧ (outServiceEnd t s).now = s.now
      ∧ (outServiceEnd t s).choices = s.choices ∧ (outServiceEnd t s).phase = s.phase
      ∧ (outServiceEnd t s).pins = s.pins ∧ (outServiceEnd t s).comm = s.comm
      ∧ (outServiceEnd t s).board = s.board ∧ (outServiceEnd t s).banks = s.banks
      ∧ (outServiceEnd t s).sched = s.sched ∧ (outServiceEnd t s).solv = s.solv
      ∧ (outServiceEnd t s).web = s.web ∧ (outServiceEnd t s).dryer = s.dryer
      ∧ (outServiceEnd t s).cmds = s.cmds := by
  simp [outServiceEnd]

@[simp] theorem statusSlotWrite_frame (i : Nat) :
    (statusSlotWrite i s).pending = s.pending ∧ (statusSlotWrite i s).now = s.now
      ∧ (statusSlotWrite i s).choices = s.choices ∧ (statusSlotWrite i s).phase = s.phase
      ∧ (statusSlotWrite i s).pins = s.pins ∧ (statusSlotWrite i s).comm = s.comm
      ∧ (statusSlotWrite i s).board = s.board ∧ (statusSlotWrite i s).banks = s.banks
      ∧ (statusSlotWrite i s).sched = s.sched ∧ (statusSlotWrite i s).solv = s.solv
      ∧ (statusSlotWrite i s).web = s.web ∧ (statusSlotWrite i s).dryer = s.dryer
      ∧ (statusSlotWrite i s).cmds = s.cmds ∧ (statusSlotWrite i s).log = s.log
      ∧ (statusSlotWrite i s).agent = s.agent := by
  unfold statusSlotWrite; repeat' split
  all_goals simp

@[simp] theorem refuseTaking_frame (l : List Byte) :
    (refuseTaking l s).pending = s.pending ∧ (refuseTaking l s).now = s.now
      ∧ (refuseTaking l s).choices = s.choices ∧ (refuseTaking l s).phase = s.phase
      ∧ (refuseTaking l s).pins = s.pins ∧ (refuseTaking l s).line = s.line
      ∧ (refuseTaking l s).comm = s.comm ∧ (refuseTaking l s).board = s.board
      ∧ (refuseTaking l s).banks = s.banks ∧ (refuseTaking l s).sched = s.sched
      ∧ (refuseTaking l s).solv = s.solv ∧ (refuseTaking l s).web = s.web
      ∧ (refuseTaking l s).dryer = s.dryer ∧ (refuseTaking l s).cmds = s.cmds
      ∧ (refuseTaking l s).log = s.log := by
  simp [refuseTaking]

@[simp] theorem takeRequest_frame (l : List Byte) :
    (takeRequest l s).pending = s.pending ∧ (takeRequest l s).now = s.now
      ∧ (takeRequest l s).choices = s.choices ∧ (takeRequest l s).phase = s.phase
      ∧ (takeRequest l s).pins = s.pins ∧ (takeRequest l s).line = s.line ∧ (takeRequest l s).comm = s.comm
      ∧ (takeRequest l s).board = s.board ∧ (takeRequest l s).banks = s.banks
      ∧ (takeRequest l s).sched = s.sched ∧ (takeRequest l s).solv = s.solv ∧ (takeRequest l s).web = s.web
      ∧ (takeRequest l s).dryer = s.dryer ∧ (takeRequest l s).cmds = s.cmds ∧ (takeRequest l s).log = s.log := by
  unfold takeRequest; split <;> simp

@[simp] theorem requestTaking_frame (i : Nat) :
    (requestTaking i s).pending = s.pending ∧ (requestTaking i s).now = s.now
      ∧ (requestTaking i s).choices = s.choices ∧ (requestTaking i s).phase = s.phase
      ∧ (requestTaking i s).pins = s.pins ∧ (requestTaking i s).comm = s.comm
      ∧ (requestTaking i s).board = s.board ∧ (requestTaking i s).banks = s.banks
      ∧ (requestTaking i s).sched = s.sched ∧ (requestTaking i s).solv = s.solv
      ∧ (requestTaking i s).web = s.web ∧ (requestTaking i s).dryer = s.dryer
      ∧ (requestTaking i s).cmds = s.cmds ∧ (requestTaking i s).log = s.log := by
  unfold requestTaking; repeat' split
  all_goals simp

@[simp] theorem fillFree_frame (i : Nat) (t : Transit) :
    (fillFree i t s).pending = s.pending ∧ (fillFree i t s).now = s.now
      ∧ (fillFree i t s).choices = s.choices ∧ (fillFree i t s).phase = s.phase
      ∧ (fillFree i t s).pins = s.pins ∧ (fillFree i t s).comm = s.comm ∧ (fillFree i t s).board = s.board
      ∧ (fillFree i t s).banks = s.banks ∧ (fillFree i t s).sched = s.sched ∧ (fillFree i t s).solv = s.solv
      ∧ (fillFree i t s).web = s.web ∧ (fillFree i t s).dryer = s.dryer ∧ (fillFree i t s).cmds = s.cmds
      ∧ (fillFree i t s).log = s.log := by
  unfold fillFree; repeat' split
  all_goals simp

@[simp] theorem replyPlaceFill_frame (i : Nat) :
    (replyPlaceFill i s).pending = s.pending ∧ (replyPlaceFill i s).now = s.now
      ∧ (replyPlaceFill i s).choices = s.choices ∧ (replyPlaceFill i s).phase = s.phase
      ∧ (replyPlaceFill i s).pins = s.pins ∧ (replyPlaceFill i s).comm = s.comm
      ∧ (replyPlaceFill i s).board = s.board ∧ (replyPlaceFill i s).banks = s.banks
      ∧ (replyPlaceFill i s).sched = s.sched ∧ (replyPlaceFill i s).solv = s.solv
      ∧ (replyPlaceFill i s).web = s.web ∧ (replyPlaceFill i s).dryer = s.dryer
      ∧ (replyPlaceFill i s).cmds = s.cmds ∧ (replyPlaceFill i s).log = s.log := by
  unfold replyPlaceFill; repeat' split
  all_goals simp

@[simp] theorem endCheck_frame (b : BankNo) (o : CheckOutcome) :
    (endCheck b o s).pending = s.pending ∧ (endCheck b o s).now = s.now
      ∧ (endCheck b o s).choices = s.choices ∧ (endCheck b o s).phase = s.phase
      ∧ (endCheck b o s).pins = s.pins ∧ (endCheck b o s).line = s.line ∧ (endCheck b o s).comm = s.comm
      ∧ (endCheck b o s).board = s.board ∧ (endCheck b o s).sched = s.sched ∧ (endCheck b o s).solv = s.solv
      ∧ (endCheck b o s).web = s.web ∧ (endCheck b o s).dryer = s.dryer ∧ (endCheck b o s).cmds = s.cmds := by
  simp [endCheck]

@[simp] theorem bankCheckEnd_frame :
    (bankCheckEnd s).pending = s.pending ∧ (bankCheckEnd s).now = s.now
      ∧ (bankCheckEnd s).choices = s.choices ∧ (bankCheckEnd s).phase = s.phase
      ∧ (bankCheckEnd s).pins = s.pins ∧ (bankCheckEnd s).line = s.line ∧ (bankCheckEnd s).comm = s.comm
      ∧ (bankCheckEnd s).board = s.board ∧ (bankCheckEnd s).sched = s.sched ∧ (bankCheckEnd s).solv = s.solv
      ∧ (bankCheckEnd s).web = s.web ∧ (bankCheckEnd s).dryer = s.dryer ∧ (bankCheckEnd s).cmds = s.cmds := by
  unfold bankCheckEnd; repeat' split
  all_goals simp

@[simp] theorem activate_frame (b : BankNo) (m : ActivationMode) :
    (activate b m s).pending = s.pending ∧ (activate b m s).now = s.now
      ∧ (activate b m s).choices = s.choices ∧ (activate b m s).phase = s.phase
      ∧ (activate b m s).pins = s.pins ∧ (activate b m s).line = s.line ∧ (activate b m s).comm = s.comm
      ∧ (activate b m s).board = s.board ∧ (activate b m s).sched = s.sched ∧ (activate b m s).solv = s.solv
      ∧ (activate b m s).dryer = s.dryer ∧ (activate b m s).cmds = s.cmds ∧ (activate b m s).agent = s.agent := by
  unfold activate; simp only []; repeat' split
  all_goals simp

@[simp] theorem emptyList_frame (t : Table) :
    (emptyList t s).pending = s.pending ∧ (emptyList t s).now = s.now ∧ (emptyList t s).choices = s.choices
      ∧ (emptyList t s).phase = s.phase ∧ (emptyList t s).pins = s.pins ∧ (emptyList t s).line = s.line
      ∧ (emptyList t s).board = s.board ∧ (emptyList t s).sched = s.sched ∧ (emptyList t s).solv = s.solv
      ∧ (emptyList t s).web = s.web ∧ (emptyList t s).dryer = s.dryer ∧ (emptyList t s).cmds = s.cmds
      ∧ (emptyList t s).log = s.log ∧ (emptyList t s).agent = s.agent := by
  unfold emptyList; split <;> simp

@[simp] theorem acceptReset_frame :
    (acceptReset s).pending = s.pending ∧ (acceptReset s).now = s.now ∧ (acceptReset s).choices = s.choices
      ∧ (acceptReset s).phase = s.phase ∧ (acceptReset s).pins = s.pins ∧ (acceptReset s).line = s.line
      ∧ (acceptReset s).comm = s.comm ∧ (acceptReset s).board = s.board ∧ (acceptReset s).banks = s.banks
      ∧ (acceptReset s).sched = s.sched ∧ (acceptReset s).solv = s.solv ∧ (acceptReset s).cmds = s.cmds
      ∧ (acceptReset s).agent = s.agent := by
  simp [acceptReset]

@[simp] theorem withOverrides_frame (o : Overrides) :
    (withOverrides o s).pending = s.pending ∧ (withOverrides o s).now = s.now
      ∧ (withOverrides o s).choices = s.choices ∧ (withOverrides o s).phase = s.phase
      ∧ (withOverrides o s).pins = s.pins ∧ (withOverrides o s).line = s.line
      ∧ (withOverrides o s).comm = s.comm ∧ (withOverrides o s).board = s.board
      ∧ (withOverrides o s).banks = s.banks ∧ (withOverrides o s).sched = s.sched
      ∧ (withOverrides o s).web = s.web ∧ (withOverrides o s).dryer = s.dryer
      ∧ (withOverrides o s).cmds = s.cmds ∧ (withOverrides o s).log = s.log := by
  simp [withOverrides]

@[simp] theorem removeOldest_frame (n : Nat) :
    (removeOldest n s).pending = s.pending ∧ (removeOldest n s).now = s.now
      ∧ (removeOldest n s).choices = s.choices ∧ (removeOldest n s).phase = s.phase
      ∧ (removeOldest n s).pins = s.pins ∧ (removeOldest n s).line = s.line
      ∧ (removeOldest n s).comm = s.comm ∧ (removeOldest n s).board = s.board
      ∧ (removeOldest n s).banks = s.banks ∧ (removeOldest n s).sched = s.sched
      ∧ (removeOldest n s).solv = s.solv ∧ (removeOldest n s).web = s.web
      ∧ (removeOldest n s).dryer = s.dryer ∧ (removeOldest n s).cmds = s.cmds
      ∧ (removeOldest n s).agent = s.agent := by
  unfold removeOldest; split <;> simp

@[simp] theorem alertGapExpiry_frame :
    (alertGapExpiry s).pending = s.pending ∧ (alertGapExpiry s).choices = s.choices
      ∧ (alertGapExpiry s).phase = s.phase ∧ (alertGapExpiry s).pins = s.pins
      ∧ (alertGapExpiry s).line = s.line ∧ (alertGapExpiry s).comm = s.comm
      ∧ (alertGapExpiry s).board = s.board ∧ (alertGapExpiry s).banks = s.banks
      ∧ (alertGapExpiry s).sched = s.sched ∧ (alertGapExpiry s).solv = s.solv
      ∧ (alertGapExpiry s).web = s.web ∧ (alertGapExpiry s).dryer = s.dryer
      ∧ (alertGapExpiry s).cmds = s.cmds ∧ (alertGapExpiry s).agent = s.agent := by
  unfold alertGapExpiry; split <;> simp

@[simp] theorem demoteAll_frame :
    (demoteAll s).pending = s.pending ∧ (demoteAll s).now = s.now ∧ (demoteAll s).choices = s.choices
      ∧ (demoteAll s).phase = s.phase ∧ (demoteAll s).pins = s.pins ∧ (demoteAll s).line = s.line
      ∧ (demoteAll s).comm = s.comm ∧ (demoteAll s).board = s.board ∧ (demoteAll s).web = s.web
      ∧ (demoteAll s).dryer = s.dryer ∧ (demoteAll s).cmds = s.cmds ∧ (demoteAll s).log = s.log
      ∧ (demoteAll s).agent = s.agent := by
  simp [demoteAll]

@[simp] theorem bringIntoForce_frame :
    (bringIntoForce s).pending = s.pending ∧ (bringIntoForce s).now = s.now
      ∧ (bringIntoForce s).choices = s.choices ∧ (bringIntoForce s).phase = s.phase
      ∧ (bringIntoForce s).pins = s.pins ∧ (bringIntoForce s).line = s.line
      ∧ (bringIntoForce s).board = s.board ∧ (bringIntoForce s).web = s.web
      ∧ (bringIntoForce s).dryer = s.dryer ∧ (bringIntoForce s).cmds = s.cmds
      ∧ (bringIntoForce s).log = s.log := by
  unfold bringIntoForce; simp only []; split <;> simp

@[simp] theorem takeLoaded_frame :
    (takeLoaded s).pending = s.pending ∧ (takeLoaded s).now = s.now ∧ (takeLoaded s).choices = s.choices
      ∧ (takeLoaded s).phase = s.phase ∧ (takeLoaded s).pins = s.pins ∧ (takeLoaded s).line = s.line
      ∧ (takeLoaded s).banks = s.banks ∧ (takeLoaded s).sched = s.sched ∧ (takeLoaded s).web = s.web
      ∧ (takeLoaded s).dryer = s.dryer ∧ (takeLoaded s).log = s.log ∧ (takeLoaded s).agent = s.agent := by
  simp [takeLoaded]

@[simp] theorem offerInvalid_frame :
    (offerInvalid s).pending = s.pending ∧ (offerInvalid s).now = s.now
      ∧ (offerInvalid s).choices = s.choices ∧ (offerInvalid s).phase = s.phase
      ∧ (offerInvalid s).pins = s.pins ∧ (offerInvalid s).line = s.line ∧ (offerInvalid s).comm = s.comm
      ∧ (offerInvalid s).board = s.board ∧ (offerInvalid s).banks = s.banks
      ∧ (offerInvalid s).sched = s.sched ∧ (offerInvalid s).solv = s.solv ∧ (offerInvalid s).web = s.web
      ∧ (offerInvalid s).dryer = s.dryer ∧ (offerInvalid s).cmds = s.cmds ∧ (offerInvalid s).agent = s.agent := by
  unfold offerInvalid; split <;> simp

/-! ## What the service frames leave of the Service Agent -/

@[simp] theorem settleTakings_frame (good : Bool) (a : Agent) :
    (settleTakings good a).window = a.window ∧ (settleTakings good a).overrides = a.overrides
      ∧ (settleTakings good a).causes = a.causes ∧ (settleTakings good a).storeRunning = a.storeRunning
      ∧ (settleTakings good a).checking = a.checking ∧ (settleTakings good a).resetWait = a.resetWait
      ∧ (settleTakings good a).busyRefusals = a.busyRefusals := by
  unfold settleTakings; split <;> simp

@[simp] theorem frameArrival_agent (d : Dir) (b : Byte) (l : List Byte) :
    (frameArrival d b l s).agent.places = s.agent.places
      ∧ (frameArrival d b l s).agent.newMarks = s.agent.newMarks
      ∧ (frameArrival d b l s).agent.window = s.agent.window
      ∧ (frameArrival d b l s).agent.overrides = s.agent.overrides
      ∧ (frameArrival d b l s).agent.causes = s.agent.causes
      ∧ (frameArrival d b l s).agent.storeRunning = s.agent.storeRunning
      ∧ (frameArrival d b l s).agent.checking = s.agent.checking
      ∧ (frameArrival d b l s).agent.resetWait = s.agent.resetWait
      ∧ (frameArrival d b l s).agent.busyRefusals = s.agent.busyRefusals := by
  have h : ∀ t, (bindMarks d b t).agent.places = t.agent.places
      ∧ (bindMarks d b t).agent.newMarks = t.agent.newMarks
      ∧ (bindMarks d b t).agent.window = t.agent.window
      ∧ (bindMarks d b t).agent.overrides = t.agent.overrides
      ∧ (bindMarks d b t).agent.causes = t.agent.causes
      ∧ (bindMarks d b t).agent.storeRunning = t.agent.storeRunning
      ∧ (bindMarks d b t).agent.checking = t.agent.checking
      ∧ (bindMarks d b t).agent.resetWait = t.agent.resetWait
      ∧ (bindMarks d b t).agent.busyRefusals = t.agent.busyRefusals := by
    intro t; unfold bindMarks; split <;> simp
  unfold frameArrival
  repeat' split
  all_goals simp [h]

@[simp] theorem requestTaking_agent (i : Nat) :
    (requestTaking i s).agent.marks = s.agent.marks ∧ (requestTaking i s).agent.window = s.agent.window
      ∧ (requestTaking i s).agent.overrides = s.agent.overrides
      ∧ (requestTaking i s).agent.causes = s.agent.causes
      ∧ (requestTaking i s).agent.storeRunning = s.agent.storeRunning
      ∧ (requestTaking i s).agent.checking = s.agent.checking
      ∧ (requestTaking i s).agent.resetWait = s.agent.resetWait := by
  unfold requestTaking takeRequest refuseTaking; repeat' split
  all_goals simp

@[simp] theorem replyPlaceFill_agent (i : Nat) :
    (replyPlaceFill i s).agent.newMarks = s.agent.newMarks ∧ (replyPlaceFill i s).agent.marks = s.agent.marks
      ∧ (replyPlaceFill i s).agent.window = s.agent.window
      ∧ (replyPlaceFill i s).agent.overrides = s.agent.overrides
      ∧ (replyPlaceFill i s).agent.causes = s.agent.causes
      ∧ (replyPlaceFill i s).agent.storeRunning = s.agent.storeRunning
      ∧ (replyPlaceFill i s).agent.checking = s.agent.checking
      ∧ (replyPlaceFill i s).agent.resetWait = s.agent.resetWait
      ∧ (replyPlaceFill i s).agent.busyRefusals = s.agent.busyRefusals := by
  unfold replyPlaceFill fillFree; repeat' split
  all_goals simp

@[simp] theorem bankCheckEnd_agent :
    (bankCheckEnd s).agent.places = s.agent.places ∧ (bankCheckEnd s).agent.newMarks = s.agent.newMarks
      ∧ (bankCheckEnd s).agent.marks = s.agent.marks ∧ (bankCheckEnd s).agent.window = s.agent.window
      ∧ (bankCheckEnd s).agent.overrides = s.agent.overrides ∧ (bankCheckEnd s).agent.causes = s.agent.causes
      ∧ (bankCheckEnd s).agent.storeRunning = s.agent.storeRunning
      ∧ (bankCheckEnd s).agent.resetWait = s.agent.resetWait
      ∧ (bankCheckEnd s).agent.busyRefusals = s.agent.busyRefusals := by
  unfold bankCheckEnd endCheck; repeat' split
  all_goals simp

end Sys2Proof.Machine
end

