-- ==== Sys2Proof/Laws/Ops.lean ====
section
/-! SUPPORT. What each shared operation does, said once: offering a record, discarding the resume record, a
changeover, a change of the dryer state, an onset, keyed lists, the execution of a request, and the slots a frame has
captured. -/

namespace Sys2Proof.Machine

variable (s : State)

/-! ## The Incident Log -/

@[simp] theorem judgeAlert_log : (judgeAlert s).log.queue = s.log.queue ∧
    (judgeAlert s).log.nextSeq = s.log.nextSeq ∧ (judgeAlert s).log.dropped = s.log.dropped ∧
    (judgeAlert s).log.quietErrors = s.log.quietErrors ∧ (judgeAlert s).log.quietLate = s.log.quietLate := by
  unfold judgeAlert; simp only []; repeat' split
  all_goals simp

/-- What the judgement of ALERT makes of the log (R162, R163). -/
theorem judgeAlert_log_eq : (judgeAlert s).log =
    if s.log.alert then
      if s.log.queue.any (qualifies s.alertThreshold) then s.log
      else { s.log with alert := false, gap := if s.alertGap = 0 then none else some (s.after s.alertGap) }
    else
      match s.log.gap with
      | some _ => s.log
      | none => if s.log.queue.any (qualifies s.alertThreshold) then { s.log with alert := true } else s.log := by
  unfold judgeAlert; simp only []; repeat' split
  all_goals first | rfl | simp_all

/-- The judgement of ALERT from a state where an asserted ALERT has an idle gap timer (R162). -/
theorem judgeAlert_alert (h : s.log.alert = true → s.log.gap = none) :
    (judgeAlert s).log.alert = true ↔
      (judgeAlert s).log.gap = none ∧ s.log.queue.any (qualifies s.alertThreshold) = true := by
  unfold judgeAlert
  cases ha : s.log.alert <;> cases hg : s.log.gap <;> cases hq : s.log.queue.any (qualifies s.alertThreshold) <;>
    simp_all

/-- A class that a full queue gives up to a new record is held there (R158). -/
theorem displaced_held {c d : IncidentClass} {q : List Incident} (h : displaced c q = some d) :
    holdsClass d q = true := by
  unfold displaced at h
  cases c <;> simp only [] at h <;> repeat' split at h
  all_goals simp_all

/-- Dropping the oldest record of a class that is held removes exactly one record (R158). -/
theorem dropOldest_length {c : IncidentClass} {q : List Incident} (h : holdsClass c q = true) :
    (dropOldest c q).length + 1 = q.length := by
  induction q with
  | nil => simp [holdsClass] at h
  | cons r rest ih =>
    by_cases hr : r.code.cls = c
    · simp [dropOldest, hr]
    · simp only [dropOldest, hr, if_false, List.length_cons, Nat.add_right_cancel_iff]
      exact ih (by simpa [holdsClass, hr] using h)

/-- What the queue becomes at an admission, a displacement or a loss (R157, R158). -/
theorem placeRecord_queue (r : Incident) :
    (placeRecord r s).log.queue =
      if s.log.queue.length < queueLimit then s.log.queue ++ [r]
      else match displaced r.code.cls s.log.queue with
        | some c => dropOldest c s.log.queue ++ [r]
        | none => s.log.queue := by
  unfold placeRecord; repeat' split
  all_goals simp_all

/-- An offer the rate limit discards leaves the state as it is (R156). -/
theorem offer_limited {c : IncidentCode} (sub : Subject) (v : IncidentValue) (h : rateLimited c s.log = true) :
    offer c sub v s = s := by
  simp [offer, h]

/-- An offer that passes the rate limit takes the next sequence number and goes on to admission (R155). -/
theorem offer_passed {c : IncidentCode} (sub : Subject) (v : IncidentValue) (h : rateLimited c s.log = false) :
    offer c sub v s =
      placeRecord (incidentOf c sub v s) { s with log := { startQuiet c s.log with nextSeq := s.log.nextSeq + 1 } } := by
  simp [offer, h]

@[simp] theorem startQuiet_queue (c : IncidentCode) (l : IncidentLog) :
    (startQuiet c l).queue = l.queue ∧ (startQuiet c l).alert = l.alert ∧ (startQuiet c l).gap = l.gap ∧
    (startQuiet c l).dropped = l.dropped := by
  unfold startQuiet; split <;> simp

/-- An offer touches the log alone (R155). -/
theorem offer_eq_log (c : IncidentCode) (sub : Subject) (v : IncidentValue) :
    offer c sub v s = { s with log := (offer c sub v s).log } := by
  unfold offer placeRecord judgeAlert; simp only []; repeat' split
  all_goals rfl

/-- What an offer makes of the log depends on the log, the refresh's cycle number, the web and dryer states, the
commissioning and the time alone (R155, R162). -/
theorem offer_log_congr (c : IncidentCode) (sub : Subject) (v : IncidentValue) {s t : State} (hl : s.log = t.log)
    (hc : s.line.refreshCycle = t.line.refreshCycle) (hw : s.web.state = t.web.state)
    (hd : s.dryer.state = t.dryer.state) (hm : s.comm = t.comm) (hn : s.now = t.now) :
    (offer c sub v s).log = (offer c sub v t).log := by
  have hj : ∀ l, (judgeAlert { s with log := l }).log = (judgeAlert { t with log := l }).log := fun l => by
    have ht : ({ s with log := l } : State).alertThreshold = ({ t with log := l } : State).alertThreshold := by
      simp [State.alertThreshold, State.scalars?, hm]
    have hg : ({ s with log := l } : State).alertGap = ({ t with log := l } : State).alertGap := by
      simp [State.alertGap, State.scalars?, hm]
    rw [judgeAlert_log_eq, judgeAlert_log_eq, ht, hg, State.after, State.after, hn]
  unfold offer placeRecord incidentOf
  rw [hl, hc, hw, hd]
  simp only []
  repeat' split
  all_goals first | exact hl | exact hj _ | rfl

/-- An offer of a code that is not rate limited, to a queue with room: the record stands at the end (R157). -/
theorem offer_room {c : IncidentCode} (sub : Subject) (v : IncidentValue) (h : rateLimited c s.log = false)
    (hr : s.log.queue.length < 32) :
    (offer c sub v s).log.queue = s.log.queue ++ [incidentOf c sub v s]
      ∧ (offer c sub v s).log.nextSeq = s.log.nextSeq + 1 := by
  rw [offer_passed s sub v h]
  refine ⟨?_, ?_⟩
  · simp [placeRecord_queue, queueLimit, hr]
  · simp [placeRecord, queueLimit, hr]

/-! ## The resume record -/

/-- With no resume record there is nothing to discard (R107). -/
theorem discardResume_none (c : DiscardCause) (h : s.web.record = none) : discardResume c s = s := by
  simp [discardResume, h]

/-- The web after a discard (R107). -/
theorem discardResume_web (c : DiscardCause) :
    (discardResume c s).web =
      if s.web.record.isSome then
        (if s.web.state = .resuming then { s.web with record := none, state := .threading, timer := none }
         else { s.web with record := none })
      else s.web := by
  unfold discardResume
  cases h : s.web.record with
  | none => simp
  | some r => by_cases hs : s.web.state = .resuming <;> simp [hs]

/-! ## Banks and changeover -/

@[simp] theorem changeover_banks (b : BankNo) : (changeover b s).banks = changeoverBanks b s.banks := by
  simp [changeover]

/-- A bank's state after a changeover to `b`: `b` is ACTIVE, the former ACTIVE bank SEALED (R53). -/
theorem changeoverBanks_get (b c : BankNo) (q : Four Bank) :
    ((changeoverBanks b q).get c).state =
      if c = b then .active else if activeBank q = some c then .sealed else (q.get c).state := by
  unfold changeoverBanks
  cases h : activeBank q with
  | none => simp
  | some a =>
    simp only [setBankState_get]
    by_cases hb : c = b
    · simp [hb]
    · by_cases ha : c = a
      · subst ha; simp [hb]
      · have : ¬ a = c := fun e => ha e.symm
        simp [hb, ha, this]

/-- Every bank is among the bank numbers. -/
theorem mem_bankNumbers (b : BankNo) : b ∈ bankNumbers := by revert b; decide

/-- The bank the search finds is ACTIVE. -/
theorem activeBank_spec {q : Four Bank} {b : BankNo} (h : activeBank q = some b) : (q.get b).state = .active := by
  have := List.find?_some h
  simpa using this

/-- An ACTIVE bank is found by the search. -/
theorem activeBank_isSome {q : Four Bank} {b : BankNo} (h : (q.get b).state = .active) :
    (activeBank q).isSome = true := by
  simp only [activeBank, List.find?_isSome]
  exact ⟨b, mem_bankNumbers b, by simpa using h⟩

/-- The bank the search finds is PENDING. -/
theorem pendingBank_spec {q : Four Bank} {b : BankNo} (h : pendingBank q = some b) :
    (q.get b).state.isPending = true := by
  have := List.find?_some h
  simpa using this

/-- A PENDING bank is found by the search. -/
theorem pendingBank_isSome {q : Four Bank} {b : BankNo} (h : (q.get b).state.isPending = true) :
    (pendingBank q).isSome = true := by
  simp only [pendingBank, List.find?_isSome]
  exact ⟨b, mem_bankNumbers b, by simpa using h⟩

/-! ## The dryer -/

@[simp] theorem setDryer_dryer (d : DryerState) :
    (setDryer d s).dryer = { s.dryer with state := d, permit := d.burning } := by
  unfold setDryer; simp only []; split <;> simp

/-- A change that is not announced touches nothing but the dryer (R117). -/
theorem setDryer_silent {d : DryerState} (h : announced s.dryer.state d = false) :
    setDryer d s = { s with dryer.state := d, dryer.permit := d.burning } := by
  simp [setDryer, h]

/-- An announced change discards the resume record with cause DRYER (R108). -/
theorem setDryer_announced {d : DryerState} (h : announced s.dryer.state d = true) :
    setDryer d s = discardResume .dryer { s with dryer.state := d, dryer.permit := d.burning } := by
  simp [setDryer, h]

/-- The dryer after an onset in a state other than TRIPPED (R126, R127). -/
theorem onset_dryer (c : SafetyCondition) (sub : Subject) (v : Option Int) (h : s.dryer.state ≠ .tripped) :
    (onset c sub v s).dryer =
      fillCapture (captureOf c sub v s) { s.dryer with state := .tripped, permit := false, hold := none } := by
  simp [onset, h, DryerState.burning]

/-- The dryer after an onset in TRIPPED: a further trip (R126). -/
theorem onset_dryer_tripped (c : SafetyCondition) (sub : Subject) (v : Option Int) (h : s.dryer.state = .tripped) :
    (onset c sub v s).dryer = { s.dryer with furtherTrips := satAdd 65535 s.dryer.furtherTrips 1 } := by
  simp [onset, h]

/-- An onset always leaves the dryer TRIPPED (R126). -/
theorem onset_tripped (c : SafetyCondition) (sub : Subject) (v : Option Int) :
    (onset c sub v s).dryer.state = .tripped := by
  by_cases h : s.dryer.state = .tripped
  · rw [onset_dryer_tripped s c sub v h]; exact h
  · rw [onset_dryer s c sub v h]; unfold fillCapture; split <;> rfl

/-! ## Keyed lists -/

section Keyed
variable {κ α : Type} [DecidableEq κ]

@[simp] theorem updateKey_keys (k : κ) (f : α → α) (l : List (κ × α)) :
    (updateKey k f l).map Prod.fst = l.map Prod.fst := by
  induction l with
  | nil => rfl
  | cons p l ih => obtain ⟨k', x⟩ := p; simp only [updateKey]; split <;> simp [ih]

theorem lookupKey_updateKey_self (k : κ) (f : α → α) (l : List (κ × α)) :
    lookupKey k (updateKey k f l) = (lookupKey k l).map f := by
  induction l with
  | nil => rfl
  | cons p l ih =>
    obtain ⟨k', x⟩ := p
    by_cases h : k' = k <;> simp [updateKey, lookupKey, h, ih]

theorem lookupKey_updateKey_ne {k k' : κ} (h : k' ≠ k) (f : α → α) (l : List (κ × α)) :
    lookupKey k' (updateKey k f l) = lookupKey k' l := by
  induction l with
  | nil => rfl
  | cons p l ih =>
    obtain ⟨j, x⟩ := p
    by_cases hj : j = k
    · have hk : ¬ k = k' := fun e => h e.symm
      subst hj
      simp [updateKey, lookupKey, hk]
    · simp only [updateKey, hj, if_false, lookupKey]; rw [ih]

/-- Every entry of an updated list is an entry of the list, or one changed. -/
theorem mem_updateKey {k : κ} {f : α → α} {l : List (κ × α)} {p : κ × α} (h : p ∈ updateKey k f l) :
    p ∈ l ∨ ∃ x, (k, x) ∈ l ∧ p = (k, f x) := by
  induction l with
  | nil => simp [updateKey] at h
  | cons q l ih =>
    obtain ⟨k', x⟩ := q
    by_cases hk : k' = k
    · simp only [updateKey, hk, if_true, List.mem_cons] at h
      rcases h with h | h
      · exact .inr ⟨x, by simp [hk], h⟩
      · exact .inl (by simp [h])
    · simp only [updateKey, hk, if_false, List.mem_cons] at h
      rcases h with h | h
      · exact .inl (by simp [h])
      · rcases ih h with h | ⟨y, hy, e⟩
        · exact .inl (by simp [h])
        · exact .inr ⟨y, by simp [hy], e⟩

end Keyed

/-! ## The execution of a request -/

/-- A request that executes: its body's state, with the reply in its place (R167, R169). -/
theorem serve_head {want : Nat → Bool} {body : Place → State → State × Reply} {p : Place}
    (h : executing s = true) (hp : s.agent.head = some p) (hc : want p.code = true) :
    serve want body s = reply (body p s).2 (body p s).1 := by
  simp [serve, h, hp, hc]

/-- Everything a request row can do: nothing, or its body's effect and the reply. -/
theorem serve_cases (want : Nat → Bool) (body : Place → State → State × Reply) :
    serve want body s = s ∨
      ∃ p, executing s = true ∧ s.agent.head = some p ∧ want p.code = true ∧
        serve want body s = reply (body p s).2 (body p s).1 := by
  unfold serve
  by_cases he : executing s = true
  · cases hp : s.agent.head with
    | none => simp [he]
    | some p =>
      by_cases hc : want p.code = true
      · exact .inr ⟨p, he, rfl, hc, by simp [he, hc]⟩
      · simp [he, hc]
  · simp [he]

/-- A refused request leaves the state, its place apart, as it was. -/
theorem refuse_eq (st : Status) : refuse st s = (s, plain st) := rfl

/-- A body whose parameters reach. -/
theorem needing_served {need : Nat} {body : Place → State → State × Reply} {p : Place}
    (h : p.lengthServes need = true) : needing need body p s = body p s := by
  simp [needing, h]

/-- A body whose parameters do not reach, or are too long: RANGE, nothing changed (R193). -/
theorem needing_short {need : Nat} {body : Place → State → State × Reply} {p : Place}
    (h : p.lengthServes need = false) : needing need body p s = (s, plain .range) := by
  simp [needing, h]

/-- The answered list has the same length. -/
@[simp] theorem answerHead_length (r : Reply) (ps : List Place) : (answerHead r ps).length = ps.length := by
  induction ps with
  | nil => rfl
  | cons p rest ih => simp only [answerHead]; split <;> simp [ih]

/-! ## Captured slots -/

/-- No more slots lie between two positions than positions do, and none beyond the 96th. -/
theorem slotsBetween_length (bs : List Byte) (a b : Nat) : (slotsBetween bs a b).length ≤ min b 96 - a := by
  have h := List.length_filterMap_le (slotAt bs) ((List.range (min b (min 96 (slotCount bs)))).drop a)
  simp only [slotsBetween, List.length_drop, List.length_range] at h ⊢
  omega

/-- What a frame has captured never outgrows the positions that have passed. -/
theorem captureTo_length (m : List SlotEntry) {b : Nat} {t : Transit} (h : t.captured.length ≤ min 96 t.cursor)
    (hb : t.cursor ≤ b ∨ 96 ≤ b) : (captureTo m b t).length ≤ min 96 b := by
  have h1 := slotsBetween_length t.arrived t.cursor b
  have h2 := List.length_filter_le (isCaptured m) (slotsBetween t.arrived t.cursor b)
  simp only [captureTo, List.length_append]
  omega

end Sys2Proof.Machine
end

