-- ==== Sys2Proof/Laws/Requests.lean ====
section
/-! SUPPORT. Everything each request can leave behind: its state after execution is the state before it, or one named
effect under the conditions the rule gives. The invariant proofs cite these in place of unfolding a request. -/

namespace Sys2Proof.Machine

variable (p : Place) (s : State)

/-- A request with too short or too long parameters changes nothing; otherwise it is its body (R193). -/
theorem needing_state (need : Nat) (body : Place → State → State × Reply) :
    (needing need body p s).1 = s ∨ (needing need body p s).1 = (body p s).1 := by
  unfold needing; split
  · exact .inr rfl
  · exact .inl rfl

@[simp] theorem unknownRequest_state : (unknownRequest p s).1 = s := rfl
@[simp] theorem identify_state : (identify p s).1 = s := rfl
@[simp] theorem readTripCapture_state : (readTripCapture p s).1 = s := rfl
@[simp] theorem clearResetCause_state :
    (clearResetCause p s).1 = { s with agent.causes := { powerOn := false, pin := false, service := false } } := rfl

/-- SEAL_BANK: nothing, or the check of an EDITING bank starts while no bank is CHECKING (R45). -/
theorem sealBank_state : (sealBank p s).1 = s ∨
    ∃ b, s.commissioned = true ∧ anyChecking s.banks = false ∧ (s.banks.get b).state = .editing ∧
      (sealBank p s).1 = startCheck b s := by
  unfold sealBank refuse; repeat' split
  all_goals first
    | exact .inl rfl
    | exact .inr ⟨_, by simp_all, by simp_all, by assumption, rfl⟩

/-- CLEAR_BANK: nothing, or an EMPTY, EDITING or SEALED bank is cleared (R49). -/
theorem clearBank_state : (clearBank p s).1 = s ∨
    ∃ b, ((s.banks.get b).state = .empty ∨ (s.banks.get b).state = .editing ∨ (s.banks.get b).state = .sealed) ∧
      (clearBank p s).1 = { s with banks := s.banks.set b Bank.cleared } := by
  unfold clearBank refuse; repeat' split
  all_goals first
    | exact .inl rfl
    | exact .inr ⟨_, by simp [*], rfl⟩

/-- ACTIVATE_BANK: nothing, or a SEALED bank is activated (R50). -/
theorem activateBank_state : (activateBank p s).1 = s ∨
    ∃ b m, (s.banks.get b).state = .sealed ∧ (activateBank p s).1 = activate b m s := by
  unfold activateBank refuse; repeat' split
  all_goals first
    | exact .inl rfl
    | exact .inr ⟨_, _, by assumption, rfl⟩

/-- CANCEL_ACTIVATION: nothing, or the PENDING bank returns to SEALED (R54). -/
theorem cancelActivation_state : (cancelActivation p s).1 = s ∨
    (cancelActivation p s).1 = { s with banks := unqueue s.banks } := by
  unfold cancelActivation refuse; split
  · exact .inr rfl
  · exact .inl rfl

/-- A REPLACE window opens only on a writable list whose bank or store lets it be written (R172). -/
theorem openBar_replace {t : Table} {start : Nat} (h : openBar t .replace start s = none) :
    t.readOnly = false ∧ t.isList = true ∧ writeBar t s = none := by
  unfold openBar at h
  cases h1 : t.readOnly <;> cases h2 : t.isList <;> cases h3 : writeBar t s <;> simp [h1, h2, h3] at h ⊢

/-- OPEN_WINDOW: a window is closed, or opened, or opened on an emptied list that may be written (R172). -/
theorem openWindow_state : (openWindow p s).1 = shutWindow s ∨
    (∃ w, (openWindow p s).1 = { shutWindow s with agent.window := some w }) ∨
    ∃ t w, t.readOnly = false ∧ t.isList = true ∧ writeBar t (shutWindow s) = none ∧
      (openWindow p s).1 = { emptyList t (shutWindow s) with agent.window := some w } := by
  unfold openWindow needing openJudged refuse
  by_cases hl : p.lengthServes 7 = true
  · simp only [hl, if_true]
    cases h1 : tableOf (p.byteParam 0) (p.byteParam 1) (p.byteParam 2) (shutWindow s) with
    | none => exact .inl rfl
    | some t =>
      cases h2 : directionOf (p.byteParam 5) with
      | none => exact .inl rfl
      | some f =>
        cases h3 : windowModeOf (p.byteParam 6) with
        | none => exact .inl rfl
        | some m =>
          cases hb : openBar t m (p.wordParam 3) (shutWindow s) with
          | some st => exact .inl (by simp only [hb])
          | none =>
            simp only [hb, openAt]
            by_cases hr : m = .replace
            · subst hr
              obtain ⟨a, b, c⟩ := openBar_replace _ hb
              exact .inr (.inr ⟨t, _, a, b, c, rfl⟩)
            · exact .inr (.inl ⟨_, by simp only [hr, if_false]; rfl⟩)
  · simp only [hl]; exact .inl rfl

/-- READ_NEXT changes at most the window (R174). -/
theorem readNext_state : ∃ w, (readNext p s).1 = { s with agent.window := w } := by
  unfold readNext readThrough closeWith refuse shutWindow
  repeat' split
  all_goals first | exact ⟨s.agent.window, rfl⟩ | exact ⟨_, rfl⟩

/-- CLOSE_WINDOW changes at most the window (R174). -/
theorem closeWindow_state : ∃ w, (closeWindow p s).1 = { s with agent.window := w } := by
  unfold closeWindow closeWith refuse shutWindow
  repeat' split
  all_goals first | exact ⟨s.agent.window, rfl⟩ | exact ⟨_, rfl⟩

/-- WRITE_NEXT changes at most the window, or writes an item of a table that may be written, at a cursor the table
has (R174). -/
theorem writeNext_state : (∃ w, (writeNext p s).1 = { s with agent.window := w }) ∨
    ∃ w u x, s.agent.window = some w ∧ w.table.inForce s = true ∧ writeBar w.table s = none ∧
      beyondTable w s = false ∧ writeItem w.table w.cursor.toNat p s = some u ∧
      (writeNext p s).1 = { u with agent.window := x } := by
  unfold writeNext writeOpen writeThrough closeWith refuse shutWindow
  repeat' split
  all_goals first
    | exact .inl ⟨s.agent.window, rfl⟩
    | exact .inl ⟨_, rfl⟩
    | exact .inr ⟨_, _, _, by assumption, by simp_all, by assumption, by simp_all, by assumption, rfl⟩

/-- STORE: nothing, or the write starts with the dryer UNPURGED or TRIPPED and a working copy that passes (R183). -/
theorem storeRequest_state : (storeRequest p s).1 = s ∨
    (s.agent.storeRunning = false ∧ (s.dryer.state = .unpurged ∨ s.dryer.state = .tripped) ∧
      checkData s.comm.working = none ∧ (storeRequest p s).1 = startStore s) := by
  unfold storeRequest refuse; repeat' split
  all_goals try exact .inl rfl
  refine .inr ⟨by simp_all, ?_, by assumption, rfl⟩
  rename_i h _ _
  by_cases hu : s.dryer.state = .unpurged
  · exact .inl hu
  · exact .inr (by simpa [hu] using h)

/-- RELOAD: nothing, or the working copy is loaded again and a commissioning window closes (R186). -/
theorem reload_state : (reload p s).1 = s ∨
    (s.agent.storeRunning = false ∧ (reload p s).1 =
      { s with
        comm.working := loadedWorking s.comm.inForce
        agent.window := closeCommissioningWindow s.agent.window }) := by
  unfold reload refuse; split
  · exact .inl rfl
  · exact .inr ⟨by simp_all, rfl⟩

/-- START_PURGE: nothing, or an UNPURGED dryer of a COMMISSIONED part that is ONLINE goes to PURGING (R128). -/
theorem startPurge_state : (startPurge p s).1 = s ∨
    (s.commissioned = true ∧ s.agent.storeRunning = false ∧ s.dryer.state = .unpurged ∧ s.line.state = .online ∧
      (startPurge p s).1 = { s with
        dryer.state := .purging, dryer.permit := false, dryer.accumulator := 0, dryer.remainder := 0 }) := by
  unfold startPurge refuse; repeat' split
  all_goals try exact .inl rfl
  refine .inr ⟨by simp_all, by simp_all, by simp_all, by simp_all, ?_⟩
  have h : s.dryer.state = .unpurged := by simp_all
  simp [setDryer, announced, h, DryerState.burning]

/-- ABORT_PURGE: nothing, or a PURGING dryer goes to UNPURGED (R130). -/
theorem abortPurge_state : (abortPurge p s).1 = s ∨
    (s.dryer.state = .purging ∧
      (abortPurge p s).1 = { s with dryer.state := .unpurged, dryer.permit := false }) := by
  unfold abortPurge refuse; split
  · rename_i h
    exact .inr ⟨h, by simp [setDryer, announced, h, DryerState.burning]⟩
  · exact .inl rfl

/-- RESET_TRIP: nothing, or a TRIPPED dryer with no active condition and every flame out is reset (R133). -/
theorem resetTrip_state : (resetTrip p s).1 = s ∨
    (s.dryer.state = .tripped ∧ firstActive s.dryer = none ∧ litZone s = none ∧
      (resetTrip p s).1 = acceptReset s) := by
  unfold resetTrip; repeat' split
  all_goals first
    | exact .inl rfl
    | exact .inr ⟨by simp_all, by assumption, by assumption, rfl⟩

/-- SET_PREHEAT changes at most the preheat flag (R111). -/
theorem setPreheat_state : ∃ b, (setPreheat p s).1 = { s with web.preheat := b } := by
  unfold setPreheat refuse; split
  · exact ⟨_, rfl⟩
  · exact ⟨s.web.preheat, rfl⟩

/-- RESUME_DISCARD: nothing, or a standing resume record is discarded (R107). -/
theorem resumeDiscard_state : (resumeDiscard p s).1 = s ∨ (resumeDiscard p s).1 = discardResume .request s := by
  unfold resumeDiscard refuse; split
  · exact .inr rfl
  · exact .inl rfl

/-- RELEASE and RECLAIM: nothing, or the released flag of a mapped command role moves (R152). -/
theorem judgeRelease_state (b : Bool) : (judgeRelease b p s).1 = s ∨
    ∃ r, s.commissioned = true ∧ (commandEntry s.map r).isSome = true ∧
      (judgeRelease b p s).1 = setReleased r b s := by
  unfold judgeRelease refuse; repeat' split
  all_goals try exact .inl rfl
  rename_i r _ _ _ h
  refine .inr ⟨r, by simp_all, ?_, rfl⟩
  cases hc : commandEntry s.map r <;> simp_all

/-- TAKE_INCIDENTS: nothing, or the oldest records leave the queue (R161). -/
theorem takeIncidents_state : (takeIncidents p s).1 = s ∨ ∃ n, (takeIncidents p s).1 = removeOldest n s := by
  unfold takeIncidents refuse; simp only []; split
  · exact .inr ⟨_, rfl⟩
  · exact .inl rfl

/-- SET_OVERRIDE: nothing, or an override in its range is set (R176). -/
theorem setOverride_state : (setOverride p s).1 = s ∨
    ∃ q v, s.commissioned = true ∧ q.range.1 ≤ v ∧ v ≤ q.range.2 ∧
      (setOverride p s).1 = withOverrides (setOverrideOf q (some v) s.agent.overrides) s := by
  unfold setOverride refuse; repeat' split
  all_goals try exact .inl rfl
  rename_i q _ _ h
  exact .inr ⟨q, p.wordParam 1, by simp_all, h.1, h.2, rfl⟩

/-- CLEAR_OVERRIDE: nothing, or one override or every override becomes absent (R176). -/
theorem clearOverride_state : (clearOverride p s).1 = s ∨
    ∃ o, (clearOverride p s).1 = withOverrides o s ∧
      (o = Overrides.absent ∨ ∃ q, o = setOverrideOf q none s.agent.overrides) := by
  unfold clearOverride refuse; repeat' split
  all_goals first
    | exact .inl rfl
    | exact .inr ⟨_, rfl, .inl rfl⟩
    | exact .inr ⟨_, rfl, .inr ⟨_, rfl⟩⟩

/-- READ_COUNTERS: nothing, or the counters read are cleared (R177). -/
theorem readCounters_state : (readCounters p s).1 = s ∨
    ∃ first count, (readCounters p s).1 = (counterRange first count).foldl clearCounter s := by
  unfold readCounters refuse; simp only []; repeat' split
  all_goals first
    | exact .inl rfl
    | exact .inr ⟨_, _, rfl⟩

/-- RESET_PART: nothing, or the service reset wait starts while no STORE runs (R179). -/
theorem resetPart_state : (resetPart p s).1 = s ∨
    (s.agent.storeRunning = false ∧ (resetPart p s).1 = { s with agent.resetWait := some (s.after 100) }) := by
  unfold resetPart refuse; split
  · exact .inl rfl
  · exact .inr ⟨by simp_all, rfl⟩

end Sys2Proof.Machine
end

