-- ==== Sys2Proof/Laws/Steps.lean ====
section
/-! SUPPORT. How a property of states is carried through a step: what a request row keeps, what has to be kept for
every command to keep it, how an invariant of every command becomes one of every step, and that every order of
reactions holds each once. -/

namespace Sys2Proof.Machine

variable {P : State → Prop}

/-- A request row keeps what its body and the entry of a reply keep. -/
theorem serve_keeps (s : State) (want : Nat → Bool) (body : Place → State → State × Reply)
    (hr : ∀ r t, P t → P (reply r t)) (hb : ∀ p, executing s = true → P (body p s).1) (h : P s) :
    P (serve want body s) := by
  rcases serve_cases s want body with e | ⟨p, he, _, _, e⟩
  · rw [e]; exact h
  · rw [e]; exact hr _ _ (hb p he)

/-- A request whose parameters must reach keeps what its body keeps. -/
theorem needing_keeps (s : State) (need : Nat) (body : Place → State → State × Reply) (p : Place)
    (hb : P (body p s).1) (h : P s) : P (needing need body p s).1 := by
  rcases needing_state p s need body with e | e <;> rw [e] <;> assumption

/-- What every command keeps, every step keeps, when the queue does not matter to it. -/
theorem step_keeps (hq : ∀ (s : State) l, P s → P { s with pending := l })
    (he : ∀ c s t, P s → exec c s = .next t → P t) {s t : State} (h : P s) (hs : step s = .next t) : P t := by
  unfold step at hs
  split at hs
  · cases hs; exact h
  · exact he _ _ _ (hq _ _ h) hs

/-- A property kept by each operation that a command comes down to, under what the command has judged by then: the
requests' operations run only in a running part. -/
structure Kept (P : State → Prop) : Prop where
  queue : ∀ s l, P s → P { s with pending := l }
  reply : ∀ r s, P s → P (reply r s)
  frameArrival : ∀ d b l s, P s → P (frameArrival d b l s)
  commandPassage : ∀ i s, P s → P (commandPassage i s)
  statusSlotWrite : ∀ i s, P s → P (statusSlotWrite i s)
  requestTaking : ∀ i s, P s → P (requestTaking i s)
  replyPlaceFill : ∀ i s, P s → P (replyPlaceFill i s)
  frameEnd : ∀ n d us s, P s → P (frameEnd n d us s)
  resumeTimer : ∀ s, P s → P (resumeTimerExpiry s)
  schedule : ∀ s, P s → P (scheduleEvaluationComplete s)
  solvent : ∀ n s, P s → P (solventEvaluationComplete n s)
  silence : ∀ s, P s → P (silenceTimerExpiry s)
  breakIn : ∀ l s, P s → P (breakInChange l s)
  purgeHold : ∀ s, P s → P (purgeHoldExpiry s)
  alertGap : ∀ s, P s → P (alertGapExpiry s)
  causes : ∀ s, s.phase = .running → P s →
    P { s with agent.causes := { powerOn := false, pin := false, service := false } }
  window : ∀ w s, s.phase = .running → P s → P { s with agent.window := w }
  emptyList : ∀ t s, s.phase = .running → t.readOnly = false → t.isList = true → writeBar t s = none → P s →
    P (emptyList t s)
  writeItem : ∀ w p s u, s.phase = .running → w.table.inForce s = true → writeBar w.table s = none →
    beyondTable w s = false → writeItem w.table w.cursor.toNat p s = some u → P s → P u
  startCheck : ∀ b s, s.phase = .running → s.commissioned = true → anyChecking s.banks = false →
    (s.banks.get b).state = .editing → P s → P (startCheck b s)
  bankCheckEnd : ∀ s, P s → P (bankCheckEnd s)
  clearBank : ∀ b s, s.phase = .running →
    ((s.banks.get b).state = .empty ∨ (s.banks.get b).state = .editing ∨ (s.banks.get b).state = .sealed) →
    P s → P { s with banks := s.banks.set b Bank.cleared }
  activate : ∀ b m s, s.phase = .running → (s.banks.get b).state = .sealed → P s → P (activate b m s)
  unqueue : ∀ s, s.phase = .running → P s → P { s with banks := unqueue s.banks }
  startStore : ∀ s, s.phase = .running → s.agent.storeRunning = false →
    (s.dryer.state = .unpurged ∨ s.dryer.state = .tripped) → checkData s.comm.working = none →
    P s → P (startStore s)
  storeWrite : ∀ s, P s → P (storeWriteComplete s)
  reloadWorking : ∀ s, s.phase = .running → s.agent.storeRunning = false → P s →
    P { s with comm.working := loadedWorking s.comm.inForce }
  startPurge : ∀ s, s.phase = .running → s.commissioned = true → s.agent.storeRunning = false →
    s.dryer.state = .unpurged → s.line.state = .online → P s →
    P { s with dryer.state := .purging, dryer.permit := false, dryer.accumulator := 0, dryer.remainder := 0 }
  abortPurge : ∀ s, s.phase = .running → s.dryer.state = .purging → P s →
    P { s with dryer.state := .unpurged, dryer.permit := false }
  acceptReset : ∀ s, s.phase = .running → s.dryer.state = .tripped → firstActive s.dryer = none →
    litZone s = none → P s → P (acceptReset s)
  preheat : ∀ b s, s.phase = .running → P s → P { s with web.preheat := b }
  discard : ∀ s, s.phase = .running → P s → P (discardResume .request s)
  released : ∀ r b s, s.phase = .running → s.commissioned = true → (commandEntry s.map r).isSome = true →
    P s → P (setReleased r b s)
  removeOldest : ∀ n s, s.phase = .running → P s → P (removeOldest n s)
  overrides : ∀ o s, s.phase = .running → P s → P (withOverrides o s)
  clearCounter : ∀ s n, s.phase = .running → P s → P (clearCounter s n)
  resetWait : ∀ d s, s.phase = .running → s.agent.storeRunning = false → P s →
    P { s with agent.resetWait := some d }
  waitExpiry : ∀ s, P s → P (serviceResetWaitExpiry s)
  powerOn : ∀ s, P s → P (powerOn s)
  supplyLoss : ∀ s, P s → P (supplyLoss s)
  pinAssert : ∀ s, P s → P (resetPinAssert s)
  pinRelease : ∀ s, P s → P (resetPinRelease s)
  loadComplete : ∀ s, P s → P (storeLoadComplete s)

@[simp] theorem clearCounter_phase (s : State) (n : Nat) : (clearCounter s n).phase = s.phase := by
  unfold clearCounter; split <;> rfl

theorem executing_running {s : State} (h : executing s = true) : s.phase = .running := by
  simp only [executing, Bool.and_eq_true, decide_eq_true_eq] at h; exact h.1

theorem clearCounters_keep (h : Kept P) (l : List Nat) (s : State) (hp : s.phase = .running) (hs : P s) :
    P (l.foldl clearCounter s) := by
  induction l generalizing s with
  | nil => exact hs
  | cons n l ih => exact ih _ (by simpa using hp) (h.clearCounter s n hp hs)

/-- A property that every operation keeps, every command keeps. -/
theorem Kept.exec (h : Kept P) (c : Instr) (s t : State) (hs : P s) (he : exec c s = .next t) : P t := by
  have sv : ∀ want body, (∀ p, s.phase = .running → P (body p s).1) → P (serve want body s) := fun want body hb =>
    serve_keeps s want body h.reply (fun p e => hb p (executing_running e)) hs
  have sn : ∀ want need body, (∀ p, s.phase = .running → P (body p s).1) →
      P (serve want (needing need body) s) := fun want need body hb =>
    sv _ _ fun p e => needing_keeps s need body p (hb p e) hs
  have hw : ∀ w, s.phase = .running → P { s with agent.window := w } := fun w e => h.window w s e hs
  cases c with
  | frameArrival d b l => cases he; exact h.frameArrival _ _ _ _ hs
  | commandPassage i => cases he; exact h.commandPassage _ _ hs
  | statusSlotWrite i => cases he; exact h.statusSlotWrite _ _ hs
  | requestTaking i => cases he; exact h.requestTaking _ _ hs
  | replyPlaceFill i => cases he; exact h.replyPlaceFill _ _ hs
  | frameEnd d us => cases he; exact h.frameEnd _ _ _ _ hs
  | resumeTimerExpiry => cases he; exact h.resumeTimer _ hs
  | scheduleEvaluationComplete => cases he; exact h.schedule _ hs
  | solventEvaluationComplete => cases he; exact h.solvent _ _ hs
  | silenceTimerExpiry => cases he; exact h.silence _ hs
  | breakInChange l => cases he; exact h.breakIn _ _ hs
  | purgeHoldExpiry => cases he; exact h.purgeHold _ hs
  | alertGapExpiry => cases he; exact h.alertGap _ hs
  | unknownRequest => cases he; exact sv _ _ fun _ _ => hs
  | identify => cases he; exact sn _ _ _ fun _ _ => hs
  | clearResetCause => cases he; exact sn _ _ _ fun _ e => h.causes _ e hs
  | openWindow =>
    cases he
    refine sv _ _ fun p e => ?_
    rcases openWindow_state p s with q | ⟨w, q⟩ | ⟨t, w, a, b, g, q⟩ <;> rw [q]
    · exact hw _ e
    · exact h.window w _ e (hw _ e)
    · exact h.window w _ (by simpa using e) (h.emptyList t _ e a b g (hw _ e))
  | writeNext =>
    cases he
    refine sv _ _ fun p e => ?_
    rcases writeNext_state p s with ⟨w, q⟩ | ⟨w, u, x, _, a, b, g, i, q⟩ <;> rw [q]
    · exact hw _ e
    · refine h.window x u ?_ (h.writeItem w p s u e a b g i hs)
      unfold Machine.writeItem at i
      split at i <;> simp [Option.map_eq_some_iff] at i <;> (try obtain ⟨_, _, rfl⟩ := i) <;> exact e
  | readNext => cases he; exact sv _ _ fun p e => by obtain ⟨w, q⟩ := readNext_state p s; rw [q]; exact hw w e
  | closeWindow => cases he; exact sv _ _ fun p e => by obtain ⟨w, q⟩ := closeWindow_state p s; rw [q]; exact hw w e
  | sealBank =>
    cases he
    refine sn _ _ _ fun p e => ?_
    rcases sealBank_state p s with q | ⟨b, a, g, i, q⟩ <;> rw [q]
    · exact hs
    · exact h.startCheck b s e a g i hs
  | bankCheckEnd => cases he; exact h.bankCheckEnd _ hs
  | clearBank =>
    cases he
    refine sn _ _ _ fun p e => ?_
    rcases clearBank_state p s with q | ⟨b, a, q⟩ <;> rw [q]
    · exact hs
    · exact h.clearBank b s e a hs
  | activateBank =>
    cases he
    refine sn _ _ _ fun p e => ?_
    rcases activateBank_state p s with q | ⟨b, m, a, q⟩ <;> rw [q]
    · exact hs
    · exact h.activate b m s e a hs
  | cancelActivation =>
    cases he
    refine sn _ _ _ fun p e => ?_
    rcases cancelActivation_state p s with q | q <;> rw [q]
    · exact hs
    · exact h.unqueue s e hs
  | store =>
    cases he
    refine sn _ _ _ fun p e => ?_
    rcases storeRequest_state p s with q | ⟨a, b, g, q⟩ <;> rw [q]
    · exact hs
    · exact h.startStore s e a b g hs
  | storeWriteComplete => cases he; exact h.storeWrite _ hs
  | reload =>
    cases he
    refine sn _ _ _ fun p e => ?_
    rcases reload_state p s with q | ⟨a, q⟩ <;> rw [q]
    · exact hs
    · exact h.window (closeCommissioningWindow s.agent.window)
        { s with comm.working := loadedWorking s.comm.inForce } e (h.reloadWorking s e a hs)
  | startPurge =>
    cases he
    refine sn _ _ _ fun p e => ?_
    rcases startPurge_state p s with q | ⟨a, b, g, i, q⟩ <;> rw [q]
    · exact hs
    · exact h.startPurge s e a b g i hs
  | abortPurge =>
    cases he
    refine sn _ _ _ fun p e => ?_
    rcases abortPurge_state p s with q | ⟨a, q⟩ <;> rw [q]
    · exact hs
    · exact h.abortPurge s e a hs
  | resetTrip =>
    cases he
    refine sn _ _ _ fun p e => ?_
    rcases resetTrip_state p s with q | ⟨a, b, g, q⟩ <;> rw [q]
    · exact hs
    · exact h.acceptReset s e a b g hs
  | setPreheat => cases he; exact sn _ _ _ fun p e => by obtain ⟨b, q⟩ := setPreheat_state p s; rw [q]; exact h.preheat b s e hs
  | release =>
    cases he
    refine sn _ _ _ fun p e => ?_
    rcases judgeRelease_state p s true with q | ⟨r, a, b, q⟩ <;> rw [release, q]
    · exact hs
    · exact h.released r true s e a b hs
  | reclaim =>
    cases he
    refine sn _ _ _ fun p e => ?_
    rcases judgeRelease_state p s false with q | ⟨r, a, b, q⟩ <;> rw [reclaim, q]
    · exact hs
    · exact h.released r false s e a b hs
  | resumeDiscard =>
    cases he
    refine sn _ _ _ fun p e => ?_
    rcases resumeDiscard_state p s with q | q <;> rw [q]
    · exact hs
    · exact h.discard s e hs
  | takeIncidents =>
    cases he
    refine sn _ _ _ fun p e => ?_
    rcases takeIncidents_state p s with q | ⟨n, q⟩ <;> rw [q]
    · exact hs
    · exact h.removeOldest n s e hs
  | readTripCapture => cases he; exact sn _ _ _ fun _ _ => hs
  | setOverride =>
    cases he
    refine sn _ _ _ fun p e => ?_
    rcases setOverride_state p s with q | ⟨a, v, _, _, _, q⟩ <;> rw [q]
    · exact hs
    · exact h.overrides _ s e hs
  | clearOverride =>
    cases he
    refine sn _ _ _ fun p e => ?_
    rcases clearOverride_state p s with q | ⟨o, q, _⟩ <;> rw [q]
    · exact hs
    · exact h.overrides _ s e hs
  | readCounters =>
    cases he
    refine sn _ _ _ fun p e => ?_
    rcases readCounters_state p s with q | ⟨a, b, q⟩ <;> rw [q]
    · exact hs
    · exact clearCounters_keep h _ _ e hs
  | resetPart =>
    cases he
    refine sn _ _ _ fun p e => ?_
    rcases resetPart_state p s with q | ⟨a, q⟩ <;> rw [q]
    · exact hs
    · exact h.resetWait _ s e a hs
  | serviceResetWaitExpiry => cases he; exact h.waitExpiry _ hs
  | powerOn => cases he; exact h.powerOn _ hs
  | resetPinAssert => cases he; exact h.pinAssert _ hs
  | resetPinRelease => cases he; exact h.pinRelease _ hs
  | storeLoadComplete => cases he; exact h.loadComplete _ hs
  | supplyLoss => cases he; exact h.supplyLoss _ hs

/-- A property that every operation keeps, every step keeps. -/
theorem Kept.step (h : Kept P) (s t : State) (hs : P s) (he : step s = .next t) : P t :=
  step_keeps h.queue h.exec hs he

/-! ## The end of a frame -/

/-- A refresh as a frame end makes it: its cycle step is at least 1. -/
def SoundStep (r : Refresh) : Prop := 1 ≤ r.step

/-- A property kept by each operation that the end of a frame comes down to. -/
structure KeptAtEnd (P : State → Prop) : Prop where
  leave : ∀ d us t rest s, s.line.state ≠ .bypass → s.line.store d = t :: rest → P s →
    P { elapse us s with line := releasePlace d t s.line }
  outCycle : ∀ t s, P s → P { s with line := outCycleLine t (countFrame .out t s.line) }
  outService : ∀ t s, P s →
    P { s with line := countFrame .out t s.line, agent := settleTakings (goodFrame t.arrived) s.agent }
  repeated : ∀ t s, P s → P { s with line := repeatedLine (countFrame .back t s.line) }
  good : ∀ t c n s, s.line.state ≠ .bypass → P s →
    P (startSilence { s with line := goodBackLine c n (countFrame .back t s.line) })
  poisoned : ∀ t s, P s → P { s with line := poisonedBackLine (countFrame .back t s.line) }
  backService : ∀ t s, P s →
    P { s with
      line := countFrame .back t s.line, agent.places := settleReplies (goodFrame t.arrived) s.agent.places }
  serviceReset : ∀ s, P s → P (serviceReset s)
  errors : ∀ s, P s → P (frameErrors s)
  choice : ∀ s, P s → P (takeChoice s)
  interval : ∀ reg c s, P s → P (measureInterval reg c s)
  samples : ∀ r s, SoundStep r → P s → P (takeSamples r s)
  react : ∀ r x s, SoundStep r → P s → P (react r x s)

/-- A reaction put into an order comes once, beside the others. -/
theorem insertNth_perm (x : Reaction) (i : Nat) (l : List Reaction) : (insertNth x i l).Perm (x :: l) := by
  induction i generalizing l with
  | zero => exact .refl _
  | succ i ih =>
    cases l with
    | nil => exact .refl _
    | cons y l => exact ((ih l).cons y).trans (.swap x y l)

/-- Whatever its number, an order holds every reaction of the list and each once (log 1). -/
theorem arrange_perm (l : List Reaction) (k : Nat) : (arrange l k).Perm l := by
  induction l generalizing k with
  | nil => exact .refl _
  | cons x l ih => exact (insertNth_perm x _ _).trans ((ih _).cons x)

theorem KeptAtEnd.refresh (h : KeptAtEnd P) (n : Nat) (r : Refresh) (s : State) (hr : SoundStep r) (hs : P s) :
    P (takeRefresh n r s) := by
  have board : ∀ n r s, SoundStep r → P s → P (boardRefresh n r s) := by
    intro n r s hr hs
    unfold boardRefresh reactAll
    have h0 := h.samples r _ hr (h.interval r.regular r.cycle s hs)
    generalize arrange reactions n = l
    generalize takeSamples r (measureInterval r.regular r.cycle s) = u at h0
    induction l generalizing u with
    | nil => exact h0
    | cons x l ih => exact ih _ (h.react r x u hr h0)
  unfold takeRefresh
  split
  · exact board _ _ _ hr (h.react r _ _ hr (h.choice s hs))
  · exact board _ _ _ hr (h.choice s hs)

theorem KeptAtEnd.offerErrors (h : KeptAtEnd P) (t : Transit) (s : State) (hs : P s) : P (offerErrors t s) := by
  unfold Machine.offerErrors; split
  · exact h.errors _ hs
  · exact hs

/-- A cycle step that the numbering gives is at least 1 (R11). -/
theorem numbering_step {last : Option CycleNo} {c : CycleNo} {n : Nat} (h : numbering last c = .step n) : 1 ≤ n := by
  unfold numbering at h
  cases last with
  | none => simp at h; omega
  | some l =>
    simp only at h
    split at h
    · cases h
    · split at h
      · cases h; rename_i h0 _; exact Nat.one_le_iff_ne_zero.2 h0
      · cases h

/-- A property that every operation of a frame end keeps, the frame end keeps. -/
theorem KeptAtEnd.frameEnd (h : KeptAtEnd P) (n : Nat) (d : Dir) (us : Nat) (s : State) (hs : P s) :
    P (frameEnd n d us s) := by
  unfold Machine.frameEnd
  split
  · exact hs
  · rename_i hb
    split
    · exact hs
    · rename_i t rest ht
      have h0 := h.leave d us t rest s hb ht hs
      have hl : ({ elapse us s with line := releasePlace d t s.line } : State).line.state ≠ .bypass := by
        cases d <;> exact hb
      generalize ({ elapse us s with line := releasePlace d t s.line } : State) = u at h0 hl
      unfold endOf
      split
      · exact h0
      · exact h.offerErrors t _ (h.outCycle t u h0)
      · unfold backCycleEnd
        simp only []
        split
        · split
          · rename_i m hm
            exact h.refresh _ _ _ (numbering_step hm) (h.good t _ _ u hl h0)
          · exact h.offerErrors t _ (h.repeated t u h0)
          · exact h.refresh _ _ _ (by show 1 ≤ 255; omega) (h.good t _ _ u hl h0)
        · exact h.refresh _ _ _ (Nat.le_refl 1) (h.poisoned t u h0)
      · exact h.offerErrors t _ (h.outService t u h0)
      · unfold backServiceEnd
        simp only []
        split
        · exact h.serviceReset _ (h.offerErrors t _ (h.backService t u h0))
        · exact h.offerErrors t _ (h.backService t u h0)

end Sys2Proof.Machine
end

