-- ==== Sys2Proof/Laws/Executes.lean ====
section
/-! SUPPORT. A request that executes gives its body's state and reply; what closing the window leaves alone. -/

namespace Sys2Proof.Machine

variable {code need : Nat} {p : Place} {s : State}

/-- An executing request's parameters reach. -/
theorem Executes.serves (h : Executes code need p s) : p.lengthServes need = true := by
  obtain ⟨_, _, _, _, h5, h6⟩ := h
  simp [Place.lengthServes, h5, h6]

/-- The row of an executing request is its body's state with the reply in its place (R169). -/
theorem Executes.serve_eq (h : Executes code need p s) (body : Place → State → State × Reply) :
    serve (isCode code) body s = reply (body p s).2 (body p s).1 := by
  obtain ⟨h1, h2, h3, h4, _, _⟩ := h
  simp [serve, executing, h1, h2, h3, isCode, h4]

/-- The same of a request whose parameters must reach (R193). -/
theorem Executes.needing_eq (h : Executes code need p s) (body : Place → State → State × Reply) :
    serve (isCode code) (needing need body) s = reply (body p s).2 (body p s).1 := by
  rw [h.serve_eq, needing_served s h.serves]

@[simp] theorem tableOf_shutWindow (a b c : Nat) : tableOf a b c (shutWindow s) = tableOf a b c s := by
  unfold tableOf; rfl

@[simp] theorem tablePositions_shutWindow (t : Table) : tablePositions t (shutWindow s) = tablePositions t s := by
  cases t <;> rfl

@[simp] theorem tableLength_shutWindow (t : Table) : tableLength t (shutWindow s) = tableLength t s := by
  cases t <;> rfl

@[simp] theorem writeBar_shutWindow (t : Table) : writeBar t (shutWindow s) = writeBar t s := rfl

end Sys2Proof.Machine
end

