-- ==== Sys2Proof/WellFormed.lean ====
section
/-! DEFINITION. The form of a command: positions lie where the wire formats let a slot, a request record or a
reply place stand (R6, R189). `exec` gives an ill-formed command a meaning too: the position is beyond the frame,
and nothing streams past. -/

namespace Sys2Proof

/-- The slots the part reads are the first 96 of a cycle frame (R6). -/
def slotLimit : Nat := 96

/-- A service frame announces at most 255 request places and 255 reply places (R189). -/
def placeLimit : Nat := 255

/-- Whether the operands of a command lie in the ranges the wire formats give. -/
def Instr.wf : Instr → Bool
  | .commandPassage i => decide (i < slotLimit)
  | .statusSlotWrite i => decide (i < slotLimit)
  | .requestTaking i => decide (i < placeLimit)
  | .replyPlaceFill i => decide (i < placeLimit)
  | .frameArrival _ _ _ | .frameEnd _ _ | .resumeTimerExpiry | .scheduleEvaluationComplete
  | .solventEvaluationComplete | .silenceTimerExpiry | .breakInChange _ | .purgeHoldExpiry | .alertGapExpiry
  | .unknownRequest | .identify | .clearResetCause | .openWindow | .writeNext | .readNext | .closeWindow
  | .sealBank | .bankCheckEnd | .clearBank | .activateBank | .cancelActivation | .store | .storeWriteComplete
  | .reload | .startPurge | .abortPurge | .resetTrip | .setPreheat | .release | .reclaim | .resumeDiscard
  | .takeIncidents | .readTripCapture | .setOverride | .clearOverride | .readCounters | .resetPart
  | .serviceResetWaitExpiry | .powerOn | .resetPinAssert | .resetPinRelease | .storeLoadComplete
  | .supplyLoss => true

end Sys2Proof
end

