-- ==== Sys2Proof/Tests/Slice0.lean ====
section
/-! SUPPORT. The model's own tests: ill-formed commands refused, the worked cases of the manual, small steps of each
kind of command, and for each statement with hypotheses a state and operands that meet them. -/

-- One theorem at a time: the many small evaluations of this file would otherwise each take a thread.
set_option Elab.async false

open Sys2Proof Sys2Proof.Machine

namespace Sys2Proof.Tests

/-! ## Helpers -/

/-- The state a command leaves. -/
def run (c : Instr) (s : State) : State :=
  match exec c s with
  | .next t => t
  | .fault _ => s
  | .refused _ => s

theorem exec_run (c : Instr) (s : State) : exec c s = .next (run c s) := by cases c <;> rfl

/-- An entry of a map. -/
def at' (node channel : Nat) (r : Role) (u : EntryUse) : SlotEntry := { node := node, channel := channel, role := r, use := u }

/-- A small plant: one zone with a flame, one circuit, one analyzer, one break sensor. -/
def plantScalars : Scalars :=
  { Scalars.uncommissioned with
    node := 40, silence := 100, analyzers := 1, sensors := 1, qFloor := 8000, qCap := 40000, changes := 4, gap := 500 }

/-- Its Slot Map. -/
def plantMap : List SlotEntry :=
  [at' 10 0 .webSpeed (.sample 3), at' 10 1 .impression (.sample 3), at' 10 2 .lineBreak (.sample 3),
    at' 11 0 (.zoneTemp 0) (.sample 5), at' 11 1 (.zoneFlame 0) (.sample 5), at' 12 0 .exhaustFlow (.sample 5),
    at' 12 1 (.lel 0) (.sample 2), at' 10 3 (.breakSensor 0) (.sample 3),
    at' 11 2 (.zoneTempSp 0) (.command .full (some 800) 100 3), at' 11 3 (.zoneBurnerEn 0) (.command .full (some 0) 0 3),
    at' 12 2 .exhaustSp (.command .full none 100 3), at' 12 2 .exhaustSp (.echo 3), at' 12 2 .exhaustSp .hold,
    at' 10 4 .speedRef (.command .observe none 10 3)]

/-- Its commissioning record. -/
def plant : CommRecord := { scalars := plantScalars, map := plantMap }

/-- A part whose store was never written, after the load: UNCOMMISSIONED, SYNCING. -/
def bare : State := storeLoadComplete State.reset

/-- A part with the plant's record, after the load: COMMISSIONED, SYNCING. -/
def live : State := storeLoadComplete { State.reset with comm.stored := some plant }

/-- The same part ONLINE after cycle 12,039. -/
def onl : State :=
  { live with
    line.state := .online, line.syncCount := 8, line.lastCycle := some 12039, line.remembered := [12040, 12039]
    line.lastRefreshAt := some 0 }

/-- A request in a place. -/
def asked (code : Nat) (ps : List Nat) : Place :=
  { tag := 7, code := code, length := ps.length, params := ps.map byte ++ List.replicate (12 - ps.length) 0,
    stage := .waiting }

/-- The part with that request WAITING. -/
def asking (code : Nat) (ps : List Nat) (s : State) : State := { s with agent.places := [asked code ps] }

/-- The reply that the only place holds. -/
def answer (s : State) : Option (Status × List Nat) :=
  match s.agent.places with
  | p :: _ =>
    match p.stage with
    | .reply r _ _ => some (r.status, r.data.map BitVec.toNat)
    | .provisional | .waiting | .inFrame _ => none
  | [] => none

/-- A bank's state and recipe set. -/
def withBank (b : BankNo) (st : BankState) (x : Recipe) (s : State) : State :=
  { s with banks := s.banks.set b { state := st, recipe := x, lastCheck := none } }

/-- A schedule from pairs. -/
def sched (l : List (Nat × Int)) : List Breakpoint := l.map fun p => { speed := p.1, value := p.2 }

/-- The zone 2 temperature schedule of section 4.6. -/
def zone2 : List Breakpoint := sched [(100, 1400), (400, 1720), (700, 2030), (1000, 2210)]

/-- A recipe that the seal check passes for one zone and one circuit. -/
def job : Recipe :=
  { Recipe.empty with
    zoneTemp := Four.fill zone2, zoneFan := Four.fill (sched [(0, 500), (200, 505)])
    exhaust := sched [(0, 9000), (1000, 24000)], chill := Three.fill (sched [(0, -5), (200, 0)])
    dwell := 20, films := [420, 380, 350, 400, 410, 390, 360, 290] }

/-- ONLINE with bank 0 ACTIVE, the web RUNNING and the dryer FIRING. -/
def firing : State :=
  { withBank 0 .active job onl with
    web.state := .running, dryer.state := .firing, dryer.permit := true
    line.refreshCycle := some 12039 }

/-- A resume record of bank 0. -/
def resume : ResumeRecord :=
  { bank := 0, cycle := some 12039, lead := 880, source := .lineBreak, temps := ⟨some 2138, none, none, none⟩,
    fans := Four.fill none, exhaust := some 25935, second := 0 }

/-- The part after a break, RESUMING. -/
def resuming : State :=
  { firing with web.state := .resuming, web.record := some resume, web.timer := some 6000 }

/-- RESUMING with the resume timer at 0. -/
def timedOut : State := { resuming with web.timer := some 0 }

/-- TRIPPED on a measured LEL of 412. -/
def tripped : State :=
  { firing with
    dryer.state := .tripped, dryer.permit := false, dryer.lelMeasured := true
    dryer.capture := some
      { condition := .lelMeasuredHigh, subject := .none, value := some 412, before := .firing, web := .running,
        cycle := some 12039, trip := some 400, qFloor := some 8000, mode := .monitored, accumulator := 0 } }

/-- A record of the board GOOD with a value. -/
def good (v : Int) : BoardRec := { value := some v, quality := .good, age := 0, lastGood := some v, clamps := 0 }

/-- A role's record put on the board. -/
def withRec (r : Role) (x : BoardRec) (s : State) : State :=
  { s with board.records := updateKey ⟨r, false⟩ (fun _ => x) s.board.records }

/-- A slot record. -/
def slotRec (node channel kind quality value : Nat) : List Nat :=
  [node, channel * 16 + kind, quality, value / 256, value % 256]

/-- The bytes of a frame with a fresh trailer. -/
def framed (bs : List Nat) : List Byte := bs.map byte ++ freshTrailer (bs.map byte)

/-- The bytes of a frame with a poisoned trailer. -/
def poisoned (bs : List Nat) : List Byte := bs.map byte ++ poisonedTrailer (bs.map byte)

/-- Header and body of a cycle frame. -/
def cycleBody (n : Nat) (slots : List (List Nat)) : List Nat := [1, slots.length, n / 256, n % 256] ++ slots.flatten

/-- Header and body of a service frame with request records and reply places. -/
def serviceBody (reqs reps : List (List Nat)) : List Nat :=
  [2, reqs.length, reps.length] ++ (reqs.flatten ++ reps.flatten)

/-- A request record. -/
def requestRec (node tag code : Nat) (ps : List Nat) : List Nat :=
  [node, tag, code, ps.length] ++ (ps ++ List.replicate (12 - ps.length) 0)

/-- A free reply place. -/
def freeRec : List Nat := 255 :: List.replicate 16 0

/-- A frame in an elastic store. -/
def transit (bs : List Byte) : Transit :=
  { arrived := bs, forwarded := bs, sinceOnline := true, cursor := 0, marks := [], captured := [] }

/-- A frame leaving OUT, and one leaving BACK. -/
def leavingOut (bs : List Byte) (s : State) : State := { s with line.outStore := [transit bs] }

/-- A frame leaving BACK. -/
def leavingBack (bs : List Byte) (s : State) : State := { s with line.backStore := [transit bs] }

theorem test_plant_passes_store_checks : checkData plant = none := by decide +kernel

theorem test_bare_state : bare.phase = .running ∧ bare.line.state = .syncing ∧ bare.commissioned = false
    ∧ bare.log.queue.map (fun r => (r.code, r.seq)) = [(.commissioningInvalid, 0)] ∧ bare.log.alert = true := by
  decide +kernel

/-! ## Form of commands and the package's fixed names -/

theorem test_wf_refuses_passage_beyond : (Instr.commandPassage 96).wf = false ∧ (Instr.commandPassage 95).wf = true := by
  decide
theorem test_wf_refuses_status_beyond : (Instr.statusSlotWrite 96).wf = false ∧ (Instr.statusSlotWrite 95).wf = true := by
  decide
theorem test_wf_refuses_request_beyond : (Instr.requestTaking 255).wf = false ∧ (Instr.requestTaking 254).wf = true := by
  decide
theorem test_wf_refuses_reply_beyond : (Instr.replyPlaceFill 255).wf = false ∧ (Instr.replyPlaceFill 254).wf = true := by
  decide

/-- The table gives no bits, so no word spells a command. -/
theorem test_no_word_spells : decodeTableWord 8 0 = none := by decide

theorem test_idle_step : step State.reset = .next State.reset := by rfl

theorem test_step_takes_front : step { State.reset with pending := [.storeLoadComplete] } = .next bare := by rfl

/-! ## The worked cases of the manual -/

/-- The check value of the CRC-32 of R189 over the digits 1 to 9. -/
theorem test_crc_check : crc32 ([49, 50, 51, 52, 53, 54, 55, 56, 57].map byte) = 0xCBF43926 := by decide +kernel

/-- Section 4.6: interpolation. -/
theorem test_interpolation : [50, 100, 400, 555, 880, 1000, 1200].map (interpolate zone2) =
    [1400, 1400, 1720, 1880, 2138, 2210, 2210] := by decide +kernel

/-- Section 4.6: halves away from zero, on the increment. -/
theorem test_rounding : interpolate (sched [(0, 500), (200, 505)]) 100 = 503
    ∧ interpolate (sched [(0, 505), (200, 500)]) 100 = 502 ∧ interpolate (sched [(100, 620), (600, 455)]) 203 = 586
    ∧ interpolate (sched [(0, -5), (200, 0)]) 100 = -2 := by decide +kernel

/-- Section 4.7: the thermal ceiling. -/
theorem test_thermal_ceiling : [some 1805, some 1450, some 2160, some 1340, none].map (thermalCeiling zone2 60 50) =
    [530, 193, 1500, 60, 60] := by decide +kernel

/-- Section 4.7: the level stretch and the raise to thread speed. -/
theorem test_level_stretch :
    [1250, 1719, 1720, 1900].map
        (fun x => thermalCeiling (sched [(0, 1200), (400, 1720), (700, 1720), (1000, 2210)]) 60 0 (some x)) =
      [60, 399, 700, 810] := by decide +kernel

/-- Section 5.7 and the rows of 5.8 that vary one input. -/
theorem test_solvent_case :
    solventRate 880 1970 3000 85 = 265241 ∧ predictedLel 265241 45 (some 28400) = some 208
    ∧ minimumFlow 265241 45 25 = 23577 ∧ exhaustFloor .firing 23577 10 8000 = 25935
    ∧ solventCeiling (some 28400) 3000 1970 85 45 25 = 1060
    ∧ measuredCeiling .running .monitored (some 230) 880 25 = 956 := by decide +kernel

theorem test_solvent_limits :
    minimumFlow 265241 45 15 = 39295 ∧ exhaustFloor .firing 39295 10 8000 = 43225
    ∧ solventCeiling (some 28400) 3000 1970 85 45 15 = 636 ∧ predictedLel 265241 45 none = none
    ∧ solventCeiling none 3000 1970 85 45 25 = 0 ∧ predictedLel 265241 45 (some 0) = some 1000
    ∧ solventRate 1500 1970 3000 85 = 452115 ∧ minimumFlow 452115 45 25 = 40188
    ∧ measuredCeiling .running .monitored (some 230) 1500 25 = 1500
    ∧ exhaustFloor .firing 0 10 8000 = 8000 ∧ exhaustFloor .purged 0 10 8000 = 0 := by decide +kernel

/-- Section 7.9: refreshes A, B and G of the purge. -/
theorem test_purge_sums :
    (let c := { plantScalars with period := 8 }
     let d := { DryerUnit.afterReset with accumulator := 38, remainder := 2000 }
     let e := { DryerUnit.afterReset with accumulator := 119984, remainder := 3200 }
     ((creditPurge c 17350 DryerUnit.afterReset).accumulator, (creditPurge c 17350 DryerUnit.afterReset).remainder,
       (creditPurge c 17350 d).accumulator, (creditPurge c 17350 d).remainder,
       (creditPurge c 17350 e).accumulator, (creditPurge c 17350 e).remainder)) =
      (38, 2000, 77, 400, 120023, 1600) := by decide +kernel

/-- Section 3.9, step 3: TEMP_ORDER in ZONE_TEMP(2,3) at index 3. -/
theorem test_seal_temp_order :
    sealCheck 2 3 2 { job with zoneTemp := ⟨zone2, zone2, sched [(100, 1420), (400, 1760), (700, 2060), (1000, 2040)], []⟩ }
      = .rejected .tempOrder (some (.zoneTemp 2 2)) (some 3) := by decide +kernel

/-- Section 3.9, step 4: the corrected schedule passes. -/
theorem test_seal_passes :
    sealCheck 2 3 2 { job with zoneTemp := ⟨zone2, zone2, sched [(100, 1420), (400, 1760), (700, 1940), (1000, 2040)], []⟩ }
      = .passed := by decide +kernel

/-- Section 11.5: a trip level of 240 under F_mon 25 fails TRIP_BELOW_ALLOWED at index 12. -/
theorem test_store_trip_below : scalarFault { plantScalars with trip := 240 } = some .tripBelowAllowed
    ∧ ScalarFault.tripBelowAllowed.scalar = 12 ∧ scalarFault { plantScalars with trip := 251 } = none := by decide +kernel

/-- R195's worked status items. -/
theorem test_status_item : statusItem 0 firing = 8993
    ∧ statusItem 6 (withBank 2 .active job onl) = 12287 ∧ statusItem 6 onl = 65535 := by decide +kernel

/-- Section 12.1: the bytes 80 00 in two roles. -/
theorem test_read_values : readValue (.zoneTemp 0) 0x8000 = -400 ∧ readValue .webSpeed 0x8000 = 1500
    ∧ readValue .webSpeed 1620 = 1500 ∧ wasClamped .webSpeed 1620 = true := by decide +kernel

/-- Section 2.4, refreshes 2 to 5: WEB_SPEED ages, is HELD up to its limit of 3, then LOST. -/
theorem test_ageing :
    (let r := fun n : Nat => Refresh.mk true none n true [] .online false false
     let k := RecKey.mk .webSpeed false
     [1, 3, 5].map fun n => ((takeRecord live (r n) k (good 872)).quality, (takeRecord live (r n) k (good 872)).value)) =
      [(.held, some 872), (.held, some 872), (.lost, none)] := by decide +kernel

/-- Section 1.11: the sync count over the worked start-up. -/
theorem test_sync_count : syncAfter true 1 0 = 1 ∧ syncAfter true 1 1 = 2 ∧ syncAfter false 1 2 = 0
    ∧ syncAfter true 37 0 = 1 ∧ syncAfter true 2 5 = 1 := by decide

/-- Section 1.12: numbering with a lost cycle, and a renumbering beyond 255. -/
theorem test_numbering : numbering (some 9000) 9002 = .step 2 ∧ numbering (some 9003) 9040 = .step 37
    ∧ numbering (some 9000) 9000 = .repeated ∧ numbering (some 9000) 9256 = .renumbered
    ∧ numbering (some 65535) 0 = .step 1 ∧ numbering none 5 = .step 1 := by decide

/-- Section 5.9: the mismatch counter reaches 50 over publications that cover 1, 2, 2 and 1 cycles. -/
theorem test_solvent_mismatch :
    (let j := SolvJob.mk 0 (some 13006) .online .running .firing 880 false 3000 1970 85 60 .monitored (some 320)
       ⟨25, 400, 10, 8000⟩ (some 28400) 45 40000 1
     let s := { firing with solv.job := some j, solv.pendingCycles := 1, solv.mismatchCount := 49 }
     ((publishSolvent true s).solv.mismatchCount, (publishSolvent true s).log.queue.map fun r => (r.code, r.value))) =
      (50, [(.solventMismatch, .num 112)]) := by decide +kernel

/-! ## One step of each command -/

/-- R3, R4: two frames take the places of a store, a third cycle frame is an overrun. -/
theorem test_frame_arrival :
    (let f := Instr.frameArrival .out 1 ((framed (cycleBody 5 [])).drop 1)
     let s := run f (run f (run f live))
     (s.line.outStore.length, s.line.overruns, s.log.queue.map Incident.code)) = (2, 1, [.frameErrors]) := by decide +kernel

/-- R139, R145: a burner enable of 1 leaves an UNPURGED part as 0. -/
theorem test_passage_burner_gated :
    (let s := run (.commandPassage 0) (leavingOut (framed (cycleBody 12040 [slotRec 11 3 2 0 1])) onl)
     (s.line.outStore.map fun t => ((t.forwarded.drop 4).take 5).map BitVec.toNat)) = [[11, 50, 0, 0, 0]] := by decide +kernel

/-- R142: a TRIPPED dryer forwards the safe value 800, most significant byte first. -/
theorem test_passage_safe_value :
    (let s := run (.commandPassage 0) (leavingOut (framed (cycleBody 12040 [slotRec 11 2 2 0 1700])) tripped)
     ((s.line.outStore.map fun t => ((t.forwarded.drop 4).take 5).map BitVec.toNat),
       (s.cmds.entry? (.zoneTempSp 0)).map fun e => (e.owner, e.last))) =
      ([[11, 34, 0, 3, 32]], some (.safe, some ⟨800, 12040⟩)) := by decide +kernel

/-- R9, R194: item 0 in a status slot of the part's node, quality GOOD. -/
theorem test_status_slot :
    (let s := run (.statusSlotWrite 0) (leavingBack (framed (cycleBody 12040 [slotRec 40 0 5 2 0])) firing)
     (s.line.backStore.map fun t => ((t.forwarded.drop 4).take 5).map BitVec.toNat)) = [[40, 5, 0, 0x23, 0x21]] := by
  decide +kernel

/-- R167, R193: a request for node 40 is taken and blanked. -/
theorem test_request_taken :
    (let s := run (.requestTaking 0) (leavingOut (framed (serviceBody [requestRec 40 9 7 [2]] [])) onl)
     (s.agent.places.map fun p => (p.tag.toNat, p.code, p.length, p.stage), s.line.outStore.map fun t => t.forwarded.take 5)) =
      ([(9, 7, 1, .provisional)], [[2, 1, 0, 255, 0]]) := by decide +kernel

/-- R170, R192: the reply to IDENTIFY in a free place: node 40, part 1 of 1, data length 5. -/
theorem test_reply_placed :
    (let s := run (.replyPlaceFill 0)
       (leavingBack (framed (serviceBody [] [freeRec])) (run .identify (asking 1 [] onl)))
     (s.line.backStore.map fun t => ((t.forwarded.drop 3).take 10).map BitVec.toNat)) =
      [[40, 7, 0, 17, 5, 25, 20, 1, 40, 1]] := by decide +kernel

/-- R5, R14: a good OUT cycle frame leaves with a fresh trailer and its number is remembered. -/
theorem test_out_cycle_ends :
    (let f := framed (cycleBody 12041 [slotRec 11 2 2 0 1700])
     let s := run (.frameEnd .out 100) (leavingOut f onl)
     (decide (s.line.sentOut = some f), s.line.remembered, s.line.goodOut, s.now)) = (true, [12041, 12040], 1, 100) := by
  decide +kernel

/-- R170: a delivered reply frees its place at the good end of the BACK service frame. -/
theorem test_reply_delivered :
    (let s := run (.replyPlaceFill 0)
       (leavingBack (framed (serviceBody [] [freeRec])) (run .identify (asking 1 [] onl)))
     ((run (.frameEnd .back 100) s).agent.places, (run (.frameEnd .back 100) s).line.goodBack)) = ([], 1) := by
  decide +kernel

/-- R109, R110: the count at 0 is the expiry; above 0 the web stays RESUMING. -/
theorem test_resume_timer_expiry :
    (let s := run .resumeTimerExpiry timedOut
     (s.web.state, s.web.record, s.log.queue.map fun r => (r.code, r.value))) =
      (.threading, none, [(.resumeDiscarded, .cause .timeout)])
    ∧ run .resumeTimerExpiry { resuming with web.timer := some 1 } = { resuming with web.timer := some 1 } := by
  decide +kernel

/-- Section 4.6 at lead speed 880, through the publication. -/
theorem test_schedule_completes :
    (let j := SchedJob.mk (some 12041) 0 job 880 ⟨some 1805, none, none, none⟩ 1 1
     ((run .scheduleEvaluationComplete { firing with sched.job := some j }).sched.publication.map fun p =>
       (p.zoneTemp, p.zoneFan.n0, p.exhaust, p.ceiling.n0))) =
      some (⟨some 2138, none, none, none⟩, some 505, 22200, some 482) := by decide +kernel

theorem test_silence_trips_firing : (run .silenceTimerExpiry firing).dryer.state = .tripped
    ∧ (run .silenceTimerExpiry firing).dryer.permit = false ∧ (run .silenceTimerExpiry firing).line.state = .silent
    ∧ (run .silenceTimerExpiry firing).now = 100000 := by decide +kernel

theorem test_break_in_edge : (run (.breakInChange .high) firing).web.state = .break
    ∧ (run (.breakInChange .high) firing).web.dwell = 20
    ∧ ((run (.breakInChange .high) firing).web.record.map ResumeRecord.bank) = some 0 := by decide +kernel

/-- Section 7.9, the last row. -/
theorem test_purge_hold_expiry :
    (let s := run .purgeHoldExpiry { onl with dryer.state := .purged, dryer.permit := true, dryer.hold := some 300000000 }
     (s.dryer.state, s.dryer.permit, s.now, s.log.queue.map Incident.code)) =
      (.unpurged, false, 300000000, [.purgeExpired]) := by decide +kernel

/-- Section 9.9, at 0 ms and at 500 ms. -/
theorem test_alert_gap :
    (let s := run .takeIncidents (asking 20 [0, 4] (offer .webBreak .breakIn (.num 5) onl))
     let t := run .alertGapExpiry (offer .webBreak .breakIn (.num 6) s)
     (s.log.alert, s.log.gap, t.log.alert, t.log.gap)) = (false, some 500000, true, none) := by decide +kernel

theorem test_unknown_request : answer (run .unknownRequest (asking 26 [] onl)) = some (.unknown, []) := by decide +kernel

/-- R178: 6420 is the bytes 25, 20. -/
theorem test_identify : answer (run .identify (asking 1 [] onl)) = some (.done, [25, 20, 1, 40, 1]) := by decide +kernel

theorem test_clear_reset_cause : (run .clearResetCause (asking 2 [] onl)).agent.causes = ⟨false, false, false⟩ := by
  decide +kernel

/-- Section 10.9: OPEN_WINDOW ZONE_TEMP(1,1) REPLACE empties the schedule and makes the bank EDITING. -/
theorem test_open_window_replace :
    (let s := run .openWindow (asking 3 [4, 1, 1, 0, 0, 1, 2] (withBank 1 .sealed job onl))
     (answer s, (s.banks.get 1).state, (s.banks.get 1).recipe.zoneTemp.n0, s.agent.window.map Window.cursor)) =
      (some (.done, [0, 0]), .editing, [], some 0) := by decide +kernel

/-- Section 10.9: WRITE_NEXT (100, 1,400), then the keying error (1,000, 4,620). -/
theorem test_write_next :
    (let w := { withBank 1 .editing Recipe.empty onl with agent.window := some ⟨.zoneTemp 1 0, .replace, true, 0⟩ }
     let s := run .writeNext (asking 4 [0, 100, 5, 120] w)
     let t := run .writeNext (asking 4 [3, 232, 18, 12] s)
     ((s.banks.get 1).recipe.zoneTemp.n0, answer s, answer t, t.agent.window.map Window.cursor)) =
      ([⟨100, 1400⟩], some (.done, []), some (.range, []), some 1) := by decide +kernel

/-- Section 10.9: READ_NEXT at 3 backwards, and at -1. -/
theorem test_read_next :
    (let w := fun c => { withBank 1 .sealed job onl with agent.window := some ⟨.zoneTemp 1 0, .read, false, c⟩ }
     (answer (run .readNext (asking 5 [] (w 3))), answer (run .readNext (asking 5 [] (w (-1)))))) =
      (some (.done, [3, 232, 8, 162]), some (.range, [])) := by decide +kernel

theorem test_close_window : answer (run .closeWindow (asking 6 [] onl)) = some (.noWindow, []) := by decide +kernel

/-- Section 3.9, steps 1 and 2. -/
theorem test_seal_bank :
    (let s := run .sealBank (asking 7 [2] (withBank 2 .editing job onl))
     (answer s, (s.banks.get 2).state, s.agent.checking, answer (run .activateBank (asking 9 [2, 1] s)))) =
      (some (.started, []), .checking 1 1, some 2, some (.busy, [])) := by decide +kernel

/-- Section 3.9, step 5. -/
theorem test_bank_check_end :
    (let s := run .bankCheckEnd { withBank 2 (.checking 1 1) job onl with agent.checking := some 2 }
     ((s.banks.get 2).state, (s.banks.get 2).lastCheck, s.log.queue.map fun r => (r.code, r.value))) =
      (.sealed, some .passed, [(.bankChecked, .outcome .passed)]) := by decide +kernel

theorem test_clear_bank : (run .clearBank (asking 8 [2] (withBank 2 .sealed job onl))).banks.get 2 = Bank.cleared := by
  decide +kernel

/-- Section 3.9, steps 6 and 7: a second activation replaces the first. -/
theorem test_activate_bank :
    (let s := withBank 1 .sealed job (withBank 2 .sealed job firing)
     let t := run .activateBank (asking 9 [2, 1] (run .activateBank (asking 9 [1, 1] s)))
     ((t.banks.get 0).state, (t.banks.get 1).state, (t.banks.get 2).state)) =
      (.active, .sealed, .pending .atSplice) := by decide +kernel

theorem test_cancel_activation :
    ((run .cancelActivation (asking 10 [] (withBank 1 (.pending .atStop) job firing))).banks.get 1).state = .sealed := by
  decide +kernel

/-- Section 11.5: the CHECK refusal names COMM_SCALARS, reason 2, index 12. -/
theorem test_store_check :
    answer (run .store (asking 11 [] { live with comm.working := { plant with scalars.trip := 240 } })) =
      some (.check, [0, 0, 0, 2, 12]) := by decide +kernel

/-- Section 11.5: the write completes and the part is COMMISSIONED at node 40. -/
theorem test_store_completes :
    (let s := run .storeWriteComplete (run .store (asking 11 [] { bare with comm.working := plant }))
     (s.commissioned, s.node, s.comm.stored, s.agent.storeRunning, s.log.queue.map Incident.code)) =
      (true, 40, some plant, false, [.commissioningInvalid, .storeFinished]) := by decide +kernel

theorem test_reload : (run .reload (asking 12 [] { live with comm.working := CommRecord.uncommissioned })).comm.working =
    plant := by decide +kernel

theorem test_start_purge : (run .startPurge (asking 13 [] onl)).dryer.state = .purging
    ∧ answer (run .startPurge (asking 13 [] live)) = some (.state, []) := by decide +kernel

theorem test_abort_purge :
    (run .abortPurge (asking 14 [] { onl with dryer.state := .purging, dryer.accumulator := 77 })).dryer.state = .unpurged
    ∧ (run .abortPurge (asking 14 [] { onl with dryer.state := .purging, dryer.accumulator := 77 })).dryer.accumulator = 77
      := by decide +kernel

/-- Section 7.10: refused while the first condition is active, accepted with every flame GOOD 0. -/
theorem test_reset_trip :
    answer (run .resetTrip (asking 15 [] tripped)) = some (.state, [0, 255, 255])
    ∧ (run .resetTrip (asking 15 [] (withRec (.zoneFlame 0) (good 0) { tripped with dryer.lelMeasured := false }))).dryer.state
        = .unpurged := by decide +kernel

theorem test_set_preheat : (run .setPreheat (asking 16 [1] onl)).web.preheat = true
    ∧ answer (run .setPreheat (asking 16 [2] onl)) = some (.range, []) := by decide +kernel

/-- RELEASE and RECLAIM of EXHAUST_SP, role number 15. -/
theorem test_release_reclaim :
    (let s := run .release (asking 17 [15, 0] onl)
     let t := run .reclaim (asking 18 [15, 0] s)
     ((s.cmds.entry? .exhaustSp).map CmdEntry.released, (t.cmds.entry? .exhaustSp).map CmdEntry.released)) =
      (some true, some false) := by decide +kernel

theorem test_resume_discard : (run .resumeDiscard (asking 19 [] resuming)).web.record = none
    ∧ answer (run .resumeDiscard (asking 19 [] firing)) = some (.state, []) := by decide +kernel

/-- R192: COMMISSIONING_INVALID as an incident record: PROCESS, code 15, dryer and web 0. -/
theorem test_take_incidents : answer (run .takeIncidents (asking 20 [0, 1] bare)) =
    some (.done, [0, 0, 0, 0, 1, 15, 0, 0, 0, 0, 0, 0]) := by decide +kernel

theorem test_read_trip_capture : (answer (run .readTripCapture (asking 21 [] tripped))).map (fun a => a.2.take 7) =
    some [0, 255, 255, 1, 156, 3, 2] := by decide +kernel

/-- An override may only make a figure stricter: 350 tenths against 400, and 500 against 400. -/
theorem test_set_override : answer (run .setOverride (asking 22 [2, 1, 94] onl)) = some (.done, [1, 94])
    ∧ answer (run .setOverride (asking 22 [2, 1, 244] onl)) = some (.done, [1, 144]) := by decide +kernel

theorem test_clear_override :
    (let s := run .clearOverride (asking 23 [5] (run .setOverride (asking 22 [2, 1, 94] onl)))
     (s.agent.overrides, s.solv.eff.map EffParams.trip)) = (Overrides.absent, some 400) := by decide +kernel

theorem test_read_counters :
    (let s := run .readCounters (asking 24 [0, 0, 0, 2, 1] { onl with line.goodOut := 258, line.goodBack := 7 })
     (answer s, s.line.goodOut, s.line.goodBack)) = (some (.done, [0, 0, 1, 2, 0, 0, 0, 7]), 0, 0) := by decide +kernel

theorem test_reset_part : (run .resetPart (asking 25 [] onl)).agent.resetWait = some 100000
    ∧ (run .serviceResetWaitExpiry (run .resetPart (asking 25 [] onl))).agent.causes = ⟨true, false, true⟩
    ∧ (run .serviceResetWaitExpiry (run .resetPart (asking 25 [] onl))).line.state = .bypass := by decide +kernel

/-- R188: supply lost, back, and the RESET pin: only the stored record and the causes stand. -/
theorem test_supply_and_pin :
    (run .supplyLoss onl).phase = .unpowered ∧ (run .supplyLoss onl).comm.stored = some plant
    ∧ (run .powerOn (run .supplyLoss onl)).agent.causes = ⟨true, false, false⟩
    ∧ (run .resetPinAssert onl).phase = .heldByPin ∧ (run .resetPinAssert onl).agent.causes = ⟨true, true, false⟩
    ∧ (run .resetPinRelease (run .resetPinAssert onl)).phase = .loading := by decide +kernel

theorem test_store_load_complete : live.line.state = .syncing ∧ live.commissioned = true
    ∧ live.line.silence = some 100000 ∧ live.log.queue = [] ∧ live.board.records.length = 10 := by decide +kernel

/-- Section 9.8: a full queue; a SAFETY record displaces the oldest ADVISORY one. -/
theorem test_full_queue :
    (let r := fun c : IncidentCode => Incident.mk 0 none c .none .absent .stopped .unpurged
     let q := r .webBreak :: r .frameErrors :: List.replicate 30 (r .webBreak)
     let s := offer .lineSilent .none .absent { onl with log.queue := q }
     (s.log.queue.length, s.log.dropped, s.log.queue.any fun x => decide (x.code = .frameErrors),
       (s.log.queue.getLast?).map Incident.code)) = (32, 1, false, some .lineSilent) := by decide +kernel

/-! ## States and operands that meet the hypotheses of the statements

Each theorem is named after the statement it serves; its parts follow the statement's clauses, at the ends of their
ranges. -/

theorem test_meets_StepRunsFrontCommand :
    ({ State.reset with pending := [.identify, .store] } : State).pending = .identify :: [.store]
      ∧ State.reset.pending = [] := by decide

/-- A place in a stage. -/
def staged (st : Stage) : Place := { asked 1 [] with stage := st }

theorem test_meets_ReplyEntersHeadPlace :
    (let s := { onl with agent.places := [staged (.inFrame (plain .done)), asked 1 [], staged .provisional] }
     let ahead := [staged (.inFrame (plain .done))]
     s.agent.places = ahead ++ asked 1 [] :: [staged .provisional] ∧ (∀ q ∈ ahead, q.stage ≠ .waiting)
       ∧ (asked 1 []).stage = .waiting) := by decide +kernel

/-- A request with a parameter length that the bytes do not show. -/
def lengthed (code len : Nat) : Place := { asked code [] with length := len }

theorem test_meets_RequestsRefusedAtOnce :
    (onl.phase = .running ∧ onl.agent.resetWait = none
      ∧ (asking 0 [] onl).agent.head = some (asked 0 []) ∧ (asking 26 [] onl).agent.head = some (asked 26 [])
      ∧ 26 ≤ (asked 255 []).code)
    ∧ (({ onl with agent.places := [lengthed 7 0] } : State).agent.head = some (lengthed 7 0)
        ∧ (lengthed 7 0).length < 1 ∧ plainRequest .sealBank = some (7, 1)
        ∧ 12 < (lengthed 1 13).length ∧ plainRequest .identify = some (1, 0))
    ∧ ((lengthed 3 6).length < 7 ∧ windowRequest .openWindow = some (3, 7)
        ∧ 12 < (lengthed 5 13).length ∧ windowRequest .readNext = some (5, 0)) := by decide +kernel

theorem test_meets_RequestsThatDoNotExecute :
    executesRequest .identify = true ∧ State.reset.phase ≠ .running
      ∧ ({ onl with agent.resetWait := some 1 } : State).agent.resetWait ≠ none ∧ onl.agent.head = none
      ∧ ((asking 2 [] onl).agent.head = some (asked 2 []) ∧ (asked 2 []).code ≠ 1
          ∧ plainRequest .identify = some (1, 0)) := by decide +kernel

theorem test_meets_IdentifyAndResetCause :
    Executes 1 0 (asked 1 []) (asking 1 [] onl) ∧ Executes 2 0 (asked 2 []) (asking 2 [] onl)
      ∧ ((run .supplyLoss onl).phase = .unpowered ∧ (run .supplyLoss onl).pins.resetAsserted = false)
      ∧ (onl.phase ≠ .unpowered ∧ onl.pins.resetAsserted = false)
      ∧ (run .resetPart (asking 25 [] onl)).agent.resetWait = some 100000 := by unfold Executes; decide +kernel

/-- An OPEN_WINDOW of table, bank, selector, start, direction and mode. -/
def opening (t b sel start dir mode : Nat) : List Nat := [t, b, sel, start / 256, start % 256, dir, mode]

theorem test_meets_OpenWindowJudged_opens :
    (let s := withBank 1 .sealed job onl
     let t := fun ps => tableOf ((asked 3 ps).byteParam 0) ((asked 3 ps).byteParam 1) ((asked 3 ps).byteParam 2) s
     Executes 3 7 (asked 3 (opening 0 0 0 23 1 0)) (asking 3 (opening 0 0 0 23 1 0) s)
       ∧ t (opening 0 0 0 23 1 0) = some .commScalars ∧ (asked 3 (opening 0 0 0 23 1 0)).byteParam 5 = 1
       ∧ windowModeOf ((asked 3 (opening 0 0 0 23 1 0)).byteParam 6) = some .read
       ∧ (asked 3 (opening 0 0 0 23 1 0)).wordParam 3 < tablePositions .commScalars s
       ∧ windowModeOf ((asked 3 (opening 0 0 0 23 255 1)).byteParam 6) = some .write
       ∧ Table.commScalars.readOnly = false ∧ writeBar .commScalars s = none
       ∧ t (opening 1 0 0 95 255 2) = some .slotMap
       ∧ (asked 3 (opening 1 0 0 95 255 2)).wordParam 3 < tablePositions .slotMap s ∧ s.agent.storeRunning = false
       ∧ t (opening 4 1 1 7 1 2) = some (.zoneTemp 1 0) ∧ (Table.zoneTemp 1 0).bank? = some 1
       ∧ (asked 3 (opening 4 1 1 7 1 2)).wordParam 3 < tablePositions (.zoneTemp 1 0) s
       ∧ (Table.zoneTemp 1 0).isList = true ∧ writeBar (.zoneTemp 1 0) s = none) := by unfold Executes; decide +kernel

theorem test_meets_OpenWindowJudged_refuses :
    (let s := withBank 0 (.checking 1 1) job
       (withBank 1 (.pending .atStop) job (withBank 2 .active job { onl with agent.storeRunning := true }))
     let t := fun ps => tableOf ((asked 3 ps).byteParam 0) ((asked 3 ps).byteParam 1) ((asked 3 ps).byteParam 2) s
     t (opening 14 0 0 0 1 0) = none ∧ t (opening 4 1 2 0 1 0) = none
       ∧ (asked 3 (opening 0 0 0 0 0 0)).byteParam 5 ≠ 1 ∧ (asked 3 (opening 0 0 0 0 0 0)).byteParam 5 ≠ 255
       ∧ 3 ≤ (asked 3 (opening 0 0 0 0 1 3)).byteParam 6
       ∧ t (opening 8 0 0 0 1 1) = some .board ∧ Table.board.readOnly = true
       ∧ t (opening 2 3 0 0 1 2) = some (.recipeScalars 3) ∧ (Table.recipeScalars 3).isList = false
       ∧ tablePositions .commScalars s ≤ (asked 3 (opening 0 0 0 24 1 0)).wordParam 3
       ∧ (t (opening 2 3 0 20 1 1) = some (.recipeScalars 3) ∧ writeBar (.recipeScalars 3) s = none
           ∧ tablePositions (.recipeScalars 3) s ≤ (asked 3 (opening 2 3 0 20 1 1)).wordParam 3)
       ∧ (t (opening 1 0 0 0 1 1) = some .slotMap ∧ Table.slotMap.isCommissioning = true ∧ s.agent.storeRunning = true)
       ∧ (t (opening 2 0 0 0 1 1) = some (.recipeScalars 0) ∧ (s.banks.get 0).state.isChecking = true)
       ∧ (t (opening 2 1 0 0 1 1) = some (.recipeScalars 1) ∧ (s.banks.get 1).state.isPending = true)
       ∧ (t (opening 2 2 0 0 1 1) = some (.recipeScalars 2) ∧ (s.banks.get 2).state = .active)
       ∧ Executes 3 7 (asked 3 (opening 2 2 0 0 1 1)) (asking 3 (opening 2 2 0 0 1 1) s)) := by
  unfold Executes; decide +kernel

/-- The part with a window open. -/
def windowed (t : Table) (m : WindowMode) (c : Int) (s : State) : State :=
  { s with agent.window := some { table := t, mode := m, forward := true, cursor := c } }

theorem test_meets_ReadNextAndCloseWindow :
    (let s := fun c => asking 5 [] (windowed .commScalars .read c onl)
     Executes 5 0 (asked 5 []) (s 23) ∧ Table.commScalars.inForce (s 23) = true
       ∧ (23 : Int) < (tableLength .commScalars (s 23) : Int)
       ∧ (tableLength .commScalars (s 24) : Int) ≤ 24 ∧ (-1 : Int) < 0
       ∧ (Table.zoneTemp 0 1).inForce onl = false ∧ onl.agent.window = none
       ∧ Executes 5 0 (asked 5 []) (asking 5 [] onl)
       ∧ Executes 6 0 (asked 6 []) (asking 6 [] (windowed .commScalars .read 0 onl))
       ∧ (asking 6 [] (windowed .commScalars .read 0 onl)).agent.window ≠ none
       ∧ Executes 6 0 (asked 6 []) (asking 6 [] onl) ∧ (asking 6 [] onl).agent.window = none) := by
  unfold Executes; decide +kernel

theorem test_meets_WriteNextJudged :
    (let s := fun t m c => windowed t m c (withBank 1 .active job onl)
     let w := fun t m c => Window.mk t m true c
     Executes 4 0 (asked 4 [10]) (asking 4 [10] onl) ∧ onl.agent.window = none ∧ 1 ≤ (asked 4 [10]).length
       ∧ (Executes 4 0 (asked 4 []) (asking 4 [] onl) ∧ (asked 4 []).length = 0)
       ∧ (asked 4 [10]).length < itemWidth .commScalars 1 ∧ (asked 4 []).length < itemWidth .board 0
       ∧ (asking 4 [10] (s .commScalars .read 0)).agent.window = some (w .commScalars .read 0)
       ∧ Executes 4 0 (asked 4 [10]) (asking 4 [10] (s .commScalars .write 0))
       ∧ (Table.zoneTemp 0 1).inForce onl = false
       ∧ itemWidth .commScalars 0 ≤ (asked 4 [10]).length
       ∧ Table.commScalars.inForce onl = true
       ∧ writeBar (.recipeScalars 1) (s (.recipeScalars 1) .write 0) = some .locked
       ∧ writeBar .commScalars onl = none
       ∧ beyondTable (w .commScalars .write 24) onl = true ∧ beyondTable (w .commScalars .write (-1)) onl = true
       ∧ beyondTable (w .commScalars .write 23) onl = false
       ∧ writeItem .commScalars 0 (asked 4 [251]) onl = none
       ∧ (writeItem .commScalars 0 (asked 4 [250]) onl).isSome = true) := by unfold Executes; decide +kernel

/-- R169: a missing or short item is RANGE before a closed window, a READ window or a locked bank is looked at. -/
theorem test_write_next_short :
    (let s := windowed (.recipeScalars 1) .read 19 (withBank 1 .active job onl)
     answer (run .writeNext (asking 4 [] onl)) = some (.range, [])
       ∧ answer (run .writeNext (asking 4 [1] onl)) = some (.noWindow, [])
       ∧ answer (run .writeNext (asking 4 [1, 0, 0, 0] s)) = some (.range, [])
       ∧ (run .writeNext (asking 4 [1, 0, 0, 0] s)).agent.window = none
       ∧ answer (run .writeNext (asking 4 [1, 0, 0, 0, 0] s)) = some (.state, [])
       ∧ (run .writeNext (asking 4 [1, 0, 0, 0, 0] s)).agent.window = s.agent.window) := by decide +kernel

theorem test_recipes_in_range : ∀ x ∈ [Recipe.empty, job], RecipeInRange x := by
  intro x hx
  simp only [List.mem_cons, List.not_mem_nil, or_false] at hx
  rcases hx with rfl | rfl <;>
  · refine ⟨by decide +kernel, by decide, by decide +kernel, by decide, by decide, by decide, by decide, ?_, ?_, ?_, ?_,
      ?_, by decide +kernel, by decide, by decide, by decide, by decide, by decide⟩
    all_goals first
      | (unfold ScheduleInRange; decide +kernel)
      | (unfold TempInRange; decide +kernel)

theorem test_firing_recipes : RecipeLaw firing := by
  have h : ∀ b : BankNo, (firing.banks.get b).recipe ∈ [Recipe.empty, job] := by decide +kernel
  exact fun b => test_recipes_in_range _ (h b)

theorem test_meets_WrittenItemReadsBack :
    RecipeLaw firing ∧ ((writeItem .commScalars 23 (asked 4 [1]) firing).isSome = true
      ∧ (writeItem (.zoneTemp 1 0) 0 (asked 4 [0, 100, 5, 120]) firing).isSome = true
      ∧ 0 ≤ tableLength (.zoneTemp 1 0) firing
      ∧ Table.commScalars.bank? = none ∧ (Table.zoneTemp 1 0).bank? = some 1) :=
  ⟨test_firing_recipes, by decide +kernel⟩

/-- The bytes of an entry as a request's parameters. -/
def entryAsked (e : SlotEntry) : Place := asked 4 ((entryItem e).map BitVec.toNat)

/-- R20, R173: an entry written at the end of the map, and in place of its first, stands there and nowhere else. -/
theorem test_entry_written :
    (let e := at' 250 15 (.zoneTempSp 0) (.command .full (some (-400)) 100 64)
     let f := fun i => (writeItem .slotMap i (entryAsked e) onl).map fun u => u.comm.working.map
     f 14 = some (plantMap ++ [e]) ∧ f 0 = some (e :: plantMap.drop 1)) := by decide +kernel

theorem test_meets_WrittenItemReadsBack_others :
    (let e := at' 250 15 (.zoneTempSp 0) (.command .full (some (-400)) 100 64)
     (writeItem .slotMap 14 (entryAsked e) onl).isSome = true ∧ 14 ≤ onl.comm.working.map.length
       ∧ (writeItem .slotMap 0 (entryAsked e) onl).isSome = true ∧ Table.slotMap.isList = true
       ∧ 14 ≤ tableLength .slotMap onl ∧ (13 ≠ 14 ∧ 13 < tableLength .slotMap onl)
       ∧ (Table.commScalars ≠ .slotMap ∧ 23 < tableLength .commScalars onl)
       ∧ (writeItem .commScalars 0 (asked 4 [250]) onl).isSome = true ∧ Table.commScalars.isList = false) := by
  decide +kernel

theorem test_meets_NamesAndEntriesOnTheWire :
    (EntryInRange (at' 250 15 (.zoneTempSp 0) (.command .full (some (-400)) 100 64))
      ∧ (asked 4 ((entryItem (at' 250 15 (.zoneTempSp 0) (.command .full (some (-400)) 100 64))).map BitVec.toNat)).params
          = entryItem (at' 250 15 (.zoneTempSp 0) (.command .full (some (-400)) 100 64)) ++ [0])
    ∧ (Table.zoneTemp 3 0).inForce onl = true ∧ slotKindOf 5 = some .status := by
  refine ⟨⟨⟨by decide, by decide, by decide, rfl, ?_, by decide, by decide, by decide⟩, by decide +kernel⟩, by decide +kernel, rfl⟩
  show ∀ x, some (-400 : Int) = some x → _
  intro x h
  cases h
  decide

/-! ### Recipe banks -/

theorem test_meets_SealBankJudged :
    (Executes 7 1 (asked 7 [4]) (asking 7 [4] onl) ∧ 4 ≤ (asked 7 [4]).byteParam 0)
    ∧ (Executes 7 1 (asked 7 [3]) (asking 7 [3] bare) ∧ (asked 7 [3]).byteParam 0 = (3 : BankNo).val
        ∧ (asking 7 [3] bare).commissioned = false)
    ∧ (let s := asking 7 [3] (withBank 0 (.checking 1 1) job onl)
       Executes 7 1 (asked 7 [3]) s ∧ s.commissioned = true ∧ ∃ c, (s.banks.get c).state.isChecking = true)
    ∧ (let s := asking 7 [3] (withBank 3 .editing job onl)
       Executes 7 1 (asked 7 [3]) s ∧ (∀ c, (s.banks.get c).state.isChecking = false) ∧ (s.banks.get 3).state = .editing)
    ∧ (let s := asking 7 [3] onl
       Executes 7 1 (asked 7 [3]) s ∧ (∀ c, (s.banks.get c).state.isChecking = false)
         ∧ (s.banks.get 3).state ≠ .editing) := by unfold Executes; decide +kernel

theorem test_meets_SealCheckDecides :
    sealCheck 0 1 1 job = .passed ∧ ¬ (({ job with run := 59 } : Recipe).thread ≤ ({ job with run := 59 } : Recipe).run)
    := by decide +kernel

/-- The recipe with these schedules for zone 1. -/
def jobOf (temp fan : List Breakpoint) : Recipe :=
  { job with zoneTemp := job.zoneTemp.set 0 temp, zoneFan := job.zoneFan.set 0 fan }

/-- R46: the first failure of a schedule, and of a recipe: COUNT before the speeds, the first breakpoint of equal or
excessive speed, the first fall of a temperature, and the temperature schedule of a zone before its fan schedule. -/
theorem test_seal_first_failure :
    (let f := fun t u => sealCheck 3 1 1 (jobOf (sched t) (sched u))
     let temp := some (Table.zoneTemp 3 0)
     let fan := some (Table.zoneFan 3 0)
     let two := [(0, 500), (200, 505)]
     f [(1501, 1)] [] = .rejected .count temp (some 1) ∧ f two [(0, 5)] = .rejected .count fan (some 1)
       ∧ f [(0, 9), (7, 8), (7, 7)] two = .rejected .speedOrder temp (some 2)
       ∧ f [(1500, 9), (1501, 8)] two = .rejected .speedOrder temp (some 1)
       ∧ f [(0, 9), (7, 9), (8, 8), (9, 7)] two = .rejected .tempOrder temp (some 2)
       ∧ f two [(0, 9), (1500, 8)] = .passed) := by decide +kernel

theorem test_meets_SealCheckDecides_failures :
    (let l := sched [(0, 9), (7, 8), (7, 7)]
     let falls := sched [(0, 9), (7, 9), (8, 8)]
     job.crawl < job.thread ∧ job.thread ≤ job.run
       ∧ (2 ≤ l.length ∧ SpeedBreaks l 2 ∧ ∀ j < 2, ¬ SpeedBreaks l j)
       ∧ (SpeedBreaks (sched [(1501, 9)]) 0 ∧ (sched [(1501, 9)]).length < 2)
       ∧ (SoundSchedule falls ∧ ValueFalls falls 2 ∧ ∀ j < 2, ¬ ValueFalls falls j)
       ∧ ∀ c ∈ [(Table.zoneTemp 3 0, true, job.zoneTemp.get 0)], SoundSchedule c.2.2 ∧ (c.2.1 = true → RisingValues c.2.2))
    := by unfold SpeedBreaks SoundSchedule ValueFalls RisingValues; decide +kernel

theorem test_meets_BankCheckEnds :
    (let s := fun z x => { withBank 2 (.checking z 1) x onl with agent.checking := some 2 }
     ((s 1 job).agent.checking = some 2 ∧ ((s 1 job).banks.get 2).state = .checking 1 1
         ∧ (s 1 job).zoneCount = 1 ∧ (s 1 job).circuitCount = 1
         ∧ sealCheck 2 1 1 ((s 1 job).banks.get 2).recipe = .passed)
       ∧ sealCheck 2 1 1 ((s 1 Recipe.empty).banks.get 2).recipe = .rejected .count (some (.zoneTemp 2 0)) (some 0)
       ∧ ¬ ((s 2 job).zoneCount = 2 ∧ (s 2 job).circuitCount = 1)) := by decide +kernel

theorem test_meets_ClearBankExecutes :
    (let s := fun st => asking 8 [3] (withBank 3 st job onl)
     Executes 8 1 (asked 8 [3]) (s .sealed) ∧ (asked 8 [3]).byteParam 0 = (3 : BankNo).val
       ∧ ((s .sealed).banks.get 3).state = .sealed ∧ ((s .empty).banks.get 3).state = .empty
       ∧ ((s .editing).banks.get 3).state = .editing ∧ ((s (.checking 1 1)).banks.get 3).state.isChecking = true
       ∧ ((s (.pending .atStop)).banks.get 3).state.isPending = true ∧ ((s .active).banks.get 3).state = .active) := by
  unfold Executes; decide +kernel

theorem test_meets_ActivateBankExecutes :
    (let s := fun m st => asking 9 [3, m] (withBank 3 st job onl)
     4 ≤ (asked 9 [4, 0]).byteParam 0 ∧ 3 ≤ (asked 9 [0, 3]).byteParam 1
       ∧ Executes 9 2 (asked 9 [3, 2]) (s 2 .sealed) ∧ (asked 9 [3, 2]).byteParam 0 = (3 : BankNo).val
       ∧ (asked 9 [3, 2]).byteParam 1 < 3 ∧ ((s 0 (.checking 1 1)).banks.get 3).state.isChecking = true
       ∧ ((s 0 .empty).banks.get 3).state = .empty ∧ ((s 0 .sealed).banks.get 3).state = .sealed
       ∧ (asked 9 [3, 0]).byteParam 1 = 0 ∧ (asked 9 [3, 1]).byteParam 1 = 1
       ∧ ((asked 9 [3, 2]).byteParam 1 = 2 ∧ (s 2 .sealed).web.state = .stopped)
       ∧ ({ s 2 .sealed with web.state := .running } : State).web.state ≠ .stopped) := by unfold Executes; decide +kernel

theorem test_meets_CancelActivationExecutes :
    (let s := asking 10 [] (withBank 3 (.pending .atSplice) job onl)
     Executes 10 0 (asked 10 []) s ∧ (s.banks.get 3).state.isPending = true
       ∧ ∀ c, (s.banks.get c).state.isPending = true → c = 3)
    ∧ (Executes 10 0 (asked 10 []) (asking 10 [] onl)
        ∧ ∀ b, ((asking 10 [] onl).banks.get b).state.isPending = false) := by unfold Executes; decide +kernel

/-- A changeover to the bank of the record, to another bank, and with no record. -/
theorem test_meets_ChangeoverEffect :
    resuming.web.record = some resume ∧ resume.bank = 0 ∧ resume.bank ≠ 3 ∧ firing.web.record = none
      ∧ firing.log.queue.length < 32 := by decide +kernel

/-! ### The Commissioning Store -/

theorem test_meets_StoreAndReloadJudged :
    (let run' := { bare with agent.storeRunning := true }
     Executes 11 0 (asked 11 []) (asking 11 [] run') ∧ run'.agent.storeRunning = true
       ∧ ({ onl with dryer.state := .purging } : State).dryer.state = .purging
       ∧ (Executes 11 0 (asked 11 []) (asking 11 [] onl) ∧ onl.dryer.state = .unpurged ∧ onl.agent.storeRunning = false
           ∧ checkData onl.comm.working = none)
       ∧ (checkData bare.comm.working).isSome = true ∧ tripped.dryer.state = .tripped
       ∧ Executes 12 0 (asked 12 []) (asking 12 [] run') ∧ Executes 12 0 (asked 12 []) (asking 12 [] onl)
       ∧ (let u := run .reload (asking 12 [] (windowed .slotMap .write 0 onl))
          Executes 5 0 (asked 5 []) (asking 5 [] u) ∧ Executes 4 1 (asked 4 [0]) (asking 4 [0] u))
       ∧ (windowed .slotMap .write 0 onl).agent.window = some ⟨.slotMap, .write, true, 0⟩
       ∧ (windowed .board .read 0 onl).agent.window = some ⟨.board, .read, true, 0⟩ ∧ Table.board ≠ .commScalars
       ∧ Table.board ≠ .slotMap) := by unfold Executes; decide +kernel

/-- R183, R23: the scalar cross-checks in their order, then the first failing entry of the map with its first reason,
then the first missing role. -/
theorem test_store_first_failure :
    (let f := fun c m => (checkData { scalars := c, map := m }).map fun l => l.map BitVec.toNat
     f { plantScalars with silence := 19, purgeMin := 40001 } [] = some [0, 0, 0, 0, 2]
       ∧ f { plantScalars with fUnmon := 26, trip := 250 } [] = some [0, 0, 0, 1, 11]
       ∧ f { plantScalars with trip := 250, qFloor := 40000 } [] = some [0, 0, 0, 2, 12]
       ∧ f { plantScalars with qFloor := 40000, purgeMin := 40001 } [] = some [0, 0, 0, 3, 15]
       ∧ f { plantScalars with purgeMin := 40001 } [] = some [0, 0, 0, 4, 19]
       ∧ f plantScalars (at' 10 0 .webSpeed (.sample 3) :: at' 40 0 .webSpeed (.sample 3) :: plantMap) =
           some [1, 0, 0, 1, 1]
       ∧ f plantScalars (plantMap.drop 1) = some [1, 0, 0, 7, 0, 0]) := by decide +kernel

/-- An entry of WEB_SPEED alone fails no check of the map. -/
theorem web_speed_passes (m : Nat) (c : Scalars) (h : c.node = 40) :
    ¬ EntryFails { scalars := c, map := [at' 10 0 .webSpeed (.sample 3)] } [] (at' 10 0 .webSpeed (.sample 3)) m := by
  rcases m with _ | _ | _ | _ | _ | _ | _ | m <;> simp [EntryFails, at', h, Role.withinCounts, SlotEntry.kind]

theorem test_meets_StoreChecksDecide :
    (let w : CommRecord := { scalars := plantScalars, map := [at' 10 0 .webSpeed (.sample 3)] }
     (∀ ahead x behind, w.map = ahead ++ x :: behind → ∀ m, ¬ EntryFails w ahead x m)
       ∧ (∀ q ∈ [Role.webSpeed], ∃ e ∈ w.map, e.role = q ∧ e.kind = .sample)
       ∧ ∀ e ∈ w.map, ¬ (e.role = .exhaustFlow ∧ e.kind = .sample))
    ∧ (let e := at' 40 0 .webSpeed (.sample 3)
       let w : CommRecord := { scalars := plantScalars, map := e :: plantMap }
       EntryFails w [] e 2 ∧ ∀ m < 2, ¬ EntryFails w [] e m) := by
  refine ⟨⟨?_, by decide +kernel⟩, rfl, ?_⟩
  · rintro (_ | ⟨y, ahead⟩) x behind h m
    · simp only [List.nil_append, List.cons.injEq] at h
      exact h.1 ▸ web_speed_passes m plantScalars rfl
    · simp at h
  · intro m hm
    rcases m with _ | _ | m
    · simp [EntryFails]
    · simp [EntryFails]
    · omega

theorem test_meets_StoreChecksDecide_scalars :
    (let c := fun (f : Scalars → Scalars) => f plantScalars
     (c fun x => { x with silence := 19 }).silence < 2 * plantScalars.period
       ∧ 2 * plantScalars.period ≤ (c fun x => { x with silence := 20 }).silence
       ∧ plantScalars.fMon < (c fun x => { x with fUnmon := 26 }).fUnmon
       ∧ (c fun x => { x with fUnmon := 25 }).fUnmon ≤ plantScalars.fMon
       ∧ (c fun x => { x with trip := 250 }).trip ≤ 10 * plantScalars.fMon
       ∧ 10 * plantScalars.fMon < (c fun x => { x with trip := 251 }).trip
       ∧ plantScalars.qCap ≤ (c fun x => { x with qFloor := 40000 }).qFloor
       ∧ (c fun x => { x with qFloor := 39999 }).qFloor < plantScalars.qCap
       ∧ plantScalars.qCap < (c fun x => { x with purgeMin := 40001 }).purgeMin
       ∧ (c fun x => { x with purgeMin := 40000 }).purgeMin ≤ plantScalars.qCap) := by decide +kernel

theorem test_meets_StoreWriteCompletes :
    (let s := { live with agent.storeRunning := true, comm.working.scalars.zones := 2 }
     s.comm.working = { plant with scalars.zones := 2 } ∧ s.agent.storeRunning = true ∧ s.zoneCount = 1
       ∧ (run .storeWriteComplete s).zoneCount = 2 ∧ recordKeys plantMap ≠ [] ∧ commandRoles plantMap ≠ []
       ∧ RecKey.mk .splice false ∉ recordKeys plantMap ∧ Role.zoneFanSp 0 ∉ commandRoles plantMap) := by decide +kernel

/-- A part whose STORE of `w` is about to complete. -/
def completing (w : CommRecord) (s : State) : State := { s with agent.storeRunning := true, comm.working := w }

/-- A TRIPPED part with EXHAUST_SP UNRESPONSIVE, its condition and the flame condition of zone 1 standing, the latch
set, and one ADVISORY record in the queue under an ALERT. -/
def beforeStore : State :=
  { tripped with
    cmds.entries := updateKey .exhaustSp (fun e => { e with responsiveness := .unresponsive }) tripped.cmds.entries
    dryer := { tripped.dryer with exhaustUnresponsive := true, flame := ⟨⟨true, 9⟩, Cond.clear, Cond.clear, Cond.clear⟩ }
    web.latch := true, log.queue := [Incident.mk 0 none .storeFinished .none .absent .stopped .unpurged]
    log.alert := true }

/-- R85, R97, R112, R123, R124, R136, R163: what follows the new record, and what stands without a change. -/
theorem test_store_follows :
    (let f := fun m c => run .storeWriteComplete (completing { scalars := c, map := m } beforeStore)
     let few := plantMap.filter fun e => !decide (e.kind = .echo) && !decide (e.role = .zoneFlame 0)
     ((f plantMap plantScalars).dryer.exhaustUnresponsive, (f plantMap plantScalars).dryer.flame.n0) = (true, ⟨true, 9⟩)
       ∧ ((f few plantScalars).dryer.exhaustUnresponsive, (f few plantScalars).dryer.flame.n0) = (false, ⟨false, 0⟩)
       ∧ (f plantMap plantScalars).web.latch = true
       ∧ (f plantMap { plantScalars with pinMode := .level }).web.latch = false
       ∧ ((f plantMap { plantScalars with threshold := .safety }).log.alert,
           (f plantMap { plantScalars with threshold := .safety }).log.gap) = (false, some (500 * 1000))
       ∧ (f plantMap { plantScalars with threshold := .advisory }).log.alert = true
       ∧ (f plantMap plantScalars).log.queue.map Incident.code = [.storeFinished, .storeFinished]
       ∧ (run .storeWriteComplete (completing plant { bare with line.state := .online })).web.returnDue = true) := by
  decide +kernel

theorem test_meets_StoreWriteCompletes_clauses :
    (let s := fun c => completing { plant with scalars := c } beforeStore
     ((run .storeWriteComplete (s plantScalars)).zoneCount = (s plantScalars).zoneCount
         ∧ (run .storeWriteComplete (s plantScalars)).circuitCount = (s plantScalars).circuitCount)
       ∧ (beforeStore.scalars? = some plantScalars ∧ bare.scalars? = none
         ∧ plantScalars.pinMode ≠ ({ plantScalars with pinMode := .level } : Scalars).pinMode)
       ∧ ((0 : Zone).val < plantScalars.zones ∧ ∃ e ∈ plantMap, e.role = .zoneFlame 0 ∧ e.kind = .sample)
       ∧ ¬ ((1 : Zone).val < plantScalars.zones ∧ ∃ e ∈ plantMap, e.role = .zoneFlame 1 ∧ e.kind = .sample)
       ∧ (beforeStore.cmds.entry? .exhaustSp).map CmdEntry.responsiveness = some .unresponsive
       ∧ beforeStore.log.queue.any (qualifies .advisory) = true
       ∧ beforeStore.log.queue.any (qualifies .safety) = false ∧ beforeStore.log.queue.length < 32) := by decide +kernel

theorem test_meets_StoreLoadCompletes :
    (let s := { State.reset with comm.stored := some plant }
     s.phase = .loading ∧ s.comm.stored = some plant ∧ State.reset.comm.stored = none) := by decide

/-! ### The Dryer Safety Unit -/

theorem test_meets_PurgeRequests :
    Executes 13 0 (asked 13 []) (asking 13 [] bare) ∧ (asking 13 [] bare).commissioned = false
    ∧ ((asking 13 [] onl).commissioned = true ∧ ({ onl with agent.storeRunning := true } : State).agent.storeRunning = true)
    ∧ (live.line.state ≠ .online ∧ firing.dryer.state ≠ .unpurged)
    ∧ (Executes 13 0 (asked 13 []) (asking 13 [] onl) ∧ onl.dryer.state = .unpurged ∧ onl.line.state = .online
        ∧ onl.agent.storeRunning = false)
    ∧ (let s := asking 14 [] { onl with dryer.state := .purging }
       Executes 14 0 (asked 14 []) s ∧ s.dryer.state = .purging)
    ∧ (Executes 14 0 (asked 14 []) (asking 14 [] onl) ∧ onl.dryer.state ≠ .purging) := by unfold Executes; decide +kernel

/-- TRIPPED with no condition active any more. -/
def cooled : State := { tripped with dryer.lelMeasured := false }

theorem test_meets_TripRequests :
    (let s := asking 15 [] tripped
     Executes 15 0 (asked 15 []) (asking 15 [] firing) ∧ firing.dryer.state ≠ .tripped
       ∧ Executes 15 0 (asked 15 []) s ∧ s.dryer.state = .tripped
       ∧ firstActive s.dryer = some (.lelMeasuredHigh, none)
       ∧ (Executes 21 0 (asked 21 []) (asking 21 [] onl) ∧ onl.dryer.capture = none)
       ∧ (Executes 21 0 (asked 21 []) (asking 21 [] tripped) ∧ tripped.dryer.capture.isSome = true)) := by
  unfold Executes; decide +kernel

theorem test_meets_TripRequests_flames :
    (let q := asking 15 [] cooled
     let o := withRec (.zoneFlame 0) (good 0) q
     (Executes 15 0 (asked 15 []) q ∧ ¬ AnyActive q.dryer ∧ (0 : Zone) ∈ q.flameZones
           ∧ q.board.fresh (.zoneFlame 0) ≠ some 0
           ∧ ∀ j ∈ q.flameZones, j < 0 → q.board.fresh (.zoneFlame j) = some 0)
       ∧ (Executes 15 0 (asked 15 []) o ∧ ¬ AnyActive o.dryer
           ∧ ∀ k ∈ o.flameZones, o.board.fresh (.zoneFlame k) = some 0)) := by
  unfold Executes AnyActive; decide +kernel

/-- An onset in FIRING, with a resume record standing, and in a dryer tripped already: the records it offers. -/
theorem test_onset_records :
    (let f := fun s => (onset .lelMeasuredHigh .none (some 412) s).log.queue.map fun r => (r.code, r.value, r.web)
     f firing = [(.lelMeasuredHigh, .num 412, .running)] ∧ f tripped = [(.lelMeasuredHigh, .num 412, .running)]
       ∧ f resuming = [(.resumeDiscarded, .cause .dryer, .threading), (.lelMeasuredHigh, .num 412, .threading)]) := by
  decide +kernel

theorem test_meets_OnsetTrips_records :
    (firing.web.record = none ∧ firing.log.queue.length < 32 ∧ onl.dryer.state.burning = false)
    ∧ (resuming.dryer.state.burning = true ∧ resuming.web.record = some resume ∧ resuming.log.queue.length < 31) := by
  decide +kernel

theorem test_meets_OnsetTrips : firing.dryer.state ≠ .tripped ∧ firing.dryer.state.burning = true
    ∧ tripped.dryer.state = .tripped ∧ tripped.dryer.capture.isSome = true ∧ firing.dryer.capture.isSome = false := by
  decide

/-- PURGED with the hold running. -/
def purged : State := { onl with dryer.state := .purged, dryer.permit := true, dryer.hold := some 300000000 }

theorem test_meets_HoldAndResumeExpire : purged.dryer.state = .purged ∧ purged.dryer.hold = some 300000000
    ∧ timedOut.web.state = .resuming ∧ timedOut.web.timer = some 0 ∧ timedOut.web.record = some resume
    ∧ (resuming.web.state = .resuming ∧ resuming.web.timer = some 6000 ∧ 0 < 6000)
    ∧ ({ resuming with web.timer := some 1 } : State).web.timer = some 1 := by decide

theorem test_meets_SilenceExpires : firing.line.silence = some 100000
    ∧ (onl.line.silence = some 100000 ∧ onl.dryer.state = .unpurged) ∧ tripped.dryer.state = .tripped
    ∧ ({ onl with dryer.state := .purging } : State).dryer.state = .purging
    ∧ (firing.dryer.state.burning = true ∧ firing.dryer.lineSilent = false ∧ firing.dryer.capture = none) := by
  decide +kernel

/-! ### The Web Sequencer -/

theorem test_meets_WebAndReleaseRequests :
    Executes 16 1 (asked 16 [1]) (asking 16 [1] onl) ∧ (asked 16 [1]).byteParam 0 < 2 ∧ 2 ≤ (asked 16 [2]).byteParam 0
    ∧ (Executes 19 0 (asked 19 []) (asking 19 [] firing) ∧ firing.web.record = none)
    ∧ (Executes 19 0 (asked 19 []) (asking 19 [] resuming) ∧ resuming.web.record = some resume)
    ∧ (let s := asking 17 [15, 0] onl
       Executes 17 2 (asked 17 [15, 0]) s ∧ (asked 17 [15, 0]).byteParam 0 = Role.exhaustSp.number
         ∧ (asked 17 [15, 0]).byteParam 1 = Role.exhaustSp.wireIndex ∧ Role.exhaustSp.isCommand = true
         ∧ s.commissioned = true ∧ commandEntry s.map .exhaustSp ≠ none)
    ∧ ((asking 17 [16, 1] onl).commissioned = true ∧ commandEntry onl.map (.chillWaterSp 0) = none
        ∧ bare.commissioned = false)
    ∧ Executes 18 2 (asked 18 [15, 0]) (asking 18 [15, 0] onl) := by unfold Executes; decide +kernel

/-- WEB_SPEED and role number 18 name no command role. -/
theorem test_meets_WebAndReleaseRequests_range :
    Executes 17 2 (asked 17 [18, 0]) (asking 17 [18, 0] onl)
    ∧ ∀ r : Role, r.isCommand = true → ¬ ((asked 17 [18, 0]).byteParam 0 = r.number
        ∧ (asked 17 [18, 0]).byteParam 1 = r.wireIndex) := by
  refine ⟨by unfold Executes; decide +kernel, ?_⟩
  rintro r - ⟨h, -⟩
  cases r <;> simp [asked, Place.byteParam, byteAt, byte, Role.number] at h

theorem test_meets_BreaksTaken :
    State.reset.phase ≠ .running ∧ (bare.phase = .running ∧ bare.scalars? = none)
    ∧ (onl.phase = .running ∧ onl.scalars? = some plantScalars ∧ plantScalars.pinMode = .edge
        ∧ Level.low ≠ plantScalars.pinLevel ∧ Level.high = plantScalars.pinLevel
        ∧ onl.web.reference ≠ plantScalars.pinLevel)
    ∧ (live.line.state ≠ .online ∧ onl.line.state = .online ∧ onl.web.state = .stopped
        ∧ firing.line.state = .online ∧ firing.web.state = .running ∧ resuming.web.state = .resuming)
    ∧ (resuming.web.record.isSome = true ∧ activeBank firing.banks = some 0 ∧ firing.dryer.state.burning = true
        ∧ tripped.web.state = .running ∧ tripped.dryer.state.burning = false) := by decide +kernel

/-- The web in a state with an actual speed. -/
def webAt (w : WebState) (v : Nat) (s : State) : State := { s with web.state := w, board.actual := v }

/-- A good refresh of step 1 in ONLINE. -/
def refresh1 : Refresh := Refresh.mk true (some 12040) 1 true [] .online false false

theorem test_meets_JudgedRefreshMovesWeb :
    (judged refresh1 firing = true ∧ refresh1.entry = false ∧ firing.web.returnDue = false ∧ firing.board.splice = false
      ∧ firing.board.frozen = false)
    ∧ ((webAt .stopped 4 firing).board.actual < (webAt .stopped 4 firing).crawl
        ∧ (webAt .stopped 5 firing).crawl ≤ (webAt .stopped 5 firing).board.actual
        ∧ (webAt .stopped 5 resuming).web.record.isSome = true ∧ firing.web.record = none)
    ∧ ((withRec .lineBreak (good 1) firing).sources.head? = some .lineBreak ∧ firing.sources = [])
    ∧ ((webAt .threading 100 (withRec .impression (good 1) firing)).impression = some true
        ∧ (webAt .threading 100 (withRec .impression (good 1) firing)).runThreshold ≤ 100
        ∧ (withRec .impression (good 0) firing).impression = some false)
    ∧ ({ resuming with web.timer := some 1 } : State).web.timer = some 1
    ∧ (({ webAt .break 4 firing with web.dwell := 1 } : State).web.dwell ≤ refresh1.step
        ∧ refresh1.step < ({ webAt .break 4 firing with web.dwell := 2 } : State).web.dwell) := by decide +kernel

/-! ### The Command Table -/

theorem test_meets_OwnerResolved :
    (tripped.dryer.state = .tripped ∧ (Role.zoneBurnerEn 0).isBurner = true
      ∧ (CommandParams.mk .full (some 800) 100 3).safe.isSome = true)
    ∧ ¬ (firing.dryer.state = .tripped ∧ ((Role.exhaustSp).isBurner = true ∨ (CommandParams.mk .full none 100 3).safe.isSome = true))
    ∧ ({ CmdEntry.fresh with released := true } : CmdEntry).released = true ∧ CmdEntry.fresh.released = false
    ∧ (∀ b, (onl.banks.get b).state ≠ .active) ∧ ∃ b, (firing.banks.get b).state = .active := by decide +kernel

theorem test_meets_SequenceOwnerValues :
    (∀ r, (fun r => ownerValue .sequence r ⟨.full, none, 100, 3⟩ 1700 CmdEntry.fresh resuming) r =
      ownerValue .sequence r ⟨.full, none, 100, 3⟩ 1700 CmdEntry.fresh resuming)
    ∧ onl.dryer.state = .unpurged ∧ (resuming.dryer.state ≠ .unpurged ∧ resuming.dryer.state ≠ .purging)
    ∧ (webAt .break 0 firing).web.state = .break ∧ firing.web.exhaustAtBreak = none
    ∧ ({ firing with web.exhaustAtBreak := some 25935 } : State).web.exhaustAtBreak = some 25935
    ∧ resuming.web.state = .resuming ∧ resuming.web.record = some resume ∧ resume.temps.get 0 = some 2138
    ∧ resume.temps.get 1 = none ∧ (webAt .stopped 0 firing).web.state = .stopped ∧ firing.web.state = .running :=
  ⟨fun _ => rfl, by decide⟩

/-- A publication of the Schedule Unit and one of the Solvent Unit (section 8.11). -/
def schedPub : SchedPub :=
  { bank := 0, cycle := some 12039, lead := 880, zoneTemp := ⟨some 2138, none, none, none⟩, zoneFan := Four.fill none,
    exhaust := 24000, chill := Three.fill none, ceiling := ⟨some 530, none, none, none⟩ }

/-- The solvent figures of section 5.7. -/
def solvPub : SolvPub :=
  { bank := 0, cycle := some 12039, covered := 1, line := .online, web := .running, dryer := .firing, speed := 880,
    substituted := false, coverage := 3000, mode := .monitored, lel := some 230, eff := ⟨25, 400, 10, 8000⟩,
    flow := some 28400, rate := 265241, predicted := some 208, qMin := 23577, floor := 25935, solventCeiling := 1060,
    measuredCeiling := 956, source := .publication (some 12039) 0, combined := 530 }

/-- FIRING at 872 m/min with both publications standing. -/
def publishing : State :=
  { webAt .running 872 firing with sched.publication := some schedPub, solv.publication := some solvPub }

/-- The values of section 8.11 and of the speed cap: 24,000 raised to 25,935; 900 held to 872; 850 passed. -/
theorem test_forward_values :
    (let f := fun (r : Role) (p : CommandParams) (w : Word) => forwardValue r p CmdEntry.fresh w publishing
     (f (.zoneTempSp 0) ⟨.full, some 800, 100, 3⟩ 1700, f .exhaustSp ⟨.full, none, 100, 3⟩ 12000,
       f .speedRef ⟨.observe, none, 10, 3⟩ 900, f .speedRef ⟨.observe, none, 10, 3⟩ 850)) =
      ((.schedule, 2138, false), (.schedule, 25935, true), (.line, 872, true), (.line, 850, false)) := by decide +kernel

theorem test_meets_OwnerValuesHoldAndLimits :
    (∀ r, (fun r => applyHold (resolveOwner r ⟨.full, none, 100, 3⟩ CmdEntry.fresh publishing) CmdEntry.fresh
        (ownerValue (resolveOwner r ⟨.full, none, 100, 3⟩ CmdEntry.fresh publishing) r ⟨.full, none, 100, 3⟩
          (readValue r 900) CmdEntry.fresh publishing)) r =
      applyHold (resolveOwner r ⟨.full, none, 100, 3⟩ CmdEntry.fresh publishing) CmdEntry.fresh
        (ownerValue (resolveOwner r ⟨.full, none, 100, 3⟩ CmdEntry.fresh publishing) r ⟨.full, none, 100, 3⟩
          (readValue r 900) CmdEntry.fresh publishing))
    ∧ (publishing.sched.publication = some schedPub ∧ publishing.solv.publication = some solvPub
        ∧ onl.sched.publication = none ∧ onl.solv.publication = none)
    ∧ (0 < ({ CmdEntry.fresh with hold := 1 } : CmdEntry).hold ∧ CmdEntry.fresh.hold = 0)
    ∧ (publishing.scalars? = some plantScalars ∧ plantScalars.speedCap = true ∧ publishing.web.state = .running
        ∧ resolveOwner .speedRef ⟨.observe, none, 10, 3⟩ CmdEntry.fresh publishing ≠ .safe)
    ∧ resolveOwner .speedRef ⟨.observe, some 0, 10, 3⟩ CmdEntry.fresh tripped = .safe :=
  ⟨fun _ => rfl, by decide +kernel⟩

/-- An OUT frame as far as its body, with a command slot at index 95: ZONE_TEMP_SP(1) at channel 2, unmapped at 9. -/
def outFrame (channel : Nat) : List Byte :=
  (cycleBody 12040 (List.replicate 95 (slotRec 1 0 1 0 0) ++ [slotRec 11 channel 2 0 1700])).map byte

theorem test_meets_CommandPassageForwards :
    (let s := leavingOut (outFrame 2) { firing with sched.job := some (SchedJob.mk none 0 job 0 (Four.fill none) 1 1) }
     let slot := Slot.mk 11 2 .command .good 1700
     s.line.outStore = transit (outFrame 2) :: [] ∧ s.line.state = .online ∧ (transit (outFrame 2)).sinceOnline = true
       ∧ s.commissioned = true ∧ SlotPasses 95 (transit (outFrame 2)) slot ∧ slot.kind = .command
       ∧ entryAt s.map 11 2 .command = some (at' 11 2 (.zoneTempSp 0) (.command .full (some 800) 100 3))
       ∧ commandParams (at' 11 2 (.zoneTempSp 0) (.command .full (some 800) 100 3)) = some ⟨.full, some 800, 100, 3⟩
       ∧ s.cmds.entry? (.zoneTempSp 0) = some CmdEntry.fresh
       ∧ SlotPasses 95 (transit (outFrame 9)) (Slot.mk 11 9 .command .good 1700)
       ∧ entryAt s.map 11 9 .command = none ∧ s.sched.job ≠ none ∧ firing.sched.job = none ∧ firing.solv.job = none) := by
  unfold SlotPasses; decide +kernel

/-- R7, R138: a command slot is offered in ONLINE only, to a COMMISSIONED part, and in a frame that started there. -/
theorem test_meets_CommandPassageForwards_passes :
    (let slot := Slot.mk 11 2 .command .good 1700
     (SlotPasses 95 (transit (outFrame 2)) slot ∧ live.line.state ≠ .online
         ∧ (leavingOut (outFrame 2) live).line.outStore = transit (outFrame 2) :: [])
       ∧ ({ transit (outFrame 2) with sinceOnline := false } : Transit).sinceOnline = false
       ∧ ({ bare with line.state := .online } : State).commissioned = false
       ∧ SlotPasses 0 (transit (outFrame 2)) (Slot.mk 1 0 .sample .good 0)
       ∧ (Slot.mk 1 0 .sample .good 0).kind ≠ .command) := by unfold SlotPasses; decide +kernel

/-! ### The Incident Log -/

/-- A record with a code. -/
def rec' (c : IncidentCode) : Incident := Incident.mk 0 none c .none .absent .stopped .unpurged

theorem test_meets_OfferAdmitted :
    (0 < ({ onl with log.quietErrors := 1 } : State).log.quietErrors
      ∧ 0 < ({ onl with log.quietLate := 1 } : State).log.quietLate)
    ∧ (¬ (IncidentCode.frameErrors = .frameErrors ∧ 0 < onl.log.quietErrors) ∧ onl.log.queue.length < 32)
    ∧ (let q := rec' .webBreak :: rec' .frameErrors :: List.replicate 30 (rec' .webBreak)
       32 ≤ q.length ∧ (∀ x ∈ List.replicate 32 (rec' .webBreak),
           IncidentCode.purgeDone.cls.rank ≤ x.code.cls.rank)
         ∧ q = [rec' .webBreak] ++ rec' .frameErrors :: List.replicate 30 (rec' .webBreak)
         ∧ (rec' .frameErrors).code.cls = .advisory ∧ (∀ y ∈ [rec' .webBreak], y.code.cls ≠ .advisory)
         ∧ IncidentClass.advisory.rank < IncidentCode.lineSilent.cls.rank
         ∧ ∀ y ∈ q, IncidentClass.advisory.rank ≤ y.code.cls.rank) := by decide +kernel

theorem test_meets_IncidentsTakenAndAlert :
    Executes 20 2 (asked 20 [0, 0]) (asking 20 [0, 0] onl) ∧ (asked 20 [0, 0]).wordParam 0 = 0
    ∧ 5 ≤ (asked 20 [0, 5]).wordParam 0
    ∧ (Executes 20 2 (asked 20 [0, 4]) (asking 20 [0, 4] bare) ∧ 1 ≤ (asked 20 [0, 4]).wordParam 0
        ∧ (asked 20 [0, 4]).wordParam 0 ≤ 4 ∧ bare.log.queue ≠ [] ∧ bare.log.alert = true ∧ onl.log.queue = [])
    ∧ (let s := { onl with log.gap := some 500000 }
       s.log.gap = some 500000 ∧ s.log.alert = false) := by unfold Executes; decide +kernel

/-! ### The Service Agent -/

theorem test_meets_OverridesExecute :
    Executes 22 3 (asked 22 [5, 0, 1]) (asking 22 [5, 0, 1] onl) ∧ 5 ≤ (asked 22 [5, 0, 1]).byteParam 0
    ∧ (Executes 22 3 (asked 22 [4, 1, 244]) (asking 22 [4, 1, 244] bare) ∧ bare.scalars? = none
        ∧ (safetyParamOf ((asked 22 [4, 1, 244]).byteParam 0)).isSome = true)
    ∧ (onl.scalars? = some plantScalars
        ∧ ∀ q, safetyParamOf 2 = some q → ¬ (q.range.1 ≤ (asked 22 [2, 0, 99]).wordParam 1
            ∧ (asked 22 [2, 0, 99]).wordParam 1 ≤ q.range.2)
          ∧ q.range.1 ≤ (asked 22 [2, 0, 100]).wordParam 1 ∧ (asked 22 [2, 2, 88]).wordParam 1 ≤ q.range.2)
    ∧ 6 ≤ (asked 23 [6]).byteParam 0
    ∧ (Executes 23 1 (asked 23 [5]) (asking 23 [5] bare) ∧ (asked 23 [5]).byteParam 0 = 5
        ∧ Executes 23 1 (asked 23 [0]) (asking 23 [0] onl)
        ∧ (safetyParamOf ((asked 23 [0]).byteParam 0)).isSome = true) := by
  refine ⟨by unfold Executes; decide +kernel, by decide +kernel, by unfold Executes; decide +kernel,
    ⟨by decide +kernel, ?_⟩, by decide +kernel, by unfold Executes; decide +kernel⟩
  intro q h
  cases h
  decide +kernel

theorem test_meets_CountersRead :
    (let p := fun a b c d e => asked 24 [a, b, c, d, e]
     Executes 24 5 (p 0 17 0 1 1) (asking 24 [0, 17, 0, 1, 1] onl) ∧ 2 ≤ (p 0 0 0 1 2).byteParam 4
       ∧ (p 0 0 0 0 0).wordParam 2 = 0 ∧ 18 < (p 0 17 0 2 0).wordParam 0 + (p 0 17 0 2 0).wordParam 2
       ∧ (p 0 17 0 1 1).byteParam 4 < 2 ∧ 1 ≤ (p 0 17 0 1 1).wordParam 2
       ∧ (p 0 17 0 1 1).wordParam 0 + (p 0 17 0 1 1).wordParam 2 ≤ 18
       ∧ (p 0 17 0 1 1).byteParam 4 = 1 ∧ (p 0 0 0 18 0).byteParam 4 = 0) := by unfold Executes; decide +kernel

/-- The reset the statement describes. -/
def freshPart (ph : Phase) (c : ResetCauses) (u : State) : State :=
  { State.reset with
    pending := u.pending, now := u.now, choices := u.choices, phase := ph, pins := u.pins
    comm.stored := u.comm.stored, agent.causes := c }

theorem test_meets_ResetsAndSupply :
    (∀ ph c u, freshPart ph c u =
      { State.reset with
        pending := u.pending, now := u.now, choices := u.choices, phase := ph, pins := u.pins
        comm.stored := u.comm.stored, agent.causes := c })
    ∧ (Executes 25 0 (asked 25 []) (asking 25 [] { onl with agent.storeRunning := true })
        ∧ Executes 25 0 (asked 25 []) (asking 25 [] onl) ∧ onl.agent.storeRunning = false)
    ∧ (run .resetPart (asking 25 [] onl)).agent.resetWait = some 100000
    ∧ ((run .supplyLoss onl).phase = .unpowered ∧ (run .supplyLoss onl).pins.resetAsserted = false
        ∧ (run .resetPinAssert (run .supplyLoss onl)).phase = .unpowered
        ∧ (run .resetPinAssert (run .supplyLoss onl)).pins.resetAsserted = true)
    ∧ (onl.pins.resetAsserted = false ∧ onl.phase ≠ .unpowered ∧ (run .resetPinAssert onl).phase = .heldByPin) :=
  ⟨fun _ _ _ => rfl, by unfold Executes; decide +kernel⟩

/-- An OUT service frame with one request for a node. -/
def outService (node : Nat) : List Byte := framed (serviceBody [requestRec node 9 7 [2]] [])

/-- The bytes of that request. -/
def outRecord (node : Nat) : List Byte := (requestRec node 9 7 [2]).map byte

theorem test_meets_RequestTakenOrRefused :
    (let s := leavingOut (outService 40) onl
     let full := { s with agent.places := List.replicate 8 (asked 1 []) }
     s.line.outStore = transit (outService 40) :: [] ∧ s.line.state ≠ .bypass
       ∧ kindOf (outService 40) = .service ∧ headerComplete (outService 40) = true
       ∧ requestAt (outService 40) 0 = some (outRecord 40) ∧ byteAt (outRecord 40) 0 = s.node
       ∧ s.agent.places.length < 8 ∧ 8 ≤ full.agent.places.length
       ∧ requestAt (outService 41) 0 = some (outRecord 41) ∧ byteAt (outRecord 41) 0 ≠ s.node) := by decide +kernel

/-- A BACK service frame with a free place and one that a node beyond has filled. -/
def backService : List Byte := framed (serviceBody [] [freeRec, 41 :: List.replicate 16 0])

theorem test_meets_ReplyPlaceFilled :
    (let s := leavingBack backService onl
     s.line.backStore = transit backService :: [] ∧ s.line.state ≠ .bypass ∧ kindOf backService = .service
       ∧ headerComplete backService = true ∧ freePlaceAt backService 1 = false ∧ freePlaceAt backService 0 = true
       ∧ freePlaceAt backService 2 = false ∧ ({ transit backService with marks := [9] } : Transit).marks = 9 :: []
       ∧ (transit backService).marks = []) := by decide +kernel

/-- A WAITING place ahead of one with a reply; and no place with a reply. -/
theorem test_meets_ReplyPlaceFilled_parts :
    (let s := { leavingBack backService onl with agent.places := [asked 1 [], staged (.reply (plain .done) 0 false)] }
     s.agent.places = [asked 1 []] ++ staged (.reply (plain .done) 0 false) :: []
       ∧ (staged (.reply (plain .done) 0 false)).stage = .reply (plain .done) 0 false)
    ∧ ∀ q ∈ [asked 1 []], ∀ r n f, q.stage ≠ .reply r n f := by
  refine ⟨by decide +kernel, ?_⟩
  intro q hq r n f h
  rw [List.mem_singleton.1 hq] at h
  cases h

/-! ### The Line Interface -/

/-- Both places of a store held. -/
def crowded (d : Dir) (s : State) : State :=
  { s with line := s.line.setStore d [transit (outService 40), transit (outService 40)] }

theorem test_meets_FrameArrives :
    State.reset.line.state = .bypass ∧ live.line.state ≠ .bypass
    ∧ (live.line.outStore.length < 2 ∧ live.line.backStore.length < 2)
    ∧ (frameKind 1 = .cycle ∧ frameKind 2 = .service ∧ frameKind 0 = .foreign ∧ frameKind 3 = .foreign)
    ∧ (2 ≤ ((crowded .out live).line.store .out).length ∧ 2 ≤ ((crowded .back live).line.store .back).length) := by
  decide +kernel

theorem test_meets_OutFrameEnds :
    (let leaves := fun bs => onl.line.state ≠ .bypass ∧ (leavingOut bs onl).line.store .out = transit bs :: []
     let c := framed (cycleBody 12041 [slotRec 11 2 2 0 1700])
     let p := poisoned (cycleBody 12041 [slotRec 11 2 2 0 1700])
     (leaves [7, 1] ∧ kindOf [7, 1] = .foreign)
       ∧ (leaves c ∧ kindOf c = .cycle ∧ longFrame c = false ∧ goodFrame c = true)
       ∧ (leaves p ∧ kindOf p = .cycle ∧ longFrame p = false ∧ goodFrame p = false)
       ∧ (leaves (outService 40) ∧ kindOf (outService 40) = .service ∧ goodFrame (outService 40) = true)
       ∧ (kindOf (poisoned (serviceBody [] [])) = .service ∧ goodFrame (poisoned (serviceBody [] [])) = false)) := by
  decide +kernel

theorem test_meets_BackServiceFrameEnds :
    (let s := { leavingBack backService onl with
        agent.places := [{ asked 25 [] with stage := .inFrame (plain .done) }], agent.resetWait := some 100000 }
     s.line.state ≠ .bypass ∧ s.line.store .back = transit backService :: [] ∧ kindOf backService = .service
       ∧ goodFrame backService = true ∧ onl.agent.resetWait = none ∧ s.agent.resetWait = some 100000
       ∧ ({ asked 25 [] with stage := .inFrame (plain .done) } : Place) ∈ s.agent.places
       ∧ goodFrame (poisoned (serviceBody [] [])) = false) := by decide +kernel

/-- A BACK cycle frame with no slots. -/
def backCycle (n : Nat) : List Byte := framed (cycleBody n [])

theorem test_meets_BackCycleFrameEnds :
    (let leaves := fun bs s => (leavingBack bs s).line.state ≠ .bypass ∧ (leavingBack bs s).line.store .back = transit bs :: []
     (leaves (backCycle 12040) onl ∧ leaves (backCycle 12040) live ∧ kindOf (backCycle 12040) = .cycle
         ∧ goodFrame (backCycle 12040) = true)
       ∧ numbering onl.line.lastCycle (cycleNumber (backCycle 12040)) = .step 1
       ∧ numbering onl.line.lastCycle (cycleNumber (backCycle 12294)) = .step 255
       ∧ numbering onl.line.lastCycle (cycleNumber (backCycle 12295)) = .renumbered
       ∧ (goodFrame (poisoned (cycleBody 12040 [])) = false ∧ kindOf (poisoned (cycleBody 12040 [])) = .cycle)
       ∧ (goodFrame (backCycle 12039) = true ∧ longFrame (backCycle 12039) = false
           ∧ numbering onl.line.lastCycle (cycleNumber (backCycle 12039)) = .repeated)
       ∧ (onl.line.state = .online ∧ live.line.state = .syncing ∧ (run .silenceTimerExpiry onl).line.state = .silent)) := by
  decide +kernel

/-- R12: the window of a period of 1 ms, both ends in it, and no refresh before the first. -/
theorem test_regular_window :
    (let f := fun r i => isRegular (some plantScalars) r true i
     plantScalars.period = 10 ∧ [7499, 7500, 12500, 12501].map (fun i => f false (some i)) = [false, true, true, false]
       ∧ f true (some 10000) = false ∧ f false none = false ∧ isRegular none false true (some 10000) = false) := by
  decide

theorem test_meets_BackCycleFrameEnds_line :
    (let silent := run .silenceTimerExpiry onl
     let matching := fun n => { live with line := { live.line with
       syncCount := n, lastCycle := some 12039, remembered := [12040, 12039] } }
     (onl.scalars? = some plantScalars ∧ onl.line.lastRefreshAt = some 0
         ∧ 750 * plantScalars.period ≤ onl.now + 7500 - 0 ∧ onl.now + 12500 - 0 ≤ 1250 * plantScalars.period)
       ∧ (live.line.lastRefreshAt = none ∧ bare.scalars? = none)
       ∧ (silent.line.state = .silent ∧ cycleNumber (backCycle 12040) ∉ silent.line.remembered
         ∧ cycleNumber (backCycle 12040) ∈ ({ silent with line.remembered := [12040] } : State).line.remembered)
       ∧ ((matching 7).line.state = .syncing ∧ cycleNumber (backCycle 12040) ∈ (matching 7).line.remembered
         ∧ (matching 7).line.syncCount + 1 = 8 ∧ (matching 0).line.syncCount = 0)
       ∧ cycleNumber (backCycle 12041) ∉ (matching 7).line.remembered) := by decide +kernel

theorem test_meets_TrailersTellGood :
    (let b := (cycleBody 12040 [slotRec 11 2 2 0 1700]).map byte
     kindOf b ≠ .foreign ∧ headerComplete b = true ∧ b.length = headerLength (kindOf b) + bodyLength b)
    ∧ TransitKept (transit (backCycle 12040)) ∧ kindOf (transit (backCycle 12040)).arrived ≠ .foreign := by
  unfold TransitKept; decide +kernel

/-- A BACK cycle frame with one slot. -/
def backSlot (slot : List Nat) : List Byte := framed (cycleBody 12040 [slot])

theorem test_meets_StatusSlotWritten :
    (let t := transit (backSlot (slotRec 40 7 5 2 0))
     let s := leavingBack (backSlot (slotRec 40 7 5 2 0)) onl
     let slot := Slot.mk 40 7 .status .failed 0
     s.line.backStore = t :: [] ∧ SlotPasses 0 t slot ∧ t.sinceOnline = true ∧ s.line.state = .online
       ∧ slot.kind = .status ∧ slot.node = s.node ∧ slot.channel ≤ 7
       ∧ live.line.state ≠ .online ∧ (Slot.mk 40 7 .sample .good 0).kind ≠ .status
       ∧ SlotPasses 0 (transit (backSlot (slotRec 41 7 5 0 0))) (Slot.mk 41 7 .status .good 0)
       ∧ (Slot.mk 41 7 .status .good 0).node ≠ s.node
       ∧ SlotPasses 0 (transit (backSlot (slotRec 40 8 5 0 0))) (Slot.mk 40 8 .status .good 0)
       ∧ 7 < (Slot.mk 40 8 .status .good 0).channel ∧ s.solv.publication = none ∧ s.board.measuredLel = none) := by
  unfold SlotPasses; decide +kernel

/-- R194: an exhaust floor beyond the two bytes, a SAFETY record behind an ADVISORY one, a bank PENDING AT_STOP beside
the ACTIVE one, and a running STORE beside a bank CHECKING. -/
theorem test_status_items :
    ([1, 2, 3].map (fun i => statusItem i publishing) = [530, 208, 25935]
      ∧ statusItem 3 { publishing with solv.publication := some { solvPub with floor := 65536 } } = 65535
      ∧ statusItem 2 { publishing with solv.publication := some { solvPub with predicted := none } } = 65535
      ∧ statusItem 4 { firing with board.measuredLel := some 230 } = 230
      ∧ statusItem 5 { onl with log.queue := [rec' .frameErrors, rec' .lineSilent, rec' .frameErrors] } = 3 * 256 + 3
      ∧ statusItem 6 (withBank 3 (.pending .atStop) job firing) = 0x0301
      ∧ statusItem 6 (withBank 3 (.pending .atSplice) job onl) = 0xF300
      ∧ statusItem 7 { onl with agent.storeRunning := true, agent.checking := some 3 } = 0x0103) := by decide +kernel

theorem test_meets_StatusSlotWritten_items :
    (let t : Transit := { transit (backSlot (slotRec 40 7 5 2 0)) with sinceOnline := false }
     t.sinceOnline = false ∧ SlotPasses 0 t (Slot.mk 40 7 .status .failed 0))
    ∧ (publishing.solv.publication = some solvPub ∧ solvPub.predicted = some 208
      ∧ ({ firing with board.measuredLel := some 230 } : State).board.measuredLel = some 230)
    ∧ (let q := [rec' .frameErrors, rec' .lineSilent]
       (∀ x ∈ q, x.code.cls.rank ≤ 3) ∧ (∃ x ∈ q, x.code.cls.rank = 3) ∧ onl.log.queue = [])
    ∧ (let s := withBank 3 (.pending .atStop) job firing
       ((s.banks.get 0).state = .active ∧ ∀ c, (s.banks.get c).state = .active → c = 0)
         ∧ ((∀ c, (s.banks.get c).state.isPending = true → c = 3) ∧ (s.banks.get 3).state = .pending .atStop)
         ∧ ((∀ b, (onl.banks.get b).state ≠ .active) ∧ ∀ b, (onl.banks.get b).state.isPending = false))
    ∧ (onl.agent.checking = none ∧ ({ onl with agent.checking := some 3 } : State).agent.checking = some 3) := by
  unfold SlotPasses; decide +kernel

/-- A BACK cycle frame: the COMMAND of SPEED_REF, another COMMAND, a SAMPLE, item 0 of the part, a COMMAND again. -/
def mixedBack : List Byte :=
  framed (cycleBody 12040 [slotRec 10 4 2 0 900, slotRec 11 2 2 0 1700, slotRec 10 0 1 0 871, slotRec 40 0 5 2 0,
    slotRec 10 4 2 0 901])

/-- R8, R24: the slots before a status slot written are captured under the map in force there, those after it under
the map at the frame's end. -/
theorem test_captured_slots :
    (let m := fun m => { onl with comm.inForce := some { plant with map := m } }
     let t := fun s => (run (.statusSlotWrite 3) (leavingBack mixedBack s)).line.backStore
     let f := fun x y => (t (m x)).map fun t => (captureTo y 96 t).map Slot.value
     f plantMap plantMap = [[900, 871, 901]] ∧ f [] plantMap = [[871, 901]] ∧ f plantMap [] = [[900, 871]]
       ∧ (t (m plantMap)).map (fun t => (t.cursor, t.captured.length)) = [(4, 2)]) := by decide +kernel

theorem test_meets_capture_clauses :
    (transit mixedBack).captured.length ≤ min 96 (transit mixedBack).cursor
    ∧ isCaptured plantMap (Slot.mk 10 4 .command .good 900) = true
    ∧ isCaptured plantMap (Slot.mk 11 2 .command .good 1700) = false ∧ isCaptured [] (Slot.mk 1 0 .hold .good 0) = true
    ∧ SlotPasses 3 (transit mixedBack) (Slot.mk 40 0 .status .failed 0) := by
  unfold SlotPasses; decide +kernel

/-! ### The units and the board -/

/-- A running schedule evaluation. -/
def schedJob : SchedJob := SchedJob.mk (some 12041) 0 job 880 ⟨some 1805, none, none, none⟩ 1 1

theorem test_meets_ScheduleCompletes :
    ({ firing with sched.job := some schedJob } : State).sched.job = some schedJob
    ∧ SoundSchedule zone2
    ∧ (zone2.head? = some ⟨100, 1400⟩ ∧ zone2.getLast? = some ⟨1000, 2210⟩ ∧ (⟨400, 1720⟩ : Breakpoint) ∈ zone2
        ∧ zone2 = [⟨100, 1400⟩] ++ ⟨400, 1720⟩ :: ⟨700, 2030⟩ :: [⟨1000, 2210⟩]) := by
  unfold SoundSchedule; decide +kernel

theorem test_meets_ScheduleCompletes_figures :
    SoundSchedule zone2 ∧ RisingValues zone2
    ∧ (zone2 = [⟨100, 1400⟩, ⟨400, 1720⟩] ++ ⟨700, 2030⟩ :: ⟨1000, 2210⟩ :: [] ∧ (700 ≤ 880 ∧ 880 ≤ 1000) ∧ 2030 ≤ 2210)
    ∧ ((2210 : Int) ≤ 2160 + (50 : Nat) ∧ (1349 : Int) + (50 : Nat) < 1400
      ∧ (1720 : Int) ≤ 1805 + (50 : Nat) ∧ (1805 : Int) + (50 : Nat) < 2030)
    ∧ SoundSchedule (sched [(0, 505), (200, 500)]) := by
  unfold SoundSchedule RisingValues; decide +kernel

/-- A running solvent evaluation. -/
def solvJob (q : Option Nat) : SolvJob :=
  SolvJob.mk 0 (some 12041) .online .running .firing 880 false 3000 1970 85 60 .monitored (some 230) ⟨25, 400, 10, 8000⟩
    q 45 40000 1

theorem test_meets_SolventCompletes :
    ({ publishing with solv.job := some (solvJob (some 28400)) } : State).solv.job = some (solvJob (some 28400))
    ∧ (solvJob (some 28400)).flow = some 28400 ∧ 0 < 28400 ∧ (solvJob none).flow = none
    ∧ (solvJob (some 0)).flow = some 0 ∧ (solvJob none).coverage ≠ 0 ∧ publishing.sched.publication = some schedPub
    ∧ (0 : Zone).val < (solvJob none).zones ∧ schedPub.ceiling.get 0 = some 530 := by decide

theorem test_meets_RecordsFollowRefresh :
    (let k := RecKey.mk .webSpeed false
     let slot := fun q => Slot.mk 10 0 .sample q 872
     let r := fun q n => Refresh.mk true (some 12040) n true [slot q] .online false false
     recordEntry onl.map k = some (at' 10 0 .webSpeed (.sample 3))
       ∧ lastSlotFor (at' 10 0 .webSpeed (.sample 3)) (r .good 1).slots = some (slot .good)
       ∧ (slot .good).quality = .good ∧ (slot .suspect).quality ≠ .good ∧ k.role ≠ .speedRef
       ∧ (RecKey.mk .speedRef true).echo = true
       ∧ (good 872).lastGood = some 872 ∧ min 255 ((good 872).age + (r .suspect 3).step) ≤ stalenessLimit onl.map k
       ∧ stalenessLimit onl.map k < min 255 ((good 872).age + (r .suspect 4).step)
       ∧ BoardRec.fresh.lastGood = none
       ∧ Role.webSpeed.lowest ≤ readWord .webSpeed 1500 ∧ readWord .webSpeed 1500 ≤ Role.webSpeed.highest
       ∧ Role.webSpeed.isBinary = false ∧ (Role.zoneFlame 0).isBinary = true) := by decide +kernel

/-- A slot of quality SUSPECT feeds no record. -/
theorem test_meets_RecordsFollowRefresh_suspect : ∀ e slot,
    recordEntry onl.map ⟨.webSpeed, false⟩ = some e →
      lastSlotFor e [Slot.mk 10 0 .sample .suspect 872] = some slot → slot.quality ≠ .good := by
  intro e slot he hs
  have : recordEntry onl.map ⟨.webSpeed, false⟩ = some (at' 10 0 .webSpeed (.sample 3)) := by decide +kernel
  rw [this] at he
  cases he
  have : lastSlotFor (at' 10 0 .webSpeed (.sample 3)) [Slot.mk 10 0 .sample .suspect 872] =
    some (Slot.mk 10 0 .sample .suspect 872) := by decide +kernel
  rw [this] at hs
  cases hs
  decide

/-! ### The laws, at states that are not the state after reset -/

/-- A part that executes a command next steps to a next state. -/
theorem steps_from (c : Instr) (s : State) :
    step { s with pending := [c] } = .next (run c { s with pending := [] }) := exec_run c _

theorem test_meets_DryerLawsKept :
    PermitLaw { firing with pending := [.silenceTimerExpiry] }
    ∧ UncommissionedLaw { firing with pending := [.silenceTimerExpiry] }
    ∧ DryerLaw { firing with pending := [.silenceTimerExpiry] } ∧ DryerLaw tripped ∧ DryerLaw purged
    ∧ step { firing with pending := [.silenceTimerExpiry] } =
        .next (run .silenceTimerExpiry { firing with pending := [] }) := by
  refine ⟨by unfold PermitLaw; decide, by unfold UncommissionedLaw; decide +kernel, ?_, ?_, ?_, steps_from _ _⟩ <;>
    (unfold DryerLaw UncommissionedLaw AnyActive; decide +kernel)

theorem test_meets_AlertLawKept :
    HeldLaw { State.reset with pending := [.storeLoadComplete] } ∧ AlertLaw { bare with pending := [.supplyLoss] }
    ∧ step { bare with pending := [.supplyLoss] } = .next (run .supplyLoss { bare with pending := [] }) := by
  refine ⟨by unfold HeldLaw; decide +kernel, ?_, steps_from _ _⟩
  refine ⟨?_, by decide +kernel, by decide +kernel⟩
  intro h
  exact absurd rfl h

/-- A request streams past while all places are held and a BUSY mark stands. -/
def busyLine : State :=
  { leavingOut (outService 40) firing with
    pending := [.requestTaking 0], agent.places := List.replicate 8 (asked 1 []), agent.marks := [9] }

theorem test_meets_LineLawsKept : PlacesLaw busyLine ∧ LineLaw busyLine ∧ StoresLaw busyLine
    ∧ step busyLine = .next (run (.requestTaking 0) { busyLine with pending := [] }) := by
  refine ⟨by unfold PlacesLaw; decide +kernel, by unfold LineLaw; decide +kernel, ⟨?_, ?_⟩,
    steps_from (.requestTaking 0) busyLine⟩
  · intro t h
    rw [List.mem_singleton.1 h]
    exact ⟨rfl, rfl, by decide⟩
  · intro t h
    exact absurd h List.not_mem_nil

/-- A part with a STORE running. -/
def storing : State := { bare with agent.storeRunning := true, comm.working := plant }

theorem test_meets_ResumeLawsKept :
    BankLaw { timedOut with pending := [.resumeTimerExpiry] } ∧ StoreLaw { storing with pending := [.storeWriteComplete] }
    ∧ ResumeLaw { timedOut with pending := [.resumeTimerExpiry] }
    ∧ step { timedOut with pending := [.resumeTimerExpiry] } =
        .next (run .resumeTimerExpiry { timedOut with pending := [] })
    ∧ step { storing with pending := [.storeWriteComplete] } =
        .next (run .storeWriteComplete { storing with pending := [] }) := by
  have b : BankLaw { timedOut with pending := [.resumeTimerExpiry] } := by unfold BankLaw; decide +kernel
  refine ⟨b, by unfold StoreLaw; decide +kernel, ⟨b, by unfold StoreLaw; decide +kernel, ?_, ?_⟩, steps_from _ _, steps_from _ _⟩
  · intro r h
    cases h
    decide +kernel
  · decide +kernel

/-- FIRING with a WEB_SPEED record alone on the board and the solvent publication standing. -/
def figured : State :=
  { firing with
    board.records := [(⟨.webSpeed, false⟩, good 1500)], solv.publication := some solvPub
    solv.eff := some ⟨15, 400, 10, 8000⟩, line.goodOut := 4294967295 }

theorem test_meets_FiguresLawsKept :
    BoardLaw { figured with pending := [.identify] } ∧ SolventLaw { figured with pending := [.identify] }
    ∧ CounterLaw { figured with pending := [.identify] } ∧ EffLaw { figured with pending := [.identify] }
    ∧ step { figured with pending := [.identify] } = .next (run .identify { figured with pending := [] }) := by
  refine ⟨?_, ⟨by decide, by decide, ?_⟩, by unfold CounterLaw; decide +kernel, ⟨.unmonitored, by decide +kernel⟩,
    steps_from _ _⟩
  · intro p hp
    rw [List.mem_singleton.1 hp]
    refine ⟨by decide, by decide, ?_, ?_, by decide, by decide⟩ <;> (intro v h; cases h; decide)
  · intro p h
    cases h
    refine ⟨by decide, ?_, by decide, by decide⟩
    intro v hv
    cases hv
    decide

theorem test_plant_in_range : CommInRange plant := by
  refine ⟨by unfold ScalarsInRange; decide, by decide, ?_⟩
  intro e he
  simp only [plant, plantMap, List.mem_cons, List.not_mem_nil, or_false] at he
  rcases he with rfl | rfl | rfl | rfl | rfl | rfl | rfl | rfl | rfl | rfl | rfl | rfl | rfl | rfl <;>
    simp [EntryInRange, SafeInRange, at', Role.isCommand, Role.isBurnerEnable, Role.lowest, Role.highest]

theorem test_plant_keeps_record_law : RecordLaw firing := by
  refine ⟨test_plant_in_range, ?_, ?_, by decide +kernel, by decide +kernel⟩ <;>
  · intro r h
    cases h
    exact ⟨test_plant_in_range, test_plant_passes_store_checks⟩

theorem test_meets_RecordLawsKept :
    RecipeLaw { firing with pending := [.store] } ∧ RecordLaw { firing with pending := [.store] }
    ∧ TableLaw { firing with pending := [.store] }
    ∧ step { firing with pending := [.store] } = .next (run .store { firing with pending := [] }) :=
  ⟨test_firing_recipes, test_plant_keeps_record_law,
    ⟨test_plant_keeps_record_law, by decide +kernel, by decide +kernel, by decide +kernel⟩, steps_from _ _⟩

/-- Both commands that change the stored record. -/
theorem test_meets_StoredRecordChanges :
    (let s := asking 11 [] onl
     exec .store s = .next (run .store s) ∧ (run .store s).comm.stored ≠ s.comm.stored)
    ∧ exec .storeWriteComplete storing = .next (run .storeWriteComplete storing)
    ∧ (run .storeWriteComplete storing).comm.stored ≠ storing.comm.stored :=
  ⟨⟨exec_run _ _, by decide +kernel⟩, exec_run _ _, by decide +kernel⟩

/-! ### What one refresh, one record or one count does, at the ends of its range -/

/-- R102, R104: what a break offers out of RUNNING and out of RESUMING. -/
theorem test_break_records :
    (let f := fun s => (breakEntry .breakIn s).log.queue.map fun r => (r.code, r.subject, r.value)
     f (webAt .running 872 firing) = [(.webBreak, .breakIn, .num 872)]
       ∧ f (webAt .resuming 872 resuming) = [(.webBreak, .breakIn, .num 872), (.secondBreak, .breakIn, .num 1)]) := by
  decide +kernel

theorem test_meets_BreaksTaken_records :
    (firing.web.state = .running ∧ firing.log.queue.length < 32)
    ∧ (resuming.web.state = .resuming ∧ resuming.web.record = some resume ∧ resuming.log.queue.length < 31) := by
  decide +kernel

/-- Both speed records LOST after a last good WEB_SPEED of 4. -/
def frozenWeb : State :=
  withRec .webSpeed { good 4 with value := none, quality := .lost } (withRec .speedRef BoardRec.fresh firing)

/-- R93: a frozen speed below crawl neither steps a web down nor lets one start; a break and a change of impression
act. -/
theorem test_frozen_speed :
    (let f := fun w v s => (react refresh1 .webSequencer (webAt w v s)).web.state
     f .running 4 frozenWeb = .running ∧ f .stopped 5 frozenWeb = .stopped ∧ f .threading 4 frozenWeb = .threading
       ∧ f .running 4 (withRec .lineBreak (good 1) frozenWeb) = .break
       ∧ f .running 4 (withRec .impression (good 0) frozenWeb) = .threading
       ∧ f .break 4 frozenWeb = .stopped ∧ f .break 5 frozenWeb = .break) := by decide +kernel

theorem test_meets_JudgedRefreshMovesWeb_frozen :
    (judged refresh1 frozenWeb = true ∧ frozenWeb.board.frozen = true ∧ frozenWeb.board.splice = false
      ∧ frozenWeb.web.returnDue = false ∧ frozenWeb.sources = [])
    ∧ (withRec .lineBreak (good 1) frozenWeb).sources.head? = some .lineBreak
    ∧ (({ frozenWeb with web.timer := some 1, web.state := .resuming } : State).web.timer = some 1
        ∧ (webAt .break 5 frozenWeb).crawl ≤ (webAt .break 5 frozenWeb).board.actual
        ∧ (webAt .break 4 frozenWeb).web.dwell ≤ refresh1.step
        ∧ (webAt .break 4 frozenWeb).board.actual < (webAt .break 4 frozenWeb).crawl
        ∧ refresh1.step < ({ webAt .break 4 frozenWeb with web.dwell := 2 } : State).web.dwell) := by decide +kernel

/-- The refresh of an ONLINE entry, and one in SYNCING. -/
def refreshEntry : Refresh := { refresh1 with entry := true }
def refreshSyncing : Refresh := { refresh1 with line := .syncing }

/-- A splice event on the board. -/
def spliced (s : State) : State := { s with board.splice := true }

/-- R112: the line return from the actual speed, with the AT_STOP changeover; R113: the splice hand-over alone. -/
theorem test_line_return :
    (let stop := withBank 1 (.pending .atStop) job firing
     let splice := spliced (withBank 1 (.pending .atSplice) job firing)
     (react refreshEntry .webSequencer (webAt .running 4 stop)).web.state = .stopped
       ∧ activeBank (react refreshEntry .webSequencer (webAt .running 4 stop)).banks = some 1
       ∧ (react refreshEntry .webSequencer (webAt .running 5 stop)).web.state = .threading
       ∧ activeBank (react refreshEntry .webSequencer (webAt .running 5 stop)).banks = some 0
       ∧ (react refreshSyncing .webSequencer splice).web.state = .running
       ∧ activeBank (react refreshSyncing .webSequencer splice).banks = some 1) := by decide +kernel

theorem test_meets_JudgedRefreshMovesWeb_return :
    (let stop := webAt .running 4 (withBank 1 (.pending .atStop) job firing)
     let splice := spliced (withBank 1 (.pending .atSplice) job firing)
     (judged refreshEntry stop = true ∧ refreshEntry.entry = true ∧ stop.board.splice = false
         ∧ stop.board.actual < stop.crawl ∧ pendingBank stop.banks = some 1
         ∧ (stop.banks.get 1).state = .pending .atStop)
       ∧ (({ firing with web.returnDue := true } : State).web.returnDue = true
         ∧ (webAt .running 5 firing).crawl ≤ (webAt .running 5 firing).board.actual
         ∧ ∀ b, (firing.banks.get b).state ≠ .pending .atStop)
       ∧ (judged refreshSyncing splice = false ∧ splice.board.splice = true ∧ pendingBank splice.banks = some 1
         ∧ (splice.banks.get 1).state = .pending .atSplice)
       ∧ (firing.board.splice = false ∧ ∀ b, (firing.banks.get b).state ≠ .pending .atSplice)) := by decide +kernel

/-- R52, R95: a web that stops below the crawl threshold hands the bank PENDING AT_STOP over, keeps a resume record of
that bank and clears the resume timer. -/
theorem test_stop_hands_over :
    (let f := fun st s => react refresh1 .webSequencer (webAt st 4 s)
     let stop := withBank 1 (.pending .atStop) job firing
     activeBank (f .running stop).banks = some 1 ∧ (f .running stop).web.state = .stopped
       ∧ activeBank (f .stopped stop).banks = some 0
       ∧ ((f .resuming resuming).web.record, (f .resuming resuming).web.timer, (f .resuming resuming).web.state) =
           (some resume, none, .stopped)) := by decide +kernel

theorem test_meets_JudgedRefreshMovesWeb_stops :
    (let s := webAt .running 4 (withBank 1 (.pending .atStop) job firing)
     let t := react refresh1 .webSequencer s
     judged refresh1 s = true ∧ s.web.returnDue = false ∧ s.board.splice = false ∧ s.web.state ≠ .stopped
       ∧ t.web.state = .stopped ∧ pendingBank s.banks = some 1 ∧ (s.banks.get 1).state = .pending .atStop)
    ∧ ((webAt .resuming 4 resuming).web.state ≠ .stopped
      ∧ (react refresh1 .webSequencer (webAt .resuming 4 resuming)).web.state = .stopped
      ∧ ∀ b, (resuming.banks.get b).state ≠ .pending .atStop) := by decide +kernel

/-- R94, R113: at a judged refresh the transition comes first, then the bank PENDING AT_SPLICE takes over. -/
theorem test_judged_splice :
    (let s := spliced (withBank 1 (.pending .atSplice) job (webAt .running 4 firing))
     let t := react refresh1 .webSequencer s
     t.web.state = .stopped ∧ activeBank t.banks = some 1 ∧ pendingBank t.banks = none
       ∧ activeBank (react refresh1 .webSequencer { s with board.splice := false }).banks = some 0) := by decide +kernel

theorem test_meets_JudgedRefreshMovesWeb_splice :
    (let s := spliced (withBank 1 (.pending .atSplice) job firing)
     let u := react refresh1 .webSequencer { s with board.splice := false }
     (judged refresh1 s = true ∧ s.board.splice = true ∧ pendingBank u.banks = some 1
       ∧ (u.banks.get 1).state = .pending .atSplice)
     ∧ ((spliced firing).board.splice = true
       ∧ ∀ b, ((react refresh1 .webSequencer firing).banks.get b).state ≠ .pending .atSplice)) := by decide +kernel

/-- FIRING at 872 m/min with BREAK_IN in LEVEL mode, active HIGH, at a level. -/
def levelWeb (l : Level) : State :=
  { webAt .running 872 firing with
    comm.inForce := some { plant with scalars := { plantScalars with pinMode := .level } }
    pins.breakIn := l }

/-- R99: a LEVEL detector held active breaks the web once and is counted once as ignored; one that is inactive at the
next judged refresh is not counted, and its return is an appearance (R101). LINE_BREAK that names a break is not
counted while it stands. -/
theorem test_level_detector :
    (let f := react refresh1 .webSequencer
     let pin := fun l s => { s with pins.breakIn := l }
     let b := f (levelWeb .high)
     (b.web.state, b.web.source, b.web.ignored, b.web.memPin) = (.break, some .breakIn, 0, true)
       ∧ ((f b).web.ignored, (f (f b)).web.ignored, (f (f (f b))).web.ignored) = (1, 1, 1)
       ∧ ((f (pin .low b)).web.ignored, (f (pin .high (f (pin .low b)))).web.ignored) = (0, 1)
       ∧ (f (f (withRec .lineBreak (good 1) firing))).web.ignored = 0
       ∧ (f (withRec .lineBreak (good 1) (levelWeb .high))).web.ignored = 1) := by decide +kernel

theorem test_meets_JudgedRefreshMovesWeb_ignored :
    (let b := react refresh1 .webSequencer (levelWeb .high)
     (judged refresh1 b = true ∧ b.web.returnDue = false ∧ b.board.splice = false ∧ b.web.state = .break
       ∧ b.pinPresent = true ∧ b.web.countDue = true)
     ∧ (judged refresh1 (levelWeb .high) = true ∧ (levelWeb .high).web.state = .running
       ∧ (levelWeb .high).web.returnDue = false ∧ (levelWeb .high).board.splice = false)) := by decide +kernel

/-- A refresh that captured one slot. -/
def refreshOf (x : Slot) : Refresh := { refresh1 with slots := [x] }

/-- R143: a GOOD HOLD slot loads the hold up to 1,000; any other refresh counts it down. -/
theorem test_hold_count :
    (let f := fun q w n => ((react (refreshOf (Slot.mk 12 2 .hold q w)) .commandTable
       { firing with cmds.entries := updateKey .exhaustSp (fun e => { e with hold := n }) firing.cmds.entries }).cmds.entry?
         .exhaustSp).map CmdEntry.hold
     f .good 1001 0 = some 1000 ∧ f .good 7 3 = some 7 ∧ f .suspect 7 3 = some 2 ∧ f .suspect 7 0 = some 0) := by
  decide +kernel

theorem test_meets_OwnerValuesHoldAndLimits_hold :
    firing.commissioned = true ∧ firing.cmds.entry? .exhaustSp = some CmdEntry.fresh
    ∧ holdEntry firing.map .exhaustSp = some (at' 12 2 .exhaustSp .hold)
    ∧ (lastSlotFor (at' 12 2 .exhaustSp .hold) (refreshOf (Slot.mk 12 2 .hold .good 1001)).slots
        = some (Slot.mk 12 2 .hold .good 1001))
    ∧ lastSlotFor (at' 12 2 .exhaustSp .hold) refresh1.slots = none
    ∧ firing.cmds.entry? (.zoneTempSp 0) = some CmdEntry.fresh ∧ holdEntry firing.map (.zoneTempSp 0) = none := by
  decide +kernel

/-- Two passages at RUNNING, 872 m/min, the combined ceiling 530 standing and an evaluation in flight. -/
theorem test_passage_records :
    (let f := fun j v s => run (.commandPassage 0)
       (leavingOut (framed (cycleBody 12040 [slotRec 10 4 2 0 v])) { publishing with solv.job := j, cmds.speedCapped := s })
     let g := fun j v s => (f j v s).log.queue.map fun r => (r.code, r.value)
     g (some (solvJob none)) 900 false = [(.lateForward, .absent), (.speedCapped, .num 872)]
       ∧ g none 900 false = [(.speedCapped, .num 872)] ∧ g none 900 true = []
       ∧ (f none 900 false).cmds.speedCapped = true ∧ (f none 872 true).cmds.speedCapped = false
       ∧ (f none 900 false).cmds.kept = [(12040, 900)]) := by decide +kernel

/-- R137, R149: a passage of an unmapped command slot that finds an evaluation running counts and offers, and the slot
leaves unaltered. -/
theorem test_unmapped_passage_late :
    (let c := framed (cycleBody 12040 [slotRec 11 9 2 0 1700])
     let f := fun j => run (.commandPassage 0) (leavingOut c { publishing with solv.job := j })
     ((f (some (solvJob none))).log.queue.map Incident.code, (f (some (solvJob none))).cmds.late, (f none).cmds.late,
       (f (some (solvJob none))).line.outStore.map fun t => (t.cursor, decide (t.forwarded = c))) =
       ([.lateForward], 1, 0, [(1, true)])) := by decide +kernel

theorem test_meets_CommandPassageForwards_speed :
    (let s := { leavingOut (framed (cycleBody 12040 [slotRec 10 4 2 0 900])) publishing with
       solv.job := some (solvJob none) }
     let p : CommandParams := ⟨.observe, none, 10, 3⟩
     entryAt s.map 10 4 .command = some (at' 10 4 .speedRef (.command .observe none 10 3))
       ∧ s.cmds.entry? .speedRef = some CmdEntry.fresh ∧ s.cmds.speedCapped = false ∧ s.solv.job.isSome = true
       ∧ (s.scalars? = some plantScalars ∧ plantScalars.speedCap = true ∧ s.solv.publication ≠ none
         ∧ s.web.state = .running ∧ resolveOwner .speedRef p CmdEntry.fresh s ≠ .safe
         ∧ (forwardValue .speedRef p CmdEntry.fresh 900 s).2.1 < readValue .speedRef 900)
       ∧ (forwardValue .speedRef p CmdEntry.fresh 872 s).2.1 = readValue .speedRef 872) := by decide +kernel

/-- The EXHAUST_SP entry with a value forwarded at cycle 12,040, so many misses and a hold, and its echo record. -/
def echoing (miss hold : Nat) (v : Int) : State :=
  { firing with
    cmds.entries := updateKey .exhaustSp
      (fun e => { e with last := some ⟨24000, 12040⟩, miss := miss, hold := hold }) firing.cmds.entries
    board.records := updateKey ⟨.exhaustSp, true⟩ (fun _ => good v) firing.board.records }

/-- R150, R151: a match within 100 clears; beyond it a miss counts, unless a hold stands; the third trips (R123). -/
theorem test_echo_judgement :
    (let f := fun m h v => react refresh1 .commandTable (echoing m h v)
     let g := fun m h v => ((f m h v).cmds.entry? .exhaustSp).map fun e => (e.miss, e.responsiveness)
     g 2 0 24100 = some (0, .responsive) ∧ g 1 0 24101 = some (2, .unchecked) ∧ g 2 1 24101 = some (3, .unresponsive)
       ∧ g 2 2 24101 = some (2, .unchecked) ∧ g 2 0 23899 = some (3, .unresponsive)
       ∧ (f 2 0 24101).dryer.state = .tripped ∧ (f 2 0 24101).dryer.exhaustUnresponsive = true
       ∧ (f 2 0 24101).log.queue.map (fun r => (r.code, r.subject, r.value)) =
           [(.exhaustUnresponsive, .role .exhaustSp, .num 24000)]) := by decide +kernel

theorem test_meets_CommandPassageForwards_echo :
    TableLaw (echoing 2 0 24101)
    ∧ ((echoing 2 0 24101).commissioned = true ∧ (echoing 2 0 24101).log.queue.length + 4 < 32
      ∧ ((echoing 2 0 24101).cmds.entry? .exhaustSp).map (fun e => (e.last, e.miss, e.responsiveness)) =
          some (some ⟨24000, 12040⟩, 2, .unchecked)
      ∧ (commandEntry (echoing 2 0 24101).map .exhaustSp).bind commandParams = some ⟨.full, none, 100, 3⟩
      ∧ echoEntry (echoing 2 0 24101).map .exhaustSp ≠ none ∧ (echoing 2 0 24101).dryer.exhaustUnresponsive = false
      ∧ (holdAfter (echoing 2 0 24101).map refresh1 .exhaustSp 0 = 0
        ∧ holdAfter (echoing 2 2 24101).map refresh1 .exhaustSp 2 = 1)
      ∧ refresh1.good = true ∧ refresh1.cycle = some 12040
      ∧ (echoing 2 0 24101).board.echo? .exhaustSp = some (good 24101)
      ∧ 100 < ((24101 : Int) - 24000).natAbs ∧ ((24100 : Int) - 24000).natAbs ≤ 100) :=
  ⟨⟨test_plant_keeps_record_law, by decide +kernel, by decide +kernel, by decide +kernel⟩, by decide +kernel⟩

/-- A cycle frame of 97 slots, one more than the part reads. -/
def longBody (n : Nat) : List Nat := cycleBody n (List.replicate 97 (slotRec 1 0 1 0 0))

/-- A frame of the announced length under a fresh trailer, without working the CRC-32 of a long one out. -/
theorem framed_good (bs : List Nat) (hc : headerComplete (framed bs) = true)
    (hl : (framed bs).length = headerLength (kindOf (framed bs)) + bodyLength (framed bs) + 4) :
    goodFrame (framed bs) = true := by
  have : (framed bs).length - 4 = (bs.map byte).length := by simp [framed, freshTrailer, be32]
  rw [goodFrame, hc, decide_eq_true hl, this]
  simp [framed]

theorem test_meets_OutFrameEnds_long :
    (let c := framed (longBody 12041)
     let p := (longBody 12041).map byte
     (leavingOut c onl).line.store .out = transit c :: [] ∧ kindOf c = .cycle ∧ longFrame c = true
       ∧ headerComplete c = true ∧ slotCount c = 97
       ∧ kindOf p = .cycle ∧ longFrame p = true ∧ goodFrame p = false
       ∧ longFrame (framed (cycleBody 12041 (List.replicate 96 (slotRec 1 0 1 0 0)))) = false)
    ∧ goodFrame (framed (longBody 12041)) = true :=
  ⟨by refine ⟨rfl, ?_⟩; decide +kernel, framed_good _ (by decide +kernel) (by decide +kernel)⟩

theorem test_meets_BackCycleFrameEnds_long :
    (let c := framed (longBody 12039)
     (leavingBack c onl).line.store .back = transit c :: [] ∧ longFrame c = true
       ∧ numbering onl.line.lastCycle (cycleNumber c) = .repeated ∧ (captureTo onl.map 96 (transit c)).length = 96)
    ∧ goodFrame (framed (longBody 12039)) = true :=
  ⟨by refine ⟨rfl, ?_⟩; decide +kernel, framed_good _ (by decide +kernel) (by decide +kernel)⟩

/-- A zone temperature record and the last forwarded setpoint of zone 1, a count, and a circuit's web temperature. -/
def watched (v n : Nat) (c : Int) : State :=
  { withRec (.zoneTemp 0) (good v) firing with
    cmds.entries := updateKey (.zoneTempSp 0) (fun e => { e with last := some ⟨2000, 12039⟩ }) firing.cmds.entries
    sched.devCount := ⟨n, 0, 0, 0⟩
    sched.shortCount := ⟨n, 0, 0⟩
    board.records := (⟨.chillWebTemp 0, false⟩, good c) :: (withRec (.zoneTemp 0) (good v) firing).board.records }

/-- R68: the band of 100 tenths and the count of 50; R69: the limit of 400 tenths and the count of 100. -/
theorem test_watches :
    (let f := fun v n c => react refresh1 .scheduleUnit (watched v n c)
     let g := fun v n c => ((f v n c).sched.devCount.n0, (f v n c).sched.deviation.n0)
     let h := fun v n c => ((f v n c).sched.shortCount.n0, (f v n c).sched.shortfall.n0)
     g 2100 49 400 = (0, false) ∧ g 2101 48 400 = (49, false) ∧ g 2101 49 400 = (50, true)
       ∧ h 2100 99 400 = (0, false) ∧ h 2100 98 401 = (99, false) ∧ h 2100 99 401 = (100, true)
       ∧ (f 2101 99 401).log.queue.map (fun r => (r.code, r.value)) = [(.zoneDeviation, .num 101), (.chillShortfall, .num 401)]
       ∧ (f 2101 99 401).sched.job.map SchedJob.cycle = some (some 12040)) := by decide +kernel

theorem test_meets_ScheduleCompletes_refresh :
    (activeBank onl.banks = none ∧ judged refreshSyncing firing = false ∧ activeBank firing.banks = some 0)
    ∧ (let s := watched 2101 49 401
       judged refresh1 s = true ∧ s.zoneCount ≤ (1 : Zone).val ∧ s.circuitCount ≤ (1 : Circuit).val
         ∧ (0 : Zone).val < s.zoneCount ∧ (0 : Circuit).val < s.circuitCount ∧ s.web.state = .running
         ∧ s.cmds.lastValue (.zoneTempSp 0) = some 2000 ∧ s.board.fresh (.zoneTemp 0) = some 2101
         ∧ (s.banks.get 0).recipe.devBand = 100 ∧ (s.banks.get 0).recipe.devConfirm = 50
         ∧ s.sched.deviation.get 0 = false ∧ s.log.queue.length ≤ 25 ∧ s.board.current (.chillWebTemp 0) = some 401
         ∧ ((s.banks.get 0).recipe.circuitProfiles.get 0).limit = 400 ∧ s.sched.shortfall.get 0 = false)
    ∧ (firing.cmds.lastValue (.zoneTempSp 0) = none ∧ firing.board.current (.chillWebTemp 0) = none
        ∧ onl.web.state ≠ .running) := by decide +kernel

/-- A solvent evaluation about to complete at a dryer of 15 % allowed load and a predicted LEL of `v` parts: the exhaust
floor is far beyond Q_cap, and the counters stand at 49. -/
def publishingHigh (q : Nat) : State :=
  { publishing with
    solv.job := some { solvJob (some q) with lel := some 1000, eff := ⟨15, 400, 10, 8000⟩ }
    solv.pendingCycles := 1, solv.mismatchCount := 49, dryer.lelPredicted := ⟨false, 49⟩
    solv.eff := some ⟨15, 400, 10, 8000⟩ }

/-- R87, R88, R90, R121, in both orders: all three onsets, and a trip. -/
theorem test_publication_conditions :
    (let f := fun b => publishSolvent b (publishingHigh 14700)
     (∀ b, ((f b).solv.publication.map SolvPub.predicted) = some (some 401))
       ∧ (∀ b, (f b).solv.limited = true ∧ (f b).solv.mismatch = true ∧ (f b).solv.histogram.b6 = 1)
       ∧ (∀ b, (f b).dryer.lelPredicted = ⟨true, 50⟩ ∧ (f b).dryer.state = .tripped)
       ∧ (f true).log.queue.map (fun r => (r.code, r.value)) =
           [(.lelPredictedHigh, .num 401), (.dryerLimited, .num 43225), (.solventMismatch, .num 599)]
       ∧ (f false).log.queue.map Incident.code = [.dryerLimited, .solventMismatch, .lelPredictedHigh]) := by
  decide +kernel

/-- R82 to R84: the record takes the least ceiling, here the thermal one of zone 1. -/
theorem test_publication_record :
    (let f := publishSolvent false { publishing with solv.job := some (solvJob (some 28400)), solv.pendingCycles := 1 }
     (f.solv.publication.map fun p => (p.rate, p.predicted, p.floor, p.solventCeiling, p.measuredCeiling, p.combined)) =
       some (265241, some 208, 25935, 1060, 956, 530)) := by decide +kernel

theorem test_meets_SolventCompletes_conditions :
    (let s := publishingHigh 14700
     let j := { solvJob (some 14700) with lel := some 1000, eff := ⟨15, 400, 10, 8000⟩ }
     (s.solv.job = some j ∧ j.qCap < 43225 ∧ s.solv.limited = false ∧ s.solv.mismatch = false
         ∧ s.log.queue.length ≤ 28 ∧ s.solv.eff = some ⟨15, 400, 10, 8000⟩ ∧ s.scalars? = some plantScalars
         ∧ plantScalars.confirm ≤ min 50 (s.dryer.lelPredicted.count + 1) ∧ s.dryer.lelPredicted.active = false)
       ∧ (j.web = .running ∧ j.mode = .monitored ∧ j.lel = some 1000)
       ∧ (∃ thermal : Zone → Nat, ∀ k, thermal k = match s.sched.publication with
           | some q => (q.ceiling.get k).getD j.thread
           | none => j.thread)) :=
  ⟨by decide +kernel, by decide +kernel, _, fun _ => rfl⟩

/-- Two analyzers GOOD, so many tenths apart. -/
def analyzers (a b : Int) : State :=
  { firing with board.records := [(⟨.lel 0, false⟩, good a), (⟨.lel 1, false⟩, good b)] }

/-- R75, R89: the start of an evaluation and ANALYZER_DISAGREE beyond 50 tenths. -/
theorem test_solvent_refresh :
    (let f := fun s => react refresh1 .solventUnit s
     (f (analyzers 150 201)).solv.disagree = true ∧ (f (analyzers 150 200)).solv.disagree = false
       ∧ (f (analyzers 150 201)).log.queue.map (fun r => (r.code, r.value)) = [(.analyzerDisagree, .num (-51))]
       ∧ ((f (analyzers 150 201)).solv.job.map fun j => (j.coverage, j.speed, j.cycle)) = some (3000, 1500, some 12040)
       ∧ (f (analyzers 150 201)).solv.pendingCycles = 1) := by decide +kernel

theorem test_meets_SolventCompletes_refresh :
    (activeBank firing.banks = some 0 ∧ firing.scalars? = some plantScalars ∧ activeBank onl.banks = none
      ∧ firing.board.fresh .liveCoverage = none
      ∧ ({ firing with board.records := [(⟨.liveCoverage, false⟩, good 3001)] } : State).board.fresh .liveCoverage
          = some 3001)
    ∧ (judged refreshSyncing firing = false ∧ judged refresh1 firing = true
      ∧ firing.board.quality (.lel 0) = .lost ∧ (analyzers 150 201).board.fresh (.lel 0) = some 150
      ∧ (analyzers 150 201).board.fresh (.lel 1) = some 201 ∧ (analyzers 150 201).board.quality (.lel 1) ≠ .lost
      ∧ ({ firing with board.records := [(⟨.lel 0, false⟩, { good 1 with quality := .held }), (⟨.lel 1, false⟩, good 1)] }
          : State).board.quality (.lel 0) = .held) := by decide +kernel

/-- A board of the records named. -/
def board' (l : List (Role × BoardRec)) : State :=
  { firing with board.records := l.map fun p => (⟨p.1, false⟩, p.2) }

/-- R34 to R38: the derived figures, from records that this refresh ages into HELD or LOST, or keeps. -/
theorem test_derived_figures :
    (let r := { refresh1 with slots := [Slot.mk 10 0 .sample .good 872, Slot.mk 12 1 .sample .good 230] }
     let f := fun l => (takeSamples r (board' l)).board
     let lost := { good 5 with value := none, quality := .lost, age := 200 }
     (f [(.webSpeed, lost), (.speedRef, good 900)]).actual = 872 ∧ (f [(.webSpeed, lost), (.speedRef, good 900)]).lead = 900
       ∧ (f [(.lel 0, lost)]).measuredLel = some 230 ∧ (f [(.lel 0, lost)]).mode = .monitored
       ∧ (f [(.speedRef, lost)]).actual = 0 ∧ (f [(.speedRef, lost)]).mode = .unmonitored) := by decide +kernel

/-- R34, R36: SPEED_LOST and LEL_UNMONITORED arise together, once. -/
theorem test_board_conditions :
    (let s := { frozenWeb with board.actual := 4 }
     let t := react refresh1 .sampleBoard s
     t.board.speedLost = true ∧ t.board.lelUnmonitored = true
       ∧ t.log.queue.map (fun r => (r.code, r.value)) = [(.speedLost, .num 4), (.lelUnmonitored, .absent)]
       ∧ (react refresh1 .sampleBoard t).log.queue.length = 2
       ∧ (react refresh1 .sampleBoard (withRec .webSpeed (good 4) t)).board.speedLost = false) := by decide +kernel

theorem test_meets_RecordsFollowRefresh_figures :
    (let t := fun l => takeSamples refresh1 (board' l)
     let lost := { good 5 with value := none, quality := .lost, age := 200 }
     ((t [(.webSpeed, good 4), (.speedRef, good 9)]).board.current .webSpeed = some 4
         ∧ (t [(.webSpeed, good 4), (.speedRef, good 9)]).board.current .speedRef = some 9)
       ∧ ((t [(.webSpeed, lost)]).board.current .webSpeed = none ∧ (t [(.webSpeed, lost)]).board.current .speedRef = none)
       ∧ ((t [(.lel 0, good 4), (.lel 1, good 9)]).board.current (.lel 0) = some 4
         ∧ (t [(.lel 0, good 4)]).board.current (.lel 1) = none)
       ∧ (judged refreshSyncing firing = false ∧ judged refresh1 frozenWeb = true
         ∧ frozenWeb.scalars? = some plantScalars ∧ frozenWeb.log.queue.length ≤ 30
         ∧ frozenWeb.board.speedLost = false ∧ frozenWeb.board.lelUnmonitored = false)
       ∧ (recordEntry firing.map ⟨.speedRef, false⟩ = some (at' 10 4 .speedRef (.command .observe none 10 3))
         ∧ lookupKey 12040 ({ firing with cmds.kept := [(12040, 900)] } : State).cmds.kept = some 900
         ∧ lookupKey 12040 firing.cmds.kept = none)) := by decide +kernel

/-- R29, R30: a sample beyond its role's range counts one clamp, one in it none; the SPEED_REF value kept for a refresh's
cycle number goes where the pass carried no slot of it, and stays otherwise. -/
theorem test_clamp_and_kept :
    (let s := { firing with cmds.kept := [(12040, 900), (12039, 899)] }
     let f := fun l => takeSamples { refresh1 with slots := l } s
     let ref := Slot.mk 10 4 .command .good 900
     (f [Slot.mk 10 0 .sample .good 1501]).board.clamped = 1 ∧ (f [Slot.mk 10 0 .sample .good 1500]).board.clamped = 0
       ∧ (f [Slot.mk 10 0 .sample .suspect 1501]).board.clamped = 0
       ∧ (f []).cmds.kept = [(12039, 899)] ∧ (f [ref]).cmds.kept = s.cmds.kept) := by decide +kernel

theorem test_meets_RecordsFollowRefresh_kept :
    (let e := at' 10 4 .speedRef (.command .observe none 10 3)
     recordEntry firing.map ⟨.speedRef, false⟩ = some e ∧ lastSlotFor e refresh1.slots = none
       ∧ refresh1.cycle = some 12040
       ∧ lastSlotFor e [Slot.mk 10 4 .command .good 900] = some (Slot.mk 10 4 .command .good 900))
    ∧ ∃ f : RecKey → Bool, ∀ k, f k = true ↔ ∃ e slot w, recordEntry firing.map k = some e
        ∧ lastSlotFor e refresh1.slots = some slot ∧ slot.quality = .good
        ∧ w = (if k.role = .speedRef ∧ k.echo = false then
            (refresh1.cycle.bind fun c => lookupKey c firing.cmds.kept).getD slot.value else slot.value)
        ∧ k.role.isBinary = false ∧ (readWord k.role w < k.role.lowest ∨ k.role.highest < readWord k.role w) := by
  refine ⟨by decide +kernel, fun _ => false, fun k => ⟨fun h => by simp at h, ?_⟩⟩
  rintro ⟨e, slot, w, -, h, -⟩
  simp [lastSlotFor, refresh1] at h

/-- FIRING with flame and exhaust records, the effective parameters in force. -/
def burning (flame flow : Option Int) (d : DryerState) : State :=
  { firing with
    board.records :=
      (match flame with | some v => [(⟨.zoneFlame 0, false⟩, good v)] | none => [])
        ++ (match flow with | some v => [(⟨.exhaustFlow, false⟩, good v)] | none => [])
    solv.eff := some ⟨15, 400, 10, 8000⟩, dryer.state := d, dryer.permit := d.burning }

/-- R122, R124: the confirm counters of 3 line cycles, the flow lost, and a flame without its enable. -/
theorem test_dryer_conditions :
    (let f := fun s => (react refresh1 .dryerSafety s).dryer
     let low := fun n => { burning (some 0) (some 7999) .firing with dryer.exhaustLow := ⟨false, n⟩ }
     let flame := fun n => { burning (some 1) (some 9000) .unpurged with dryer.flame := ⟨⟨false, n⟩, Cond.clear, Cond.clear, Cond.clear⟩ }
     ((f (low 1)).exhaustLow = ⟨false, 2⟩ ∧ (f (low 2)).exhaustLow = ⟨true, 3⟩ ∧ (f (low 2)).state = .tripped)
       ∧ ((f (burning (some 0) none .firing)).exhaustLow = ⟨true, 0⟩ ∧ (f (burning (some 0) none .firing)).state = .tripped)
       ∧ ((f (burning (some 0) (some 8000) .firing)).state = .purged)
       ∧ ((f (flame 1)).flame.n0 = ⟨false, 2⟩ ∧ (f (flame 2)).flame.n0 = ⟨true, 3⟩ ∧ (f (flame 2)).state = .tripped)) := by
  decide +kernel

/-- R129, R132: a purge thrown back, paused and counted; flames between PURGED and FIRING. -/
theorem test_purge_and_flames :
    (let f := fun r s => (react r .dryerSafety s).dryer
     let g := fun r s => ((f r s).state, (f r s).accumulator, (f r s).remainder)
     let p := fun flame flow => { burning flame flow .purging with dryer.accumulator := 77, dryer.remainder := 400 }
     g refresh1 (p (some 0) (some 20000)) = (.purging, 132, 2400)
       ∧ g { refresh1 with regular := false } (p (some 0) (some 20000)) = (.purging, 77, 400)
       ∧ g refresh1 (p none (some 20000)) = (.purging, 77, 400) ∧ g refresh1 (p (some 0) none) = (.purging, 0, 0)
       ∧ g refresh1 (p (some 1) (some 20000)) = (.purging, 0, 0) ∧ g refresh1 (p (some 0) (some 0)) = (.purging, 0, 0)
       ∧ (f refresh1 (burning (some 0) (some 9000) .purged)).state = .purged
       ∧ (f refresh1 (burning none (some 9000) .firing)).state = .firing) := by decide +kernel

theorem test_meets_MeasuredLelTrips_reaction :
    (let s := burning (some 1) (some 7999) .firing
     s.scalars? = some plantScalars ∧ s.solv.eff = some ⟨15, 400, 10, 8000⟩ ∧ (0 : Zone) ∈ s.flameZones
       ∧ (1 : Zone) ∉ s.flameZones ∧ s.board.current .exhaustFlow = some 7999 ∧ s.board.fresh (.zoneFlame 0) = some 1
       ∧ commandEntry s.map (.zoneBurnerEn 0) ≠ none ∧ s.cmds.lastValue (.zoneBurnerEn 0) ≠ some 1
       ∧ plantScalars.confirm = 3 ∧ min 50 (s.dryer.exhaustLow.count + 3) = 3
       ∧ (react refresh1 .dryerSafety s).dryer.state ≠ .tripped)
    ∧ ((burning none none .purging).board.fresh (.zoneFlame 0) = none
        ∧ (burning none none .purging).board.current .exhaustFlow = none
        ∧ (react refresh1 .dryerSafety (burning none none .purging)).dryer.state ≠ .tripped)
    ∧ ((burning (some 0) (some 20000) .purging).board.fresh .exhaustFlow = some 20000
        ∧ plantScalars.volume * plantScalars.changes * 1000 = 40000)
    ∧ (react refresh1 .dryerSafety (burning none (some 7999) .unpurged)).dryer.state = .unpurged := by decide +kernel

/-! ### A refresh whose reactions come in any order -/

/-- A good BACK cycle frame of step `n` with no more than 96 slots: one refresh, its reactions in some order. -/
theorem good_cycle_end (k us n : Nat) (s : State) (t : Transit) (hb : s.line.state ≠ .bypass)
    (hs : s.line.backStore = [t]) (hk : kindOf t.arrived = .cycle) (hg : goodFrame t.arrived = true)
    (hl : longFrame t.arrived = false) (hn : numbering s.line.lastCycle (cycleNumber t.arrived) = .step n) :
    ∃ order, frameEnd k .back us s =
      (let e := { elapse us s with line := countFrame .back t (releasePlace .back t s.line) }
       let v := { e with line := goodBackLine (cycleNumber t.arrived) n e.line }
       let r := goodRefresh t n false e v
       reactAll r (arrange reactions order)
         (takeSamples r (measureInterval r.regular r.cycle (takeChoice (startSilence v))))) := by
  refine ⟨k / 2, ?_⟩
  have h1 : frameEnd k .back us s =
      backCycleEnd k t { elapse us s with line := releasePlace .back t s.line } := by
    simp [frameEnd, hb, hs, LineIf.store, endOf, hk]
  have h2 : (releasePlace .back t s.line).lastCycle = s.line.lastCycle := rfl
  simp only [h1, backCycleEnd, hg, if_true, h2, hn, goodCycleEnd, takeRefresh]
  have he : hasErrors t = false := by simp [hasErrors, hg, hl]
  split <;> simp [boardRefresh, react, goodRefresh, he]

theorem run_frameEnd (d : Dir) (us : Nat) (s : State) :
    run (.frameEnd d us) s = frameEnd (Config.reactionOrder s.choices) d us s := rfl

theorem react_measured (r : Refresh) (s : State) (x : Reaction) :
    (react r x s).board.measuredLel = s.board.measuredLel := by
  cases x <;> simp only [react]
  case sampleBoard =>
    unfold boardReaction judgeUnmonitored judgeSpeedLost
    repeat' split
    all_goals simp
  case lineInterface => split <;> simp
  all_goals simp

theorem reactAll_measured (r : Refresh) (l : List Reaction) (s : State) :
    (reactAll r l s).board.measuredLel = s.board.measuredLel :=
  foldl_keeps (fun t x => react r x t) (fun s => s.board.measuredLel) (fun s x => react_measured r s x) _ _

/-- FIRING, a measured LEL of 400 about to be HELD, the trip level 400. -/
def lelHigh : State :=
  { firing with
    board.records := [(⟨.lel 0, false⟩, good 400)], solv.eff := some ⟨15, 400, 10, 8000⟩
    line.backStore := [transit (backCycle 12040)] }

theorem test_meets_MeasuredLelTrips :
    DryerLaw lelHigh ∧ PermitLaw lelHigh ∧ EffLaw lelHigh ∧ Leaving .back (transit (backCycle 12040)) lelHigh
    ∧ kindOf (backCycle 12040) = .cycle
    ∧ numbering lelHigh.line.lastCycle (cycleNumber (backCycle 12040)) ≠ .repeated
    ∧ exec (.frameEnd .back 10000) lelHigh = .next (run (.frameEnd .back 10000) lelHigh)
    ∧ lelHigh.scalars? = some plantScalars
    ∧ (run (.frameEnd .back 10000) lelHigh).board.measuredLel = some 400 ∧ plantScalars.trip ≤ 400
    ∧ (Overrides.absent.trip = none ∧ ({ Overrides.absent with trip := some 350 } : Overrides).trip = some 350) := by
  refine ⟨by unfold DryerLaw UncommissionedLaw AnyActive; decide +kernel, by unfold PermitLaw; decide,
    ⟨.unmonitored, by decide +kernel⟩, ⟨by decide, [], rfl⟩, by decide +kernel, by decide +kernel, exec_run _ _,
    by decide +kernel, ?_, by decide, by decide⟩
  obtain ⟨o, h⟩ := good_cycle_end (Config.reactionOrder lelHigh.choices) 10000 1 lelHigh (transit (backCycle 12040))
    (by decide) rfl (by decide +kernel) (by decide +kernel) (by decide +kernel) (by decide +kernel)
  rw [run_frameEnd, h]
  refine (reactAll_measured _ _ _).trans ?_
  decide +kernel

/-- PURGING 39,960 litres of 40,000, the exhaust GOOD at 20,000, no flame mapped. -/
def nearlyPurged : State :=
  { onl with
    comm.inForce := some { plant with map := plantMap.filter fun e => decide (e.role = .exhaustFlow) && e.isSample }
    cmds.entries := [], line.lastRefreshAt := some 0
    board.records := [(⟨.exhaustFlow, false⟩, good 20000)]
    dryer.state := .purging, dryer.accumulator := 39960
    line.backStore := [transit (backSlot (slotRec 12 0 1 0 20000))] }

/-- What the refresh that ends the purge leaves alone, and how far it has come. -/
def Purging (c : CommStore) (records : List (RecKey × BoardRec)) (s : State) : Prop :=
  s.comm = c ∧ s.board.records = records ∧ s.board.measuredLel = none ∧ s.cmds.entries = []
    ∧ ((s.dryer.state = .purging ∧ s.dryer.accumulator = 39960 ∧ s.dryer.remainder = 0)
      ∨ (s.dryer.state = .purged ∧ s.dryer.permit = true))

/-- The board as it stands at that refresh. -/
def purgeRecords : List (RecKey × BoardRec) := [(⟨.exhaustFlow, false⟩, good 20000)]

theorem react_records (r : Refresh) (s : State) (x : Reaction) : (react r x s).board.records = s.board.records := by
  cases x <;> simp only [react]
  case sampleBoard =>
    unfold boardReaction judgeUnmonitored judgeSpeedLost
    repeat' split
    all_goals simp
  case lineInterface => split <;> simp
  all_goals simp

/-- With no command entries only the Dryer Safety Unit moves itself. -/
theorem react_entries (r : Refresh) (s : State) (x : Reaction) (h : s.cmds.entries = []) (hx : x ≠ .dryerSafety) :
    (react r x s).cmds.entries = [] ∧ (react r x s).dryer = s.dryer := by
  cases x <;> simp only [react]
  case commandTable =>
    unfold commandReaction judgeEchoes loadHolds
    repeat' split
    all_goals simp [h]
  case dryerSafety => exact absurd rfl hx
  case lineInterface => split <;> simp [h]
  all_goals simp [h]

/-- No flame is mapped under that record. -/
theorem no_flames (v : State) (h : v.comm = nearlyPurged.comm) : v.flameZones = [] := by
  have e : v.flameZones = nearlyPurged.flameZones := by
    unfold State.flameZones State.zones State.zoneCount State.scalars? State.map
    rw [h]
  rw [e]
  decide +kernel

/-- Before the purge is counted the unit moves only conditions that do not bear on it. -/
theorem conditions_move (r : Refresh) (s : State) (h : Purging nearlyPurged.comm purgeRecords s) :
    ∃ a b c d, refreshConditions r (clearPredicted (clearLineSilent r s)) =
      { s with dryer := { s.dryer with lelMeasured := a, lelPredicted := b, exhaustLow := c, lineSilent := d } } := by
  obtain ⟨hc, hb, hm, he, hd⟩ := h
  have hz : ∀ u : State, u.comm = s.comm → u.flameZones = [] := fun u hu => no_flames u (hu.trans hc)
  have hf : s.dryer.state ≠ .firing := by rcases hd with ⟨h, -⟩ | ⟨h, -⟩ <;> rw [h] <;> decide
  obtain ⟨l, hl⟩ : ∃ l, clearLineSilent r s = { s with dryer.lineSilent := l } := by
    unfold clearLineSilent; split
    · exact ⟨_, rfl⟩
    · exact ⟨s.dryer.lineSilent, rfl⟩
  obtain ⟨b, hp⟩ : ∃ b, clearPredicted { s with dryer.lineSilent := l } =
      { s with dryer.lineSilent := l, dryer.lelPredicted := b } := by
    unfold clearPredicted; split
    · exact ⟨_, rfl⟩
    · exact ⟨s.dryer.lelPredicted, rfl⟩
  obtain ⟨a, hj⟩ : ∃ a, judgeLelMeasured { s with dryer.lineSilent := l, dryer.lelPredicted := b } =
      { s with dryer.lineSilent := l, dryer.lelPredicted := b, dryer.lelMeasured := a } := by
    unfold judgeLelMeasured
    simp only [hm]
    cases s.solv.eff with
    | none => exact ⟨s.dryer.lelMeasured, rfl⟩
    | some e => exact ⟨false, rfl⟩
  refine ⟨a, b, Cond.clear, l, ?_⟩
  rw [hl, hp]
  unfold refreshConditions
  rw [hj, hz _ (by simp)]
  simp [judgeExhaustLow, hf]

theorem dryer_purges (r : Refresh) (s : State) (hr : r.regular = true) (h : Purging nearlyPurged.comm purgeRecords s) :
    (react r .dryerSafety s).dryer.state = .purged ∧ (react r .dryerSafety s).dryer.permit = true
      ∧ (react r .dryerSafety s).cmds.entries = [] := by
  obtain ⟨a, b, c, d, hcond⟩ := conditions_move r s h
  obtain ⟨hc, hb, hm, he, hd⟩ := h
  have hk : s.commissioned = true := by
    have : nearlyPurged.commissioned = true := by decide +kernel
    rw [← this]
    simp [State.commissioned, hc]
  simp only [react, dryerReaction, hk, if_true, hcond]
  generalize hu : ({ s with dryer := { s.dryer with lelMeasured := a, lelPredicted := b, exhaustLow := c, lineSilent := d } } : State) = u
  have uc : u.comm = nearlyPurged.comm := by rw [← hu]; exact hc
  have ub : u.board.records = purgeRecords := by rw [← hu]; exact hb
  have ue : u.cmds.entries = [] := by rw [← hu]; exact he
  have ud : (u.dryer.state = .purging ∧ u.dryer.accumulator = 39960 ∧ u.dryer.remainder = 0)
      ∨ (u.dryer.state = .purged ∧ u.dryer.permit = true) := by rw [← hu]; exact hd
  have hz : ∀ v : State, v.comm = u.comm → v.flameZones = [] := fun v hv => no_flames v (hv.trans uc)
  have hs : u.scalars? = some plantScalars := by
    have : nearlyPurged.scalars? = some plantScalars := by decide +kernel
    rw [← this]
    simp [State.scalars?, uc]
  have hflow : u.flow = some 20000 := by
    simp [State.flow, Board.current, Board.rec?, ub, purgeRecords, lookupKey, good, natOf]
  have hqual : u.board.quality .exhaustFlow = .good := by
    simp [Board.quality, Board.rec?, ub, purgeRecords, lookupKey, good]
  have change : ∀ v : State, v.comm = u.comm → v.dryer.state = .purged → judgeFlameChange v = v := by
    intro v hv hp
    simp [judgeFlameChange, hp, hz v hv]
  rcases ud with ⟨h1, h2, h3⟩ | ⟨h1, h2⟩
  · have hcase : purgeCase plantScalars r u = .count 20000 := by
      simp [purgeCase, hz u rfl, anyFlame, hflow, hqual, hr, allFlamesOut, plantScalars, Scalars.uncommissioned]
    have hp : purgeStep r u = purgeDone plantScalars { u with dryer := creditPurge plantScalars 20000 u.dryer } := by
      unfold purgeStep judgePurge
      rw [if_pos h1]
      simp only [hs, hcase]
      rw [if_pos]
      simp [creditPurge, purgeSum, requiredVolume, h2, h3, plantScalars, Scalars.uncommissioned]
    rw [hp, change _ (by simp) (by simp [purgeDone])]
    refine ⟨by simp [purgeDone], by simp [purgeDone, DryerState.burning], ?_⟩
    simp [purgeDone, ue]
  · have hp : purgeStep r u = u := by simp [purgeStep, h1]
    rw [hp, change u rfl h1]
    exact ⟨h1, h2, ue⟩

theorem purging_react (r : Refresh) (hr : r.regular = true) (s : State) (x : Reaction)
    (h : Purging nearlyPurged.comm purgeRecords s) : Purging nearlyPurged.comm purgeRecords (react r x s) := by
  refine ⟨by simp [h.1], (react_records r s x).trans h.2.1, (react_measured r s x).trans h.2.2.1, ?_⟩
  by_cases hx : x = .dryerSafety
  · subst hx
    have := dryer_purges r s hr h
    exact ⟨this.2.2, .inr ⟨this.1, this.2.1⟩⟩
  · have := react_entries r s x h.2.2.2.1 hx
    exact ⟨this.1, by rw [this.2]; exact h.2.2.2.2⟩

/-- Once PURGED, PERMIT stays high whatever reactions follow. -/
theorem purged_stays (r : Refresh) (hr : r.regular = true) (l : List Reaction) (s : State)
    (h : Purging nearlyPurged.comm purgeRecords s) (hp : s.dryer.state = .purged ∧ s.dryer.permit = true) :
    (reactAll r l s).dryer.permit = true := by
  induction l generalizing s with
  | nil => exact hp.2
  | cons x l ih =>
    refine ih (react r x s) (purging_react r hr s x h) ?_
    by_cases hx : x = .dryerSafety
    · subst hx
      have := dryer_purges r s hr h
      exact ⟨this.1, this.2.1⟩
    · rw [(react_entries r s x h.2.2.2.1 hx).2]
      exact hp

/-- Every order that holds the Dryer Safety Unit's reaction ends the purge. -/
theorem purge_ends (r : Refresh) (hr : r.regular = true) (l : List Reaction) (s : State) (hl : Reaction.dryerSafety ∈ l)
    (h : Purging nearlyPurged.comm purgeRecords s) : (reactAll r l s).dryer.permit = true := by
  induction l generalizing s with
  | nil => cases hl
  | cons x l ih =>
    by_cases hx : x = .dryerSafety
    · subst hx
      have := dryer_purges r s hr h
      exact purged_stays r hr l _ (purging_react r hr s _ h) ⟨this.1, this.2.1⟩
    · rcases List.mem_cons.1 hl with h' | h'
      · exact absurd h'.symm hx
      · exact ih _ h' (purging_react r hr s x h)

theorem test_meets_PermitRisesAtPurge :
    PermitLaw nearlyPurged ∧ exec (.frameEnd .back 10000) nearlyPurged = .next (run (.frameEnd .back 10000) nearlyPurged)
    ∧ nearlyPurged.dryer.permit = false ∧ (run (.frameEnd .back 10000) nearlyPurged).dryer.permit = true := by
  refine ⟨by unfold PermitLaw; decide, exec_run _ _, by decide, ?_⟩
  obtain ⟨o, h⟩ := good_cycle_end (Config.reactionOrder nearlyPurged.choices) 10000 1 nearlyPurged
    (transit (backSlot (slotRec 12 0 1 0 20000)))
    (by decide) rfl (by decide +kernel) (by decide +kernel) (by decide +kernel) (by decide +kernel)
  rw [run_frameEnd, h]
  refine purge_ends _ ?_ _ _ ((arrange_perm _ _).mem_iff.2 ?_) ?_
  · decide +kernel
  · decide
  · unfold Purging
    decide +kernel

end Sys2Proof.Tests
end

section
/-! PROOF. The search for the PENDING bank, its return to SEALED, and CANCEL_ACTIVATION (R54). -/

namespace Sys2Proof.Machine

variable {q : Four Bank} {b : BankNo} {p : Place} {s : State}

/-! ## The search for the PENDING bank (R42) -/

/-- The search finds the bank that alone is PENDING. -/
theorem pendingBank_eq_some_of_unique (hb : (q.get b).state.isPending = true)
    (huniq : ∀ c, (q.get c).state.isPending = true → c = b) : pendingBank q = some b := by
  obtain ⟨c, hc⟩ := Option.isSome_iff_exists.1 (pendingBank_isSome hb)
  rw [hc, huniq c (pendingBank_spec hc)]

/-- The search finds nothing when no bank is PENDING. -/
theorem pendingBank_eq_none (h : ∀ c, (q.get c).state.isPending = false) : pendingBank q = none := by
  simp [pendingBank, h]

/-! ## The PENDING bank returns to SEALED (R50 step 2, R54) -/

theorem unqueue_of_some (h : pendingBank q = some b) : unqueue q = setBankState q b .sealed := by
  simp [unqueue, h]

theorem unqueue_of_none (h : pendingBank q = none) : unqueue q = q := by
  simp [unqueue, h]

/-! ## CANCEL_ACTIVATION (R54) -/

theorem cancelActivation_of_some (h : pendingBank s.banks = some b) :
    cancelActivation p s = ({ s with banks := unqueue s.banks }, plain .done) := by
  simp [cancelActivation, h]

theorem cancelActivation_of_none (h : pendingBank s.banks = none) :
    cancelActivation p s = refuse .state s := by
  simp [cancelActivation, h]

/-- An executing CANCEL_ACTIVATION leaves its body's state with the reply in its place (R169). -/
theorem exec_cancelActivation_of_executes (h : Executes 10 0 p s) :
    exec .cancelActivation s = .next (reply (cancelActivation p s).2 (cancelActivation p s).1) :=
  congrArg Host.Outcome.next (h.needing_eq cancelActivation)

/-- Settles O17: the search decides between the two cases, and the only PENDING bank is the one it finds. -/
theorem cancelActivationExecutes : Obligations.CancelActivationExecutes := by
  unfold Obligations.CancelActivationExecutes
  intro p s hexec
  rw [exec_cancelActivation_of_executes hexec]
  refine ⟨fun b hb huniq => ?_, fun hnone => ?_⟩
  · have hfound : pendingBank s.banks = some b := pendingBank_eq_some_of_unique hb huniq
    rw [cancelActivation_of_some hfound, unqueue_of_some hfound]
    exact ⟨rfl, rfl⟩
  · have hfound : pendingBank s.banks = none := pendingBank_eq_none hnone
    rw [cancelActivation_of_none hfound, refuse_eq]
    exact ⟨rfl, unqueue_of_none hfound⟩

end Sys2Proof.Machine
end

section
/-! PROOF. The table of the SEQUENCE owner (R140), cell by cell. -/

namespace Sys2Proof.Machine

variable {s : State} {c b t : Int} {k : Zone} {j : Circuit} {last : Option Int} {r : ResumeRecord}

/-! ## The dryer column's condition -/

theorem DryerState.unready_iff {d : DryerState} : d.unready = true ↔ d = .unpurged ∨ d = .purging := by
  cases d <;> simp [DryerState.unready]

theorem DryerState.unready_eq_false {d : DryerState} (hu : d ≠ .unpurged) (hp : d ≠ .purging) :
    d.unready = false := by
  simp [← Bool.not_eq_true, unready_iff, hu, hp]

/-! ## The terms, with the controller's value where one cannot be had -/

theorem activeRecipe_getD (f : Recipe → Int) (c : Int) (s : State) :
    (s.activeRecipe.map f).getD c = bankTerm f c s := by
  unfold State.activeRecipe bankTerm
  cases activeBank s.banks <;> rfl

theorem zoneProfile_getD (f : ZoneProfile → Int) (k : Zone) (c : Int) (s : State) :
    ((s.zoneProfile k).map f).getD c = bankTerm (fun x => f (x.zoneProfiles.get k)) c s := by
  rw [State.zoneProfile, Option.map_map, activeRecipe_getD]
  rfl

theorem standby_getD (j : Circuit) (c : Int) (s : State) :
    (s.standby j).getD c = bankTerm (fun x => (x.circuitProfiles.get j).standby) c s :=
  activeRecipe_getD _ c s

/-- A role whose scheduled value in any publication is `f` of it has the schedule term of `f`. -/
theorem scheduleValue_getD {role : Role} {f : SchedPub → Option Int} (c : Int)
    (hstands : ∀ q, s.sched.publication = some q → scheduleValue role s = f q) :
    (scheduleValue role s).getD c = scheduleTerm f c s := by
  unfold scheduleTerm
  cases hq : s.sched.publication with
  | none => simp [scheduleValue, hq]
  | some q => rw [hstands q hq]

theorem scheduleValue_zoneTemp_getD (k : Zone) (c : Int) (s : State) :
    (scheduleValue (.zoneTempSp k) s).getD c = scheduleTerm (fun q => q.zoneTemp.get k) c s :=
  scheduleValue_getD c fun q hq => by simp [scheduleValue, hq]

theorem scheduleValue_zoneFan_getD (k : Zone) (c : Int) (s : State) :
    (scheduleValue (.zoneFanSp k) s).getD c = scheduleTerm (fun q => q.zoneFan.get k) c s :=
  scheduleValue_getD c fun q hq => by simp [scheduleValue, hq]

theorem scheduleValue_exhaust_getD (c : Int) (s : State) :
    (scheduleValue .exhaustSp s).getD c = scheduleTerm (fun q => some (min q.exhaust s.qCap)) c s :=
  scheduleValue_getD c fun q hq => by simp [scheduleValue, hq]

theorem scheduleValue_chill_getD (j : Circuit) (c : Int) (s : State) :
    (scheduleValue (.chillWaterSp j) s).getD c = scheduleTerm (fun q => q.chill.get j) c s :=
  scheduleValue_getD c fun q hq => by simp [scheduleValue, hq]

/-! ## Dryer UNPURGED or PURGING: the column that applies whatever the web state -/

section Unready
variable (hd : s.dryer.state.unready = true)
include hd

theorem sequenceTemp_unready : sequenceTemp k c s = c := if_pos hd

theorem sequenceFan_unready : sequenceFan k c s = 1000 := if_pos hd

theorem sequenceBurner_unready : sequenceBurner c s = 0 := if_pos hd

theorem sequenceExhaust_unready : sequenceExhaust c s = (s.qCap : Int) := if_pos hd

theorem sequenceChill_unready : sequenceChill j c last s = c := if_pos hd

end Unready

/-! ## The web columns -/

section WebColumns
variable (hd : s.dryer.state.unready = false)
include hd

/-! ### BREAK -/

theorem sequenceTemp_break (hw : s.web.state = .break) :
    sequenceTemp k c s = bankTerm (fun x => (x.zoneProfiles.get k).breakTemp) c s := by
  simp [sequenceTemp, hd, hw, zoneProfile_getD]

theorem sequenceFan_break (hw : s.web.state = .break) :
    sequenceFan k c s = bankTerm (fun x => (x.zoneProfiles.get k).breakFan) c s := by
  simp [sequenceFan, hd, hw, zoneProfile_getD]

theorem sequenceBurner_break (hw : s.web.state = .break) : sequenceBurner c s = 1 := by
  simp [sequenceBurner, hd, hw]

theorem sequenceExhaust_break_of_some (hw : s.web.state = .break) (hb : s.web.exhaustAtBreak = some b) :
    sequenceExhaust c s = max b (scheduleTerm (fun q => some (min q.exhaust s.qCap)) c s) := by
  simp [sequenceExhaust, hd, hw, hb, scheduleValue_exhaust_getD]

theorem sequenceExhaust_break_of_none (hw : s.web.state = .break) (hb : s.web.exhaustAtBreak = none) :
    sequenceExhaust c s = scheduleTerm (fun q => some (min q.exhaust s.qCap)) c s := by
  simp [sequenceExhaust, hd, hw, hb, scheduleValue_exhaust_getD]

theorem sequenceChill_break (hw : s.web.state = .break) : sequenceChill j c last s = last.getD c := by
  simp [sequenceChill, hd, hw]

/-! ### RESUMING -/

theorem sequenceTemp_resuming_of_setpoint (hw : s.web.state = .resuming) (hr : s.web.record = some r)
    (ht : r.temps.get k = some t) :
    sequenceTemp k c s = max (scheduleTerm (fun q => q.zoneTemp.get k) c s) t := by
  simp [sequenceTemp, hd, hw, hr, ht, scheduleValue_zoneTemp_getD]

/-- The schedule stands alone when the record, or its setpoint of the zone, is absent. -/
theorem sequenceTemp_resuming_of_no_setpoint (hw : s.web.state = .resuming)
    (hnone : ∀ r, s.web.record = some r → r.temps.get k = none) :
    sequenceTemp k c s = scheduleTerm (fun q => q.zoneTemp.get k) c s := by
  cases hr : s.web.record with
  | none => simp [sequenceTemp, hd, hw, hr, scheduleValue_zoneTemp_getD]
  | some r => simp [sequenceTemp, hd, hw, hr, hnone r hr, scheduleValue_zoneTemp_getD]

theorem sequenceBurner_resuming (hw : s.web.state = .resuming) : sequenceBurner c s = 1 := by
  simp [sequenceBurner, hd, hw]

/-! ### STOPPED, preheat on and off -/

theorem sequenceTemp_stopped (hw : s.web.state = .stopped) :
    sequenceTemp k c s = bankTerm (fun x =>
      if s.web.preheat then (x.zoneProfiles.get k).preheatTemp else (x.zoneProfiles.get k).breakTemp) c s := by
  cases hp : s.web.preheat <;> simp [sequenceTemp, hd, hw, hp, zoneProfile_getD]

theorem sequenceFan_stopped (hw : s.web.state = .stopped) :
    sequenceFan k c s = bankTerm (fun x =>
      if s.web.preheat then (x.zoneProfiles.get k).preheatFan else (x.zoneProfiles.get k).breakFan) c s := by
  cases hp : s.web.preheat <;> simp [sequenceFan, hd, hw, hp, zoneProfile_getD]

theorem sequenceBurner_stopped (hw : s.web.state = .stopped) :
    sequenceBurner c s = if s.web.preheat then 1 else 0 := by
  simp [sequenceBurner, hd, hw]

theorem sequenceChill_stopped (hw : s.web.state = .stopped) :
    sequenceChill j c last s = bankTerm (fun x => (x.circuitProfiles.get j).standby) c s := by
  simp [sequenceChill, hd, hw, standby_getD]

/-! ### The cells that read the schedule alone -/

theorem sequenceFan_scheduled (hw : s.web.state = .threading ∨ s.web.state = .running ∨ s.web.state = .resuming) :
    sequenceFan k c s = scheduleTerm (fun q => q.zoneFan.get k) c s := by
  obtain hw | hw | hw := hw <;> simp [sequenceFan, hd, hw, scheduleValue_zoneFan_getD]

theorem sequenceExhaust_scheduled (hw : s.web.state ≠ .break) :
    sequenceExhaust c s = scheduleTerm (fun q => some (min q.exhaust s.qCap)) c s := by
  match h : s.web.state with
  | .break => exact absurd h hw
  | .stopped | .threading | .running | .resuming => simp [sequenceExhaust, hd, h, scheduleValue_exhaust_getD]

theorem sequenceChill_scheduled (hw : s.web.state = .threading ∨ s.web.state = .running ∨ s.web.state = .resuming) :
    sequenceChill j c last s = scheduleTerm (fun q => q.chill.get j) c s := by
  obtain hw | hw | hw := hw <;> simp [sequenceChill, hd, hw, scheduleValue_chill_getD]

end WebColumns

/-- Settles O32: the owner's value at a role is that role's row, and each conjunct reads its cells column by column. -/
theorem sequenceOwnerValues : Obligations.SequenceOwnerValues := by
  unfold Obligations.SequenceOwnerValues
  intro p c e s v hv
  obtain rfl : v = fun r => ownerValue .sequence r p c e s := funext hv
  refine ⟨fun hdryer => ?unready, fun hu hp => ?web⟩
  case unready =>
    have hd : s.dryer.state.unready = true := DryerState.unready_iff.2 hdryer
    exact ⟨fun k => ⟨sequenceTemp_unready hd, sequenceFan_unready hd, sequenceBurner_unready hd⟩,
      sequenceExhaust_unready hd, fun j => sequenceChill_unready hd⟩
  case web =>
    have hd : s.dryer.state.unready = false := DryerState.unready_eq_false hu hp
    refine ⟨fun hw => ?webBreak, fun hw k => ?resuming, fun hw => ?stopped,
      sequenceExhaust_scheduled hd, fun hw k => ?printing, fun hw j => sequenceChill_scheduled hd hw⟩
    case webBreak =>
      exact ⟨fun k => ⟨sequenceTemp_break hd hw, sequenceFan_break hd hw, sequenceBurner_break hd hw⟩,
        fun b => sequenceExhaust_break_of_some hd hw, sequenceExhaust_break_of_none hd hw,
        fun j => sequenceChill_break hd hw⟩
    case resuming =>
      exact ⟨sequenceFan_scheduled hd (.inr (.inr hw)), sequenceBurner_resuming hd hw,
        fun r t => sequenceTemp_resuming_of_setpoint hd hw, sequenceTemp_resuming_of_no_setpoint hd hw⟩
    case stopped =>
      exact ⟨fun k => ⟨sequenceTemp_stopped hd hw, sequenceFan_stopped hd hw, sequenceBurner_stopped hd hw⟩,
        fun j => sequenceChill_stopped hd hw⟩
    case printing => exact sequenceFan_scheduled hd (hw.imp_right .inl)

end Sys2Proof.Machine
end

section
/-! PROOF. Facts about the shared operations that several of the proofs below need. -/

namespace Sys2Proof.Machine

/-- A written item moves the working copy or the banks, and nothing else (R174). -/
theorem writeItem_moves {t : Table} {i : Nat} {p : Place} {s u : State} (h : writeItem t i p s = some u) :
    ∃ w q, u = { s with comm.working := w, banks := q } := by
  unfold writeItem at h
  split at h <;> simp only [Option.map_eq_some_iff, reduceCtorEq] at h
  case h_1 | h_2 => obtain ⟨_, _, rfl⟩ := h; exact ⟨_, s.banks, rfl⟩
  all_goals obtain ⟨_, _, rfl⟩ := h; exact ⟨s.comm.working, _, rfl⟩

/-- A list emptied by a REPLACE window moves the working copy or the banks, and nothing else (R172). -/
theorem emptyList_moves (t : Table) (s : State) :
    ∃ w q, emptyList t s = { s with comm.working := w, banks := q } := by
  unfold emptyList
  split
  · exact ⟨_, s.banks, rfl⟩
  all_goals exact ⟨s.comm.working, _, rfl⟩

/-- Two states are equal when every block is. -/
theorem State.eq_of_blocks {s t : State} (h1 : s.pending = t.pending) (h2 : s.now = t.now) (h3 : s.choices = t.choices)
    (h4 : s.phase = t.phase) (h5 : s.pins = t.pins) (h6 : s.line = t.line) (h7 : s.comm = t.comm)
    (h8 : s.board = t.board) (h9 : s.banks = t.banks) (h10 : s.sched = t.sched) (h11 : s.solv = t.solv)
    (h12 : s.web = t.web) (h13 : s.dryer = t.dryer) (h14 : s.cmds = t.cmds) (h15 : s.log = t.log)
    (h16 : s.agent = t.agent) : s = t := by
  cases s; cases t; simp_all

/-! ## The commands that reset the part (R1, R179, R188) -/

section Resets
variable {P : State → Prop} {s : State}

theorem waitExpiry_keeps (hr : ∀ p c s, P (enterReset p c s)) (h : P s) : P (serviceResetWaitExpiry s) := by
  unfold serviceResetWaitExpiry
  split
  · exact hr _ _ _
  · exact h

theorem powerOn_keeps (hr : ∀ p c s, P (enterReset p c s)) (h : P s) : P (powerOn s) := by
  unfold powerOn
  split
  · split <;> exact hr _ _ _
  all_goals exact h

theorem pinAssert_keeps (hr : ∀ p c s, P (enterReset p c s)) (hp : P { s with pins.resetAsserted := true })
    (h : P s) : P (resetPinAssert s) := by
  unfold resetPinAssert
  split
  · exact h
  · simp only []
    split
    · exact hp
    all_goals exact hr _ _ _

end Resets

end Sys2Proof.Machine
end

section
/-! PROOF. How the dryer unit may move: the changes of R116 to R133 as one relation, kept along every command, and the
dryer's laws over it. -/

namespace Sys2Proof.Machine

/-- What a change that is neither a trip nor a change of state leaves of the dryer: state, PERMIT, hold timer, capture. -/
def SameStanding (d e : DryerUnit) : Prop :=
  e.state = d.state ∧ e.permit = d.permit ∧ e.hold = d.hold ∧ e.capture = d.capture

/-- The ways in which the dryer unit changes (R116, R118, R126 to R133). -/
inductive DryerMove : DryerUnit → DryerUnit → Prop
  /-- Counters, figures and conditions move; no condition becomes active. -/
  | calm {d e : DryerUnit} : SameStanding d e → (AnyActive e → AnyActive d) → DryerMove d e
  /-- An onset in a dryer that is not TRIPPED. -/
  | trip {d e : DryerUnit} : e.state = .tripped → e.permit = false → e.hold = none → e.capture.isSome = true → DryerMove d e
  /-- An onset in a TRIPPED dryer. -/
  | again {d e : DryerUnit} : d.state = .tripped → SameStanding d e → DryerMove d e
  /-- A change between the states other than TRIPPED. -/
  | change {d e : DryerUnit} : d.state ≠ .tripped → e.state ≠ .tripped → e.permit = e.state.burning →
      ((e.hold.isSome = true ↔ e.state = .purged) ∨ d.state ≠ .purged ∧ e.state ≠ .purged ∧ e.hold = d.hold) →
      e.capture = d.capture → (AnyActive e → AnyActive d) → DryerMove d e
  /-- An accepted RESET_TRIP, and a reset of the part. -/
  | calmed {d e : DryerUnit} : e.state = .unpurged → e.permit = false → (e.hold = none ∨ d.state = .tripped ∧ e.hold = d.hold) →
      e.capture = none → ¬ AnyActive e → DryerMove d e

/-- The dryer's own part of `DryerLaw` (R126, R127, R128, R131). -/
def TripLaw (d : DryerUnit) : Prop :=
  (d.state = .tripped ↔ d.capture.isSome = true) ∧ (AnyActive d → d.state = .tripped)
    ∧ (d.hold.isSome = true ↔ d.state = .purged)

theorem SameStanding.refl (d : DryerUnit) : SameStanding d d := ⟨rfl, rfl, rfl, rfl⟩

theorem DryerMove.keeps_permit {d e : DryerUnit} (h : DryerMove d e) (hd : d.permit = d.state.burning) :
    e.permit = e.state.burning := by
  cases h with
  | calm h _ => rw [h.1, h.2.1, hd]
  | trip hs hp _ _ => rw [hs, hp]; rfl
  | again _ h => rw [h.1, h.2.1, hd]
  | change _ _ hp _ _ _ => exact hp
  | calmed hs hp _ _ _ => rw [hs, hp]; rfl

theorem DryerMove.keeps_trip {d e : DryerUnit} (h : DryerMove d e) (hd : TripLaw d) : TripLaw e := by
  obtain ⟨hcap, hact, hhold⟩ := hd
  cases h with
  | calm h ha =>
    obtain ⟨h1, _, h3, h4⟩ := h
    refine ⟨by rw [h1, h4]; exact hcap, fun a => by rw [h1]; exact hact (ha a), by rw [h1, h3]; exact hhold⟩
  | trip hs _ hh hc => exact ⟨by simp [hs, hc], fun _ => hs, by simp [hs, hh]⟩
  | again ht h =>
    obtain ⟨h1, _, h3, h4⟩ := h
    exact ⟨by rw [h1, h4]; exact hcap, fun _ => h1.trans ht, by rw [h1, h3]; exact hhold⟩
  | change hd he _ hh hc ha =>
    refine ⟨⟨fun a => absurd a he, fun a => ?_⟩, fun a => absurd (hact (ha a)) hd, ?_⟩
    · rw [hc] at a
      exact absurd (hcap.2 a) hd
    · rcases hh with hh | ⟨hp, hp', hh⟩
      · exact hh
      · rw [hh, hhold]; simp [hp, hp']
  | calmed hs _ hh hc ha =>
    refine ⟨by simp [hs, hc], fun a => absurd a ha, ?_⟩
    rcases hh with hh | ⟨ht, hh⟩
    · simp [hs, hh]
    · rw [hh, hhold, ht, hs]; simp

/-- A chain of dryer changes. -/
inductive DryerMoves (d : DryerUnit) : DryerUnit → Prop
  | refl : DryerMoves d d
  | tail {e f : DryerUnit} : DryerMoves d e → DryerMove e f → DryerMoves d f

theorem DryerMoves.single {d e : DryerUnit} (h : DryerMove d e) : DryerMoves d e := .tail .refl h

theorem DryerMoves.trans {d e f : DryerUnit} (h : DryerMoves d e) (g : DryerMoves e f) : DryerMoves d f := by
  induction g with
  | refl => exact h
  | tail _ m ih => exact ih.tail m

theorem DryerMoves.keeps_permit {d e : DryerUnit} (h : DryerMoves d e) (hd : d.permit = d.state.burning) :
    e.permit = e.state.burning := by
  induction h with
  | refl => exact hd
  | tail _ m ih => exact m.keeps_permit ih

theorem DryerMoves.keeps_trip {d e : DryerUnit} (h : DryerMoves d e) (hd : TripLaw d) : TripLaw e := by
  induction h with
  | refl => exact hd
  | tail _ m ih => exact m.keeps_trip ih

/-! ## The operations as dryer changes -/

variable (s : State)

theorem DryerState.burning_iff {d : DryerState} : d.burning = true ↔ d = .purged ∨ d = .firing := by
  cases d <;> simp [DryerState.burning]

/-- An onset, whatever condition was set before it (R126). -/
theorem onset_move {d : DryerUnit} {s : State} (h : SameStanding d s.dryer) (c : SafetyCondition) (sub : Subject) (v : Option Int) :
    DryerMove d (onset c sub v s).dryer := by
  obtain ⟨h1, h2, h3, h4⟩ := h
  by_cases ht : s.dryer.state = .tripped
  · rw [onset_dryer_tripped s c sub v ht]
    exact .again (h1 ▸ ht) ⟨h1, h2, h3, h4⟩
  · rw [onset_dryer s c sub v ht]
    unfold fillCapture
    split <;> exact .trip rfl rfl rfl (by simp_all)

/-- A change of conditions and figures in which every condition active after it was active before it. -/
theorem calm_move {d e : DryerUnit} (h : SameStanding d e) (h1 : e.lelMeasured = true → d.lelMeasured = true)
    (h2 : e.lelPredicted.active = true → d.lelPredicted.active = true)
    (h3 : e.exhaustLow.active = true → d.exhaustLow.active = true)
    (h4 : e.exhaustUnresponsive = true → d.exhaustUnresponsive = true)
    (h5 : ∀ k, (e.flame.get k).active = true → (d.flame.get k).active = true)
    (h6 : e.lineSilent = true → d.lineSilent = true) : DryerMove d e := by
  refine .calm h ?_
  rintro (a | a | a | a | ⟨k, a⟩ | a)
  · exact .inl (h1 a)
  · exact .inr (.inl (h2 a))
  · exact .inr (.inr (.inl (h3 a)))
  · exact .inr (.inr (.inr (.inl (h4 a))))
  · exact .inr (.inr (.inr (.inr (.inl ⟨k, h5 k a⟩))))
  · exact .inr (.inr (.inr (.inr (.inr (h6 a)))))

theorem dryerMove_refl (d : DryerUnit) : DryerMove d d := .calm (.refl d) id

/-- A judgement that is no onset leaves the condition as active as it was (R119). -/
theorem confirm_quiet {limit n : Nat} {c : Cond} (h : (confirm limit n c).2 = false) :
    (confirm limit n c).1.active = c.active := by
  unfold confirm at h ⊢
  simp only [] at h ⊢
  split <;> simp_all

theorem clearLineSilent_move (r : Refresh) : DryerMove s.dryer (clearLineSilent r s).dryer := by
  unfold clearLineSilent
  split
  · exact calm_move (.refl _) id id id id (fun _ => id) (by simp)
  · exact dryerMove_refl _

theorem clearPredicted_move : DryerMove s.dryer (clearPredicted s).dryer := by
  unfold clearPredicted
  split
  · exact calm_move (.refl _) id (by simp [Cond.clear]) id id (fun _ => id) id
  · exact dryerMove_refl _

theorem judgeLelMeasured_move : DryerMove s.dryer (judgeLelMeasured s).dryer := by
  have cleared : DryerMove s.dryer { s.dryer with lelMeasured := false } :=
    calm_move (.refl _) (by simp) id id id (fun _ => id) id
  unfold judgeLelMeasured
  repeat' split
  · exact dryerMove_refl _
  · exact onset_move (by exact ⟨rfl, rfl, rfl, rfl⟩) _ _ _
  · exact cleared
  · exact cleared
  · exact dryerMove_refl _

theorem judgeExhaustLow_move (r : Refresh) : DryerMove s.dryer (judgeExhaustLow r s).dryer := by
  have cleared : DryerMove s.dryer { s.dryer with exhaustLow := Cond.clear } :=
    calm_move (.refl _) id id (by simp [Cond.clear]) id (fun _ => id) id
  unfold judgeExhaustLow
  simp only []
  repeat' split
  · exact cleared
  · exact calm_move (.refl _) id id (fun _ => by assumption) id (fun _ => id) id
  · exact onset_move (by exact ⟨rfl, rfl, rfl, rfl⟩) _ _ _
  · exact dryerMove_refl _
  · exact onset_move (by exact ⟨rfl, rfl, rfl, rfl⟩) _ _ _
  · rename_i hc
    exact calm_move (.refl _) id id (by simp [confirm_quiet (Bool.eq_false_iff.2 hc)]) id (fun _ => id) id
  · exact cleared

/-- A flame condition replaced by one that is active only where it was. -/
theorem setFlame_move {d : DryerUnit} {k : Zone} {c : Cond} (h : c.active = true → (d.flame.get k).active = true) :
    DryerMove d { d with flame := d.flame.set k c } := by
  refine calm_move (.refl _) id id id id (fun j => ?_) id
  simp only [Four.get_set]
  split
  · rename_i hj; subst hj; exact h
  · exact id

theorem judgeFlame_move (r : Refresh) (k : Zone) : DryerMove s.dryer (judgeFlame r s k).dryer := by
  unfold judgeFlame
  simp only []
  repeat' split
  · exact setFlame_move id
  · exact onset_move (by exact ⟨rfl, rfl, rfl, rfl⟩) _ _ _
  · rename_i hc
    exact setFlame_move (by rw [confirm_quiet (Bool.eq_false_iff.2 hc)]; exact id)
  · exact setFlame_move (by simp [Cond.clear])

theorem refreshConditions_moves (r : Refresh) : DryerMoves s.dryer (refreshConditions r s).dryer := by
  unfold refreshConditions
  generalize s.flameZones = ks
  have start := (DryerMoves.single (judgeLelMeasured_move s)).tail (judgeExhaustLow_move _ r)
  generalize judgeExhaustLow r (judgeLelMeasured s) = u at start
  induction ks generalizing u with
  | nil => exact start
  | cons k ks ih => exact ih _ (start.tail (judgeFlame_move u r k))

/-- A change between states other than TRIPPED that starts or stops the hold timer as the new state asks. -/
theorem change_move {d : DryerUnit} {n : DryerState} {hold : Option Nat} {acc rem : Nat} (h : d.state ≠ .tripped) (hn : n ≠ .tripped)
    (hh : hold.isSome = true ↔ n = .purged) :
    DryerMove d { d with state := n, permit := n.burning, hold := hold, accumulator := acc, remainder := rem } :=
  .change h hn rfl (.inl hh) rfl id

theorem judgePurge_moves (r : Refresh) (h : s.dryer.state = .purging) :
    DryerMoves s.dryer (judgePurge r s).dryer := by
  unfold judgePurge
  split
  · exact .refl
  · split
    · exact .single (.calm ⟨rfl, rfl, rfl, rfl⟩ id)
    · exact .refl
    · simp only []
      split
      · refine .single ?_
        simp only [purgeDone, offer_frame, setDryer_dryer]
        exact change_move (by simp [h]) (by simp) (by simp)
      · exact .single (.calm ⟨rfl, rfl, rfl, rfl⟩ id)

theorem commissioned_scalars {s : State} (h : s.commissioned = true) : ∃ c, s.scalars? = some c := by
  obtain ⟨r, hr⟩ := Option.isSome_iff_exists.1 h
  exact ⟨r.scalars, by simp [State.scalars?, hr]⟩

theorem judgeFlameChange_move (hs : s.commissioned = true) : DryerMove s.dryer (judgeFlameChange s).dryer := by
  obtain ⟨c, hc⟩ := commissioned_scalars hs
  unfold judgeFlameChange
  split
  · rename_i h
    split
    · simp only [setDryer_dryer]
      exact change_move (by simp [h]) (by simp) (by simp)
    · exact dryerMove_refl _
  · rename_i h
    split
    · simp only [hc, setDryer_dryer]
      exact change_move (by simp [h]) (by simp) (by simp)
    · exact dryerMove_refl _
  · exact dryerMove_refl _
  · exact dryerMove_refl _
  · exact dryerMove_refl _

theorem dryerReaction_moves (r : Refresh) : DryerMoves s.dryer (dryerReaction r s).dryer := by
  unfold dryerReaction
  split
  · rename_i hk
    have h1 := (DryerMoves.single (clearLineSilent_move s r)).tail (clearPredicted_move _)
    have h2 := h1.trans (refreshConditions_moves _ r)
    refine (h2.trans ?_).tail (judgeFlameChange_move _ ((commissioned_of_comm (by simp)).trans hk))
    unfold purgeStep
    split
    · rename_i h; exact judgePurge_moves _ r h
    · exact .refl
  · exact .refl

theorem judgePredicted_move {d : DryerUnit} (hd : s.dryer = d) (p : SolvPub) : DryerMove d (judgePredicted p s).dryer := by
  subst hd
  have cleared : DryerMove s.dryer { s.dryer with lelPredicted := Cond.clear } :=
    calm_move (.refl _) id (by simp [Cond.clear]) id id (fun _ => id) id
  unfold judgePredicted
  simp only []
  split
  · exact cleared
  · exact cleared
  all_goals
    split
    · split
      · split
        · exact onset_move (by exact ⟨rfl, rfl, rfl, rfl⟩) _ _ _
        · rename_i hc
          exact calm_move (.refl _) id (by simp [confirm_quiet (Bool.eq_false_iff.2 hc)]) id id (fun _ => id) id
      · exact cleared
    · exact dryerMove_refl _

theorem solventEvaluationComplete_move (n : Nat) :
    DryerMove s.dryer (solventEvaluationComplete n s).dryer := by
  unfold solventEvaluationComplete publishSolvent
  split
  · simp only []
    split
    · simp only [judgePublication_frame]
      exact judgePredicted_move _ (by rfl) _
    · exact judgePredicted_move _ (by simp) _
  · exact dryerMove_refl _

theorem exhaustUnresponsiveReport_move {d : DryerUnit} (hd : s.dryer = d) :
    DryerMove d (exhaustUnresponsiveReport s).dryer := by
  subst hd
  unfold exhaustUnresponsiveReport
  split
  · exact dryerMove_refl _
  · exact onset_move (by exact ⟨rfl, rfl, rfl, rfl⟩) _ _ _

theorem exhaustResponsiveReport_move : DryerMove s.dryer (exhaustResponsiveReport s).dryer :=
  calm_move (.refl _) id id id (by simp) (fun _ => id) id

theorem judgeEcho_move (c : CycleNo) (r : Role) : DryerMove s.dryer (judgeEcho c s r).dryer := by
  unfold judgeEcho
  split
  · split
    · split
      · unfold echoMatch
        simp only []
        split
        · exact exhaustResponsiveReport_move _
        · exact dryerMove_refl _
      · split
        · exact dryerMove_refl _
        · unfold echoMiss becameUnresponsive
          simp only []
          split
          · split
            · exact exhaustUnresponsiveReport_move _ rfl
            · simpa using dryerMove_refl _
          · exact dryerMove_refl _
    · exact dryerMove_refl _
  · exact dryerMove_refl _

theorem commandReaction_moves (r : Refresh) : DryerMoves s.dryer (commandReaction r s).dryer := by
  unfold commandReaction judgeEchoes
  split
  · split
    · split
      · rename_i c _ _
        have start : DryerMoves s.dryer (loadHolds r s).dryer := .refl
        generalize (loadHolds r s).cmds.entries.map Prod.fst = roles
        generalize loadHolds r s = u at start
        induction roles generalizing u with
        | nil => exact start
        | cons x roles ih => exact ih _ (start.tail (judgeEcho_move u c x))
      · exact .refl
    · exact .refl
  · exact .refl

theorem silentEntry_move {d : DryerUnit} (hd : s.dryer = d) : DryerMove d (silentEntry s).dryer := by
  subst hd
  have trip : DryerMove s.dryer
      (if s.dryer.lineSilent then s
        else onset .lineSilent .none none { s with dryer.lineSilent := true }).dryer := by
    split
    · exact dryerMove_refl _
    · exact onset_move (by exact ⟨rfl, rfl, rfl, rfl⟩) _ _ _
  unfold silentEntry
  split
  · exact trip
  · exact trip
  · rename_i h
    simp only [setDryer_dryer]
    exact .change (by simp [h]) (by simp) rfl (.inr ⟨by simp [h], by simp, rfl⟩) rfl id
  · exact dryerMove_refl _
  · exact dryerMove_refl _

theorem purgeHoldExpiry_move : DryerMove s.dryer (purgeHoldExpiry s).dryer := by
  unfold purgeHoldExpiry
  split
  · rename_i h _
    simp only [offer_frame, setDryer_dryer]
    exact change_move (by simp [h]) (by simp) (by simp)
  · exact dryerMove_refl _

theorem enterReset_move (p : Phase) (c : ResetCauses) (t : State) (d : DryerUnit) :
    DryerMove d (enterReset p c t).dryer := by
  refine .calmed rfl rfl (.inl rfl) rfl ?_
  rintro (a | a | a | a | ⟨k, a⟩ | a) <;> simp [DryerUnit.afterReset, Cond.clear] at a

/-- Where no condition is named as active, none is (R119, R133). -/
theorem firstActive_none {d : DryerUnit} : firstActive d = none ↔ ¬ AnyActive d := by
  have flames : activeFlame d = none ↔ ∀ k, (d.flame.get k).active = false := by
    simp only [activeFlame, List.find?_eq_none, Bool.not_eq_true]
    exact ⟨fun h k => h k (by revert k; decide), fun h k _ => h k⟩
  unfold firstActive AnyActive
  cases h1 : d.lelMeasured <;> cases h2 : d.lelPredicted.active <;> cases h3 : d.exhaustLow.active <;>
    cases h4 : d.exhaustUnresponsive <;> simp
  cases hf : activeFlame d with
  | some k =>
    have hk : (d.flame.get k).active = true := by simpa using List.find?_some hf
    simp only [reduceCtorEq, false_iff]
    exact fun h => by simp [h.1 k] at hk
  | none =>
    have hk := flames.1 hf
    cases d.lineSilent <;> simp [hk]

theorem acceptReset_move (h : s.dryer.state = .tripped) (ha : firstActive s.dryer = none) :
    DryerMove s.dryer (acceptReset s).dryer := by
  have hq := firstActive_none.1 ha
  unfold acceptReset
  simp only [offer_frame, setDryer_dryer]
  refine .calmed rfl rfl (.inr ⟨h, rfl⟩) rfl fun a => hq ?_
  simpa [AnyActive, clearCounters] using a

theorem commandsAtStore_move : DryerMove s.dryer (commandsAtStore s).dryer := by
  unfold commandsAtStore
  simp only []
  split
  · exact exhaustResponsiveReport_move _
  · exact dryerMove_refl _

theorem flamesAtStore_move : DryerMove s.dryer (flamesAtStore s).dryer := by
  refine calm_move ⟨rfl, rfl, rfl, rfl⟩ id id id id (fun k => ?_) id
  simp only [flamesAtStore, Four.get_ofFn]
  split
  · exact id
  · simp [Cond.clear]

theorem storeWriteComplete_moves : DryerMoves s.dryer (storeWriteComplete s).dryer := by
  unfold storeWriteComplete
  split
  · have h1 := commandsAtStore_move (boardAtStore (bringIntoForce s))
    have h2 := flamesAtStore_move
      (webAtStore s.scalars? s.comm.working.scalars (commandsAtStore (boardAtStore (bringIntoForce s))))
    simp only [boardAtStore_dryer, bringIntoForce_frame, webAtStore_frame] at h1 h2
    simpa [storeCompletion] using (DryerMoves.single h1).tail h2
  · exact .refl

theorem react_moves (r : Refresh) (x : Reaction) : DryerMoves s.dryer (react r x s).dryer := by
  cases x with
  | dryerSafety => exact dryerReaction_moves s r
  | commandTable => exact commandReaction_moves s r
  | lineInterface => unfold react; simp only []; split <;> simp [DryerMoves.refl]
  | sampleBoard => simp [react, DryerMoves.refl]
  | webSequencer => simp [react, DryerMoves.refl]
  | scheduleUnit => simp [react, DryerMoves.refl]
  | solventUnit => simp [react, DryerMoves.refl]
  | incidentLog => simp [react, DryerMoves.refl]

/-- Every operation of a frame end moves the dryer by a chain of changes. -/
theorem dryerMoves_keptAtEnd (d : DryerUnit) : KeptAtEnd fun t => DryerMoves d t.dryer := by
  constructor
  case react => exact fun r x s _ h => h.trans (react_moves s r x)
  case serviceReset => exact fun s h => h.tail (enterReset_move _ _ _ _)
  case leave => exact fun _ _ _ _ _ _ _ h => h
  all_goals intros; simpa using ‹DryerMoves d _›

/-- Every command moves the dryer by a chain of changes. -/
theorem dryerMoves_kept (d : DryerUnit) : Kept fun t => DryerMoves d t.dryer := by
  have hr : ∀ p c s, DryerMoves d (enterReset p c s).dryer := fun _ _ _ => .single (enterReset_move _ _ _ _)
  constructor
  case frameEnd => exact fun n e us s h => (dryerMoves_keptAtEnd d).frameEnd n e us s h
  case solvent => exact fun n s h => h.tail (solventEvaluationComplete_move s n)
  case silence =>
    intro s h
    unfold silenceTimerExpiry enterSilent
    split
    · exact h.tail (silentEntry_move _ (by rfl))
    · exact h
  case purgeHold => exact fun s h => h.tail (purgeHoldExpiry_move s)
  case storeWrite => exact fun s h => h.trans (storeWriteComplete_moves s)
  case startPurge =>
    exact fun s _ _ _ hd _ h =>
      h.tail (.change (by simp [hd]) (by simp) rfl (.inr ⟨by simp [hd], by simp, rfl⟩) rfl id)
  case abortPurge =>
    exact fun s _ hd h => h.tail (.change (by simp [hd]) (by simp) rfl (.inr ⟨by simp [hd], by simp, rfl⟩) rfl id)
  case acceptReset => exact fun s _ ht ha _ h => h.tail (acceptReset_move s ht ha)
  case waitExpiry => exact fun s h => waitExpiry_keeps (P := fun t => DryerMoves d t.dryer) hr h
  case powerOn => exact fun s h => powerOn_keeps (P := fun t => DryerMoves d t.dryer) hr h
  case supplyLoss => exact fun s h => h.tail (enterReset_move _ _ _ _)
  case pinAssert => exact fun s h => pinAssert_keeps (P := fun t => DryerMoves d t.dryer) hr h h
  case pinRelease => intro s h; unfold resetPinRelease; simp only []; split <;> exact h
  case loadComplete => intro s h; unfold storeLoadComplete; split <;> simpa using h
  case clearCounter => intro s n _ h; unfold clearCounter; split <;> exact h
  case writeItem =>
    intro w p s u _ _ _ _ hw h
    obtain ⟨_, _, rfl⟩ := writeItem_moves hw
    exact h
  all_goals intros; simpa using ‹DryerMoves d _›

theorem permitLaw_iff : PermitLaw s ↔ s.dryer.permit = s.dryer.state.burning := by
  unfold PermitLaw
  cases s.dryer.state <;> simp [DryerState.burning]

theorem step_moves {s t : State} (h : step s = .next t) : DryerMoves s.dryer t.dryer :=
  (dryerMoves_kept s.dryer).step s t .refl h

theorem step_keeps_permitLaw {s t : State} (h : PermitLaw s) (hs : step s = .next t) : PermitLaw t :=
  (permitLaw_iff t).2 ((step_moves hs).keeps_permit ((permitLaw_iff s).1 h))

theorem step_keeps_tripLaw {s t : State} (h : TripLaw s.dryer) (hs : step s = .next t) : TripLaw t.dryer :=
  (step_moves hs).keeps_trip h

end Sys2Proof.Machine
end

section
/-! PROOF. What an UNCOMMISSIONED part holds, kept along every command; and with it the dryer's laws (O51). -/

namespace Sys2Proof.Machine

/-- What stands in an UNCOMMISSIONED part (R25, R55, R72, R115, R135). -/
def Bare (s : State) : Prop :=
  s.board.records = [] ∧ s.cmds.entries = [] ∧ s.solv.eff = none ∧ s.dryer.state = .unpurged
    ∧ s.sched.job = none ∧ s.solv.job = none ∧ s.sched.publication = none ∧ s.solv.publication = none
    ∧ ∀ b : BankNo, (s.banks.get b).state = .empty ∨ (s.banks.get b).state = .editing

variable {s t : State}

theorem Bare.of_blocks (hb : t.board = s.board) (hc : t.cmds = s.cmds) (hv : t.solv = s.solv) (hd : t.dryer = s.dryer)
    (hs : t.sched = s.sched) (hq : t.banks = s.banks) (h : Bare s) : Bare t := by
  unfold Bare at *
  rw [hb, hc, hv, hd, hs, hq]
  exact h

/-- A command that moves neither the commissioning nor the phase nor the running STORE. -/
theorem UncommissionedLaw.carry (h : UncommissionedLaw s) (hc : t.comm = s.comm) (hp : t.phase = s.phase)
    (ha : t.agent.storeRunning = s.agent.storeRunning) (hb : s.commissioned = false → Bare s → Bare t) :
    UncommissionedLaw t := by
  unfold UncommissionedLaw
  rw [hp, ha, commissioned_of_comm hc]
  exact ⟨h.1, fun e => hb e (h.2 e)⟩

/-- The same of a command that also leaves every block of `Bare`. -/
theorem UncommissionedLaw.leave (h : UncommissionedLaw s) (hc : t.comm = s.comm) (hp : t.phase = s.phase)
    (ha : t.agent.storeRunning = s.agent.storeRunning) (hb : t.board = s.board) (hm : t.cmds = s.cmds)
    (hv : t.solv = s.solv) (hd : t.dryer = s.dryer) (hs : t.sched = s.sched) (hq : t.banks = s.banks) :
    UncommissionedLaw t :=
  h.carry hc hp ha fun _ => Bare.of_blocks hb hm hv hd hs hq

theorem scalars_none (h : s.commissioned = false) : s.scalars? = none := by
  simpa [State.commissioned, State.scalars?] using h

/-! ## Banks that are EMPTY or EDITING -/

theorem Bare.noActive (h : Bare s) : activeBank s.banks = none := by
  obtain ⟨_, _, _, _, _, _, _, _, hq⟩ := h
  rw [activeBank, List.find?_eq_none]
  intro b _
  rcases hq b with e | e <;> simp [e]

theorem Bare.noPending (h : Bare s) : pendingBank s.banks = none := by
  obtain ⟨_, _, _, _, _, _, _, _, hq⟩ := h
  rw [pendingBank, List.find?_eq_none]
  intro b _
  rcases hq b with e | e <;> simp [e, BankState.isPending]

theorem Bare.noEvent (h : Bare s) (m : PendingMode) : changeoverEvent m s = s := by
  simp [changeoverEvent, h.noPending]

/-! ## Reactions of an UNCOMMISSIONED part -/

theorem judged_uncommissioned (h : s.commissioned = false) (r : Refresh) : judged r s = false := by
  simp [judged, h]

theorem Bare.react (h : Bare s) (hc : s.commissioned = false) (r : Refresh) (x : Reaction) : Bare (react r x s) := by
  have hj := judged_uncommissioned hc r
  cases x with
  | lineInterface =>
    unfold Machine.react
    simp only []
    split
    · exact h.of_blocks (by simp) (by simp) (by simp) (by simp) (by simp) (by simp)
    · exact h
  | sampleBoard => simpa [Machine.react, boardReaction, hj] using h
  | commandTable => simpa [Machine.react, commandReaction, hc] using h
  | webSequencer =>
    simp only [Machine.react, webReaction, hj, Bool.false_eq_true, if_false, handSplice, h.noEvent, ite_self]
    exact h
  | dryerSafety => simpa [Machine.react, dryerReaction, hc] using h
  | scheduleUnit =>
    have hw : watch r s = s := by simp [watch, State.activeRecipe, h.noActive]
    have hn := h.noActive
    obtain ⟨h1, h2, h3, h4, _, h6, h7, h8, h9⟩ := h
    simp only [Machine.react, scheduleReaction, hw]
    exact ⟨h1, h2, h3, h4, by simp [startSchedule, hn], h6, h7, h8, h9⟩
  | solventUnit =>
    have hf : judged r (formParams s) = false := hj
    have hn := h.noActive
    obtain ⟨h1, h2, h3, h4, h5, h6, h7, h8, h9⟩ := h
    simp only [Machine.react, solventReaction, hf, Bool.false_eq_true, if_false, startSolvent, formParams_banks, hn]
    exact ⟨h1, h2, by simp [formParams, scalars_none hc], h4, h5, rfl, h7, h8, h9⟩
  | incidentLog => exact h

theorem uncommissionedLaw_keptAtEnd : KeptAtEnd UncommissionedLaw := by
  constructor
  case react =>
    exact fun r x s _ h => h.carry (by simp) (by simp) (by simp) fun e b => b.react e r x
  case samples =>
    intro r s _ h
    refine h.carry rfl rfl rfl fun _ b => ?_
    obtain ⟨h1, h2⟩ := b
    exact ⟨by simp [takeSamples, derive, h1], h2⟩
  case serviceReset =>
    intro s h
    refine ⟨fun _ => ⟨rfl, rfl⟩, fun _ => ?_⟩
    exact ⟨rfl, rfl, rfl, rfl, rfl, rfl, rfl, rfl, fun b => .inl (by simp [serviceReset, Bank.cleared])⟩
  case leave => exact fun _ _ _ _ _ _ _ h => h
  case outService => exact fun _ _ h => h.leave rfl rfl (by simp) rfl rfl rfl rfl rfl rfl
  all_goals
    intros
    refine UncommissionedLaw.leave ‹_› ?_ ?_ ?_ ?_ ?_ ?_ ?_ ?_ ?_ <;> simp

theorem enterReset_uncommissioned (p : Phase) (c : ResetCauses) (s : State) : UncommissionedLaw (enterReset p c s) :=
  ⟨fun _ => ⟨rfl, rfl⟩, fun _ =>
    ⟨rfl, rfl, rfl, rfl, rfl, rfl, rfl, rfl, fun b => .inl (by simp [Bank.cleared])⟩⟩

/-! ## Commands -/

theorem Bare.commissioned_of_state (h : s.commissioned = false → Bare s) (hd : s.dryer.state ≠ .unpurged) :
    s.commissioned = true := by
  refine Classical.byContradiction fun hc => ?_
  obtain ⟨_, _, _, h4, _⟩ := h (by simpa using hc)
  exact hd h4

theorem Bare.commissioned_of_bank (h : s.commissioned = false → Bare s) {b : BankNo}
    (he : (s.banks.get b).state ≠ .empty) (hd : (s.banks.get b).state ≠ .editing) : s.commissioned = true := by
  refine Classical.byContradiction fun hc => ?_
  obtain ⟨_, _, _, _, _, _, _, _, hq⟩ := h (by simpa using hc)
  rcases hq b with e | e
  · exact he e
  · exact hd e

/-- A command that leaves the part COMMISSIONED. -/
theorem UncommissionedLaw.within (h : UncommissionedLaw s) (hk : s.commissioned = true) (hc : t.comm = s.comm)
    (hp : t.phase = s.phase) (ha : t.agent.storeRunning = s.agent.storeRunning) : UncommissionedLaw t :=
  h.carry hc hp ha fun e => by simp [hk] at e

/-- Banks that change to EMPTY or EDITING at most. -/
theorem Bare.setBank (h : Bare s) (b : BankNo) {x : Bank} (hx : x.state = .empty ∨ x.state = .editing) :
    Bare { s with banks := s.banks.set b x } := by
  obtain ⟨h1, h2, h3, h4, h5, h6, h7, h8, hq⟩ := h
  refine ⟨h1, h2, h3, h4, h5, h6, h7, h8, fun c => ?_⟩
  simp only [Four.get_set]
  split
  · exact hx
  · exact hq c

/-- An edited bank, or a working copy, moves nothing else of what an UNCOMMISSIONED part holds. -/
theorem Bare.emptyList (h : Bare s) (t : Table) : Bare (emptyList t s) := by
  unfold Machine.emptyList
  split
  · exact h
  all_goals first | exact h | exact h.setBank _ (.inr rfl)

theorem Bare.writeItem {p : Place} {i : Nat} {tb : Table} (h : Bare s) (hw : writeItem tb i p s = some t) : Bare t := by
  unfold Machine.writeItem at hw
  split at hw <;> simp only [Option.map_eq_some_iff, reduceCtorEq] at hw
  case h_1 | h_2 => obtain ⟨_, _, rfl⟩ := hw; exact h
  all_goals obtain ⟨_, _, rfl⟩ := hw; exact h.setBank _ (.inr rfl)

theorem Bare.silenceTimerExpiry (h : Bare s) : Bare (silenceTimerExpiry s) := by
  unfold Machine.silenceTimerExpiry enterSilent silentEntry
  have hd := h.2.2.2.1
  split
  · simp only [reachDeadline_dryer, hd]
    exact h
  · exact h

theorem Bare.commandPassage (h : Bare s) (hc : s.commissioned = false) (i : Nat) : Bare (commandPassage i s) := by
  unfold Machine.commandPassage
  split
  · exact h
  · rw [if_neg (by simp [offered, hc])]
    exact h

theorem Bare.breakEntry (h : Bare s) (b : BreakSource) : Bare (breakEntry b s) :=
  h.of_blocks (by simp) (by simp) (by simp) (by simp) (by simp) (by simp)

/-- A completed STORE leaves the part COMMISSIONED (R185). -/
theorem storeCompletion_commissioned (s : State) : (storeCompletion s).commissioned = true := by
  have h : (storeCompletion s).comm = (bringIntoForce s).comm := by simp [storeCompletion]
  rw [commissioned_of_comm h]
  unfold bringIntoForce
  simp only []
  split <;> simp [State.commissioned]

/-- The load at start leaves an UNCOMMISSIONED part with nothing but what it held (R187). -/
theorem storeLoadComplete_uncommissioned (h : UncommissionedLaw s) : UncommissionedLaw (storeLoadComplete s) := by
  unfold storeLoadComplete
  split
  · rename_i hp
    obtain ⟨hf, hs⟩ := h.1 (by simp [hp])
    obtain ⟨_, _, _, h4, h5, h6, h7, h8, hq⟩ := h.2 hf
    have hc : (offerInvalid (openRelay (takeLoaded s))).comm = (takeLoaded s).comm := by simp [openRelay]
    refine ⟨fun e => absurd (by simp [openRelay]) e, fun e => ?_⟩
    have hn : s.comm.stored = none := by
      rw [commissioned_of_comm hc] at e
      simpa [State.commissioned, takeLoaded] using e
    refine ⟨?_, ?_, ?_, by simpa [openRelay] using h4, by simpa [openRelay] using h5, ?_,
      by simpa [openRelay] using h7, ?_, by simpa [openRelay] using hq⟩ <;>
      simp [openRelay, takeLoaded, formParams, rebuildRecords, rebuildEntries, recordKeys, commandRoles, commandEntry,
        State.map, State.scalars?, hn, h6, h8]
  · exact h
  · exact h
  · exact h

theorem uncommissionedLaw_kept : Kept UncommissionedLaw := by
  constructor
  case frameEnd => exact uncommissionedLaw_keptAtEnd.frameEnd
  case commandPassage => exact fun i s h => h.carry (by simp) (by simp) (by simp) fun e b => b.commandPassage e i
  case schedule =>
    refine fun s h => h.carry (by simp) (by simp) (by simp) fun _ b => ?_
    have hj := b.2.2.2.2.1
    simpa [scheduleEvaluationComplete, hj] using b
  case solvent =>
    refine fun n s h => h.carry (by simp) (by simp) (by simp) fun _ b => ?_
    have hj := b.2.2.2.2.2.1
    simp only [solventEvaluationComplete, publishSolvent, takeChoice_solv, hj]
    exact b
  case silence => exact fun s h => h.carry (by simp) (by simp) (by simp) fun _ b => b.silenceTimerExpiry
  case purgeHold =>
    intro s h
    refine h.carry (by simp) (by simp) (by simp) fun _ b => ?_
    have hd := b.2.2.2.1
    simpa [purgeHoldExpiry, hd] using b
  case emptyList =>
    refine fun t s hp _ _ _ h => ⟨fun e => absurd (by simpa using hp) e, fun e => Bare.emptyList (h.2 ?_) t⟩
    obtain ⟨w, q, hw⟩ := emptyList_moves t s
    rw [hw] at e
    exact e
  case writeItem =>
    intro w p s u hp _ _ _ hw h
    obtain ⟨_, _, rfl⟩ := writeItem_moves hw
    exact ⟨fun e => absurd hp e, fun e => Bare.writeItem (h.2 e) hw⟩
  case startCheck => exact fun b s _ hk _ _ h => h.within hk rfl rfl rfl
  case bankCheckEnd =>
    intro s h
    refine h.carry (by simp) (by simp) (by simp) fun _ b => ?_
    obtain ⟨_, _, _, _, _, _, _, _, hq⟩ := id b
    unfold bankCheckEnd
    split
    · exact b
    · rename_i c _
      rcases hq c with e | e <;> rw [e] <;> exact b
  case clearBank => exact fun b s _ _ h => h.carry rfl rfl rfl fun _ e => e.setBank b (.inl rfl)
  case activate =>
    exact fun b m s _ hb h =>
      h.within (Bare.commissioned_of_bank h.2 (b := b) (by simp [hb]) (by simp [hb])) (by simp) (by simp) (by simp)
  case unqueue =>
    refine fun s _ h => h.carry rfl rfl rfl fun _ e => ?_
    simpa [unqueue, e.noPending] using e
  case startStore =>
    exact fun s hp _ _ _ h => ⟨fun e => absurd hp e, fun e => h.2 e⟩
  case storeWrite =>
    intro s h
    unfold storeWriteComplete
    split
    · rename_i hr
      have hp : s.phase = .running := by
        refine Classical.byContradiction fun e => ?_
        simp [(h.1 e).2] at hr
      refine ⟨fun e => absurd (by simpa [storeCompletion] using hp) e, fun e => ?_⟩
      simp [storeCompletion_commissioned] at e
    · exact h
  case reloadWorking => exact fun s _ _ h => h
  case startPurge => exact fun s _ hk _ _ _ h => h.within hk rfl rfl rfl
  case abortPurge =>
    exact fun s _ hd h => h.within (Bare.commissioned_of_state h.2 (by simp [hd])) rfl rfl rfl
  case acceptReset =>
    exact fun s _ hd _ _ h => h.within (Bare.commissioned_of_state h.2 (by simp [hd])) (by simp) (by simp) (by simp)
  case released => exact fun r b s _ hk _ h => h.within hk rfl rfl rfl
  case overrides =>
    refine fun o s _ h => h.carry (by simp) (by simp) (by simp [withOverrides]) fun e b => ?_
    obtain ⟨h1, h2, h3, h4⟩ := b
    exact ⟨h1, h2, by simp [withOverrides, formParams, scalars_none (s := { s with agent.overrides := o }) e], h4⟩
  case clearCounter => intro s n _ h; unfold clearCounter; split <;> exact h
  case waitExpiry => exact fun s => waitExpiry_keeps enterReset_uncommissioned
  case powerOn => exact fun s => powerOn_keeps enterReset_uncommissioned
  case supplyLoss => exact fun s _ => enterReset_uncommissioned _ _ s
  case pinAssert => exact fun s h => pinAssert_keeps enterReset_uncommissioned h h
  case pinRelease =>
    intro s h
    unfold resetPinRelease
    simp only []
    split
    · rename_i hp
      exact ⟨fun _ => h.1 (by simp [hp]), h.2⟩
    all_goals exact h
  case loadComplete => exact fun s h => storeLoadComplete_uncommissioned h
  all_goals
    intros
    first
    | assumption
    | (refine UncommissionedLaw.leave ‹_› ?_ ?_ ?_ ?_ ?_ ?_ ?_ ?_ ?_ <;> simp)

/-- Settles O51: PERMIT and the trip's laws follow every chain of dryer changes that a step makes, and an UNCOMMISSIONED
part stays bare. -/
theorem dryerLawsKept : Obligations.DryerLawsKept := by
  unfold Obligations.DryerLawsKept
  refine ⟨fun s t h hs => step_keeps_permitLaw h hs, fun s t h hs => uncommissionedLaw_kept.step s t h hs, ?_⟩
  rintro s t ⟨hu, hd⟩ hs
  exact ⟨uncommissionedLaw_kept.step s t hu hs, step_keeps_tripLaw hd hs⟩

end Sys2Proof.Machine
end

section
/-! PROOF. What the Dryer Safety Unit's judgements at a refresh do (R118 to R124): each condition by its table, and the
state, PERMIT and purge figures with them. -/

namespace Sys2Proof.Machine

variable {s t : State}

/-- An onset leaves every condition and the purge figures as they stood (R126). -/
@[simp] theorem onset_conditions (c : SafetyCondition) (sub : Subject) (v : Option Int) (s : State) :
    (onset c sub v s).dryer.lelMeasured = s.dryer.lelMeasured
      ∧ (onset c sub v s).dryer.lelPredicted = s.dryer.lelPredicted
      ∧ (onset c sub v s).dryer.exhaustLow = s.dryer.exhaustLow
      ∧ (onset c sub v s).dryer.exhaustUnresponsive = s.dryer.exhaustUnresponsive
      ∧ (onset c sub v s).dryer.flame = s.dryer.flame ∧ (onset c sub v s).dryer.lineSilent = s.dryer.lineSilent
      ∧ (onset c sub v s).dryer.accumulator = s.dryer.accumulator
      ∧ (onset c sub v s).dryer.remainder = s.dryer.remainder := by
  by_cases h : s.dryer.state = .tripped
  · rw [onset_dryer_tripped s c sub v h]; simp
  · rw [onset_dryer s c sub v h]; unfold fillCapture; split <;> simp

theorem lookupKey_map_snd {κ α : Type} [DecidableEq κ] (k : κ) (f : κ → α → α) (l : List (κ × α)) :
    lookupKey k (l.map fun p => (p.1, f p.1 p.2)) = (lookupKey k l).map (f k) := by
  induction l with
  | nil => rfl
  | cons p l ih =>
    obtain ⟨j, x⟩ := p
    by_cases h : j = k
    · subst h; simp [lookupKey]
    · simpa [lookupKey, h] using ih

/-- Clearing the released flags leaves what was forwarded (R152). -/
@[simp] theorem clearReleased_lastValue (t : CmdTable) (r : Role) : (clearReleased t).lastValue r = t.lastValue r := by
  have h := lookupKey_map_snd r (fun _ (e : CmdEntry) => { e with released := false }) t.entries
  unfold CmdTable.lastValue CmdTable.entry? clearReleased
  simp only [] at h ⊢
  rw [h]
  cases lookupKey r t.entries <;> rfl

/-- The Command Table after an onset: as it was, or with every released flag cleared (R126). -/
theorem onset_cmds (c : SafetyCondition) (sub : Subject) (v : Option Int) (s : State) :
    (onset c sub v s).cmds = if s.dryer.state = .tripped then s.cmds else clearReleased s.cmds := by
  unfold onset; split <;> simp

@[simp] theorem onset_lastValue (c : SafetyCondition) (sub : Subject) (v : Option Int) (s : State) (r : Role) :
    (onset c sub v s).cmds.lastValue r = s.cmds.lastValue r := by
  rw [onset_cmds]; split <;> simp

/-- What a judgement that trips exactly when `trip` holds does to the state, PERMIT, the hold timer and the purge
figures. -/
structure Judged (trip : Prop) (d e : DryerUnit) : Prop where
  accumulator : e.accumulator = d.accumulator
  remainder : e.remainder = d.remainder
  quiet : ¬ trip → e.state = d.state ∧ e.permit = d.permit ∧ e.hold = d.hold
  state : trip → e.state = .tripped
  permit : trip → d.state ≠ .tripped → e.permit = false
  stays : d.state = .tripped → e.permit = d.permit

theorem Judged.refl {trip : Prop} (h : ¬ trip) (d : DryerUnit) : Judged trip d d :=
  ⟨rfl, rfl, fun _ => ⟨rfl, rfl, rfl⟩, fun a => absurd a h, fun a => absurd a h, fun _ => rfl⟩

theorem Judged.trans {a b : Prop} {d e f : DryerUnit} (h : Judged a d e) (g : Judged b e f) : Judged (a ∨ b) d f where
  accumulator := g.accumulator.trans h.accumulator
  remainder := g.remainder.trans h.remainder
  quiet n := by
    obtain ⟨na, nb⟩ := not_or.1 n
    obtain ⟨h1, h2, h3⟩ := h.quiet na
    obtain ⟨g1, g2, g3⟩ := g.quiet nb
    exact ⟨g1.trans h1, g2.trans h2, g3.trans h3⟩
  state y := by
    by_cases hb : b
    · exact g.state hb
    · exact (g.quiet hb).1.trans (h.state (y.resolve_right hb))
  permit y hd := by
    by_cases ha : a
    · exact (g.stays (h.state ha)).trans (h.permit ha hd)
    · exact g.permit (y.resolve_left ha) (by rw [(h.quiet ha).1]; exact hd)
  stays hd := by
    refine (g.stays ?_).trans (h.stays hd)
    by_cases ha : a
    · exact h.state ha
    · rw [(h.quiet ha).1, hd]

/-- A judgement leaves a dryer that was TRIPPED so. -/
theorem Judged.tripped {a : Prop} {d e : DryerUnit} (h : Judged a d e) (hd : d.state = .tripped) : e.state = .tripped := by
  by_cases ha : a
  · exact h.state ha
  · rw [(h.quiet ha).1, hd]

/-- A dryer that a judgement leaves in another state than TRIPPED has not tripped. -/
theorem Judged.not_tripped {a : Prop} {d e : DryerUnit} (h : Judged a d e) (he : e.state ≠ .tripped) :
    ¬ a ∧ e.state = d.state ∧ e.permit = d.permit ∧ e.hold = d.hold :=
  have ha : ¬ a := fun y => he (h.state y)
  ⟨ha, h.quiet ha⟩

/-- An onset trips. -/
theorem onset_judged {trip : Prop} {d : DryerUnit} {s : State} (ht : trip) (h : SameStanding d s.dryer)
    (ha : s.dryer.accumulator = d.accumulator) (hr : s.dryer.remainder = d.remainder) (c : SafetyCondition)
    (sub : Subject) (v : Option Int) : Judged trip d (onset c sub v s).dryer where
  accumulator := by simp [ha]
  remainder := by simp [hr]
  quiet n := absurd ht n
  state _ := onset_tripped s c sub v
  permit _ hd := by
    rw [onset_dryer s c sub v (by rw [h.1]; exact hd)]
    unfold fillCapture; split <;> rfl
  stays hd := by
    rw [onset_dryer_tripped s c sub v (by rw [h.1]; exact hd)]
    exact h.2.1

/-- A change of conditions alone is a judgement that does not trip. -/
theorem Judged.of_standing {trip : Prop} {d e : DryerUnit} (h : ¬ trip) (hs : SameStanding d e)
    (ha : e.accumulator = d.accumulator) (hr : e.remainder = d.remainder) : Judged trip d e :=
  ⟨ha, hr, fun _ => ⟨hs.1, hs.2.1, hs.2.2.1⟩, fun a => absurd a h, fun a => absurd a h, fun _ => hs.2.1⟩

/-! ## LEL_MEASURED_HIGH (R120) -/

/-- The measured LEL stands at or above the effective trip level (R120). -/
def LelHigh (s : State) (e : EffParams) : Prop := ∃ v, s.board.measuredLel = some v ∧ e.trip ≤ v

theorem judgeLelMeasured_lel {e : EffParams} (he : s.solv.eff = some e) :
    (judgeLelMeasured s).dryer.lelMeasured = true ↔ LelHigh s e := by
  unfold judgeLelMeasured LelHigh
  simp only [he]
  cases hv : s.board.measuredLel with
  | none => simp
  | some v =>
    simp only [Option.some.injEq, exists_eq_left']
    by_cases h : e.trip ≤ v
    · cases hl : s.dryer.lelMeasured <;> simp [h, hl]
    · simp [h]

@[simp] theorem judgeLelMeasured_others (s : State) :
    (judgeLelMeasured s).dryer.lelPredicted = s.dryer.lelPredicted
      ∧ (judgeLelMeasured s).dryer.exhaustLow = s.dryer.exhaustLow
      ∧ (judgeLelMeasured s).dryer.exhaustUnresponsive = s.dryer.exhaustUnresponsive
      ∧ (judgeLelMeasured s).dryer.flame = s.dryer.flame ∧ (judgeLelMeasured s).dryer.lineSilent = s.dryer.lineSilent
      ∧ ∀ r, (judgeLelMeasured s).cmds.lastValue r = s.cmds.lastValue r := by
  unfold judgeLelMeasured; repeat' split
  all_goals simp

theorem judgeLelMeasured_judged {e : EffParams} (he : s.solv.eff = some e) :
    Judged (LelHigh s e ∧ s.dryer.lelMeasured = false) s.dryer (judgeLelMeasured s).dryer := by
  unfold judgeLelMeasured LelHigh
  simp only [he]
  cases hv : s.board.measuredLel with
  | none => exact .of_standing (by simp) ⟨rfl, rfl, rfl, rfl⟩ rfl rfl
  | some v =>
    simp only [Option.some.injEq, exists_eq_left']
    split
    · rename_i h
      split
      · exact .refl (by simp_all) _
      · exact onset_judged ⟨h, by simp_all⟩ (by exact ⟨rfl, rfl, rfl, rfl⟩) (by rfl) (by rfl) _ _ _
    · next h => exact .of_standing (fun hn => h hn.1) ⟨rfl, rfl, rfl, rfl⟩ rfl rfl

/-! ## EXHAUST_LOW (R122) -/

@[simp] theorem judgeExhaustLow_others (r : Refresh) (s : State) :
    (judgeExhaustLow r s).dryer.lelMeasured = s.dryer.lelMeasured
      ∧ (judgeExhaustLow r s).dryer.lelPredicted = s.dryer.lelPredicted
      ∧ (judgeExhaustLow r s).dryer.exhaustUnresponsive = s.dryer.exhaustUnresponsive
      ∧ (judgeExhaustLow r s).dryer.flame = s.dryer.flame
      ∧ (judgeExhaustLow r s).dryer.lineSilent = s.dryer.lineSilent
      ∧ ∀ x, (judgeExhaustLow r s).cmds.lastValue x = s.cmds.lastValue x := by
  unfold judgeExhaustLow; simp only []; repeat' split
  all_goals simp

/-- What a judgement with a confirm count leaves (R119). -/
theorem confirm_fst (limit n : Nat) (c : Cond) :
    (confirm limit n c).1 = ⟨c.active || decide (limit ≤ min 50 (c.count + n)), min 50 (c.count + n)⟩ := by
  unfold confirm satAdd
  simp only []
  split
  · rename_i h; simp [h.1, h.2]
  · rename_i h
    cases hc : c.active
    · have : ¬ limit ≤ min 50 (c.count + n) := fun a => h ⟨a, hc⟩
      simp only [this, Bool.false_or, decide_false]
    · simp

/-- A judgement with a confirm count is an onset exactly when the count is reached by a condition not active (R119). -/
theorem confirm_snd (limit n : Nat) (c : Cond) :
    (confirm limit n c).2 = true ↔ limit ≤ min 50 (c.count + n) ∧ c.active = false := by
  unfold confirm satAdd
  simp only []
  split <;> simp_all

/-- The exhaust condition after its judgement in a dryer that is not FIRING (R122). -/
theorem judgeExhaustLow_idle (r : Refresh) (h : s.dryer.state ≠ .firing) :
    judgeExhaustLow r s = { s with dryer.exhaustLow := Cond.clear } := by
  simp [judgeExhaustLow, h]

/-- The circumstances in which EXHAUST_LOW has its onset (R122). -/
def ExhaustOnset (r : Refresh) (s : State) (e : EffParams) : Prop :=
  s.dryer.state = .firing ∧ s.dryer.exhaustLow.active = false
    ∧ (s.flow = none ∨ ∃ q, s.flow = some q ∧ q < e.qFloor
        ∧ s.confirmCount ≤ min 50 (s.dryer.exhaustLow.count + r.step))

theorem judgeExhaustLow_lost (r : Refresh) (h : s.dryer.state = .firing)
    (hq : s.flow = none) : (judgeExhaustLow r s).dryer.exhaustLow = ⟨true, 0⟩ := by
  unfold judgeExhaustLow
  rw [if_neg (Classical.not_not.2 h)]
  simp only [hq]
  split <;> simp

theorem judgeExhaustLow_flow {e : EffParams} (he : s.solv.eff = some e) (r : Refresh) (h : s.dryer.state = .firing)
    {q : Nat} (hq : s.flow = some q) :
    (judgeExhaustLow r s).dryer.exhaustLow =
      if q < e.qFloor then (confirm s.confirmCount r.step s.dryer.exhaustLow).1 else Cond.clear := by
  unfold judgeExhaustLow
  rw [if_neg (Classical.not_not.2 h)]
  simp only [he, hq]
  split
  · split <;> simp
  · rfl

theorem judgeExhaustLow_judged {e : EffParams} (he : s.solv.eff = some e) (r : Refresh) :
    Judged (ExhaustOnset r s e) s.dryer (judgeExhaustLow r s).dryer := by
  by_cases h : s.dryer.state = .firing
  · unfold judgeExhaustLow ExhaustOnset
    rw [if_neg (Classical.not_not.2 h)]
    simp only [he]
    split
    · split
      · exact .of_standing (by simp_all) ⟨rfl, rfl, rfl, rfl⟩ rfl rfl
      · exact onset_judged (by simp_all) (by exact ⟨rfl, rfl, rfl, rfl⟩) (by rfl) (by rfl) _ _ _
    · split
      · split
        · rename_i hc
          obtain ⟨h1, h2⟩ := (confirm_snd _ _ _).1 hc
          exact onset_judged ⟨h, h2, .inr ⟨_, by assumption, by assumption, h1⟩⟩ (by exact ⟨rfl, rfl, rfl, rfl⟩) (by rfl) (by rfl) _ _ _
        · rename_i hc
          rw [confirm_snd] at hc
          refine .of_standing ?_ ⟨rfl, rfl, rfl, rfl⟩ rfl rfl
          rintro ⟨_, h2, h3 | ⟨q, _, _, h3⟩⟩
          · simp_all
          · exact hc ⟨h3, h2⟩
      · rename_i hq hn
        refine .of_standing ?_ ⟨rfl, rfl, rfl, rfl⟩ rfl rfl
        rintro ⟨_, _, h3 | ⟨q, h3, h4, _⟩⟩
        · simp [hq] at h3
        · rw [hq] at h3
          cases h3
          exact hn h4
  · rw [judgeExhaustLow_idle r h]
    exact .of_standing (fun a => h a.1) ⟨rfl, rfl, rfl, rfl⟩ rfl rfl

/-! ## FLAME_WITHOUT_ENABLE (R124) -/

theorem judgeFlame_flame_ne (r : Refresh) {j k : Zone} (h : j ≠ k) (s : State) :
    (judgeFlame r s k).dryer.flame.get j = s.dryer.flame.get j := by
  unfold judgeFlame; simp only []; repeat' split
  all_goals simp [Four.get_set_ne _ _ h]

@[simp] theorem judgeFlame_others (r : Refresh) (k : Zone) (s : State) :
    (judgeFlame r s k).dryer.lelMeasured = s.dryer.lelMeasured
      ∧ (judgeFlame r s k).dryer.lelPredicted = s.dryer.lelPredicted
      ∧ (judgeFlame r s k).dryer.exhaustLow = s.dryer.exhaustLow
      ∧ (judgeFlame r s k).dryer.exhaustUnresponsive = s.dryer.exhaustUnresponsive
      ∧ (judgeFlame r s k).dryer.lineSilent = s.dryer.lineSilent
      ∧ ∀ x, (judgeFlame r s k).cmds.lastValue x = s.cmds.lastValue x := by
  unfold judgeFlame; simp only []; repeat' split
  all_goals simp

/-- The circumstances in which FLAME_WITHOUT_ENABLE has its onset for a zone (R124). -/
def FlameOnset (r : Refresh) (s : State) (k : Zone) : Prop :=
  s.board.fresh (.zoneFlame k) = some 1 ∧ burnerEnable k s = false ∧ (s.dryer.flame.get k).active = false
    ∧ s.confirmCount ≤ min 50 ((s.dryer.flame.get k).count + r.step)

/-- A zone's flame condition after its judgement (R124). -/
theorem judgeFlame_unread (r : Refresh) {k : Zone} (hv : s.board.fresh (.zoneFlame k) = none) :
    (judgeFlame r s k).dryer.flame.get k = { s.dryer.flame.get k with count := 0 } := by
  simp [judgeFlame, hv]

theorem judgeFlame_read (r : Refresh) {k : Zone} {v : Int} (hv : s.board.fresh (.zoneFlame k) = some v) :
    (judgeFlame r s k).dryer.flame.get k =
      if v = 1 ∧ burnerEnable k s = false then (confirm s.confirmCount r.step (s.dryer.flame.get k)).1
      else Cond.clear := by
  unfold judgeFlame
  simp only [hv]
  split
  · split <;> simp
  · simp

theorem judgeFlame_judged (r : Refresh) (k : Zone) (s : State) :
    Judged (FlameOnset r s k) s.dryer (judgeFlame r s k).dryer := by
  unfold judgeFlame FlameOnset
  cases hv : s.board.fresh (.zoneFlame k) with
  | none => exact .of_standing (by simp) ⟨rfl, rfl, rfl, rfl⟩ rfl rfl
  | some v =>
    simp only [Option.some.injEq]
    split
    · rename_i hb
      split
      · rename_i hc
        obtain ⟨h1, h2⟩ := (confirm_snd _ _ _).1 hc
        exact onset_judged ⟨hb.1, hb.2, h2, h1⟩ (by exact ⟨rfl, rfl, rfl, rfl⟩) (by rfl) (by rfl) _ _ _
      · rename_i hc
        rw [confirm_snd] at hc
        exact .of_standing (fun a => hc ⟨a.2.2.2, a.2.2.1⟩) ⟨rfl, rfl, rfl, rfl⟩ rfl rfl
    · rename_i hb
      exact .of_standing (fun a => hb ⟨a.1, a.2.1⟩) ⟨rfl, rfl, rfl, rfl⟩ rfl rfl

/-- An onset for a zone leaves its condition active. -/
theorem FlameOnset.active {r : Refresh} {k : Zone} (h : FlameOnset r s k) :
    ((judgeFlame r s k).dryer.flame.get k).active = true := by
  obtain ⟨h1, h2, h3, h4⟩ := h
  rw [judgeFlame_read r h1]
  simp [h2, confirm_fst, h4]

/-- The flames of several zones judged in turn: what stays, and that a trip leaves a zone's condition active. -/
theorem flames_judged (r : Refresh) (ks : List Zone) (hn : ks.Nodup) (s : State) :
    let u := ks.foldl (judgeFlame r) s
    (∃ trip, Judged trip s.dryer u.dryer ∧ (trip → ∃ k ∈ ks, (u.dryer.flame.get k).active = true))
      ∧ (∀ k, k ∉ ks → u.dryer.flame.get k = s.dryer.flame.get k)
      ∧ u.dryer.lelMeasured = s.dryer.lelMeasured ∧ u.dryer.lelPredicted = s.dryer.lelPredicted
      ∧ u.dryer.exhaustLow = s.dryer.exhaustLow ∧ u.dryer.exhaustUnresponsive = s.dryer.exhaustUnresponsive
      ∧ u.dryer.lineSilent = s.dryer.lineSilent ∧ ∀ x, u.cmds.lastValue x = s.cmds.lastValue x := by
  induction ks generalizing s with
  | nil => exact ⟨⟨False, .refl id _, False.elim⟩, by simp⟩
  | cons k ks ih =>
    obtain ⟨hk, hn⟩ := List.nodup_cons.1 hn
    obtain ⟨⟨trip, hj, ht⟩, hf, h1, h2, h3, h4, h5, h6⟩ := ih hn (judgeFlame r s k)
    refine ⟨⟨FlameOnset r s k ∨ trip, (judgeFlame_judged r k s).trans hj, ?_⟩, ?_, by simpa using h1, by simpa using h2,
      by simpa using h3, by simpa using h4, by simpa using h5, by simpa using h6⟩
    · rintro (ho | ho)
      · refine ⟨k, by simp, ?_⟩
        simp only [List.foldl_cons]
        rw [hf k hk]
        exact ho.active
      · obtain ⟨j, hj, ha⟩ := ht ho
        exact ⟨j, by simp [hj], ha⟩
    · intro j hj
      simp only [List.mem_cons, not_or] at hj
      simp only [List.foldl_cons]
      rw [hf j hj.2, judgeFlame_flame_ne r hj.1]

/-- One zone of several: its condition is judged once, on a state with the board, the commissioning, the last forwarded
values and the zone's condition as they stood, the dryer as it was or TRIPPED; and a trip there lasts. -/
theorem flame_of_flames (r : Refresh) (ks : List Zone) (hn : ks.Nodup) (s : State) {k : Zone} (hk : k ∈ ks) :
    ∃ u : State, u.board = s.board ∧ u.comm = s.comm ∧ (∀ x, u.cmds.lastValue x = s.cmds.lastValue x)
      ∧ u.dryer.flame.get k = s.dryer.flame.get k ∧ (u.dryer.state = s.dryer.state ∨ u.dryer.state = .tripped)
      ∧ (ks.foldl (judgeFlame r) s).dryer.flame.get k = (judgeFlame r u k).dryer.flame.get k
      ∧ (FlameOnset r u k ∨ u.dryer.state = .tripped → (ks.foldl (judgeFlame r) s).dryer.state = .tripped) := by
  induction ks generalizing s with
  | nil => cases hk
  | cons j ks ih =>
    obtain ⟨hj, hks⟩ := List.nodup_cons.1 hn
    by_cases h : k = j
    · subst h
      obtain ⟨⟨trip, hjd, _⟩, hf, _⟩ := flames_judged r ks hks (judgeFlame r s k)
      refine ⟨s, rfl, rfl, fun _ => rfl, rfl, .inl rfl, hf k hj, fun ho => ?_⟩
      refine hjd.tripped ?_
      rcases ho with ho | ho
      · exact (judgeFlame_judged r k s).state ho
      · exact (judgeFlame_judged r k s).tripped ho
    · obtain ⟨u, h1, h2, h3, h4, h5, h6, h7⟩ := ih hks (judgeFlame r s j) ((List.mem_cons.1 hk).resolve_left h)
      refine ⟨u, by simpa using h1, by simpa using h2, by simpa using h3, ?_, ?_, h6, h7⟩
      · rw [h4, judgeFlame_flame_ne r h]
      · rcases h5 with h5 | h5
        · by_cases ho : FlameOnset r s j
          · exact .inr (h5.trans ((judgeFlame_judged r j s).state ho))
          · exact .inl (h5.trans ((judgeFlame_judged r j s).quiet ho).1)
        · exact .inr h5

end Sys2Proof.Machine
end

section
/-! PROOF. The Dryer Safety Unit's whole reaction to a refresh (R118, R129, R132). -/

namespace Sys2Proof.Machine

variable {s : State}

/-! ## Readings of the board -/

/-- A GOOD value is the current one (R25). -/
theorem Board.fresh_eq (b : Board) (r : Role) : b.fresh r = if b.quality r = .good then b.current r else none := by
  unfold Board.fresh Board.quality Board.current
  cases b.rec? r with
  | none => simp
  | some x => cases hq : x.quality <;> simp [hq]

theorem Board.current_of_fresh {b : Board} {r : Role} {v : Int} (h : b.fresh r = some v) : b.current r = some v := by
  rw [Board.fresh_eq] at h
  split at h
  · exact h
  · cases h

theorem Board.quality_of_fresh {b : Board} {r : Role} {v : Int} (h : b.fresh r = some v) : b.quality r = .good := by
  rw [Board.fresh_eq] at h
  split at h
  · assumption
  · cases h

theorem flow_none : s.flow = none ↔ s.board.current .exhaustFlow = none := by
  simp [State.flow, natOf]

theorem flow_of_current {q : Int} (h : s.board.current .exhaustFlow = some q) : s.flow = some q.toNat := by
  simp [State.flow, natOf, h]

/-! ## The purge (R129) -/

/-- What throws a running purge back (R129). -/
def PurgeThrown (c : Scalars) (s : State) : Prop :=
  (∃ k ∈ s.flameZones, s.board.current (.zoneFlame k) = some 1) ∨ s.board.current .exhaustFlow = none
    ∨ ∃ q, s.board.fresh .exhaustFlow = some q ∧ q.toNat < c.purgeMin

/-- What makes a running purge pause (R129). -/
def PurgePaused (r : Refresh) (s : State) : Prop :=
  r.regular = false ∨ s.board.fresh .exhaustFlow = none ∨ ∃ k ∈ s.flameZones, s.board.fresh (.zoneFlame k) ≠ some 0

theorem anyFlame_iff (b : Board) (ks : List Zone) :
    anyFlame b ks = true ↔ ∃ k ∈ ks, b.current (.zoneFlame k) = some 1 := by simp [anyFlame]

theorem allFlamesOut_iff (b : Board) (ks : List Zone) :
    allFlamesOut b ks = true ↔ ∀ k ∈ ks, b.fresh (.zoneFlame k) = some 0 := by simp [allFlamesOut]

theorem allFlamesOut_false (b : Board) (ks : List Zone) :
    allFlamesOut b ks = false ↔ ∃ k ∈ ks, b.fresh (.zoneFlame k) ≠ some 0 := by
  rw [← Bool.not_eq_true, allFlamesOut_iff]; simp only [Classical.not_forall, exists_prop, ne_eq]

theorem purgeCase_thrown {c : Scalars} {r : Refresh} (h : PurgeThrown c s) : purgeCase c r s = .reset := by
  unfold purgeCase
  by_cases hf : anyFlame s.board s.flameZones = true
  · rw [if_pos hf]
  · rw [if_neg hf]
    rcases h with h | h | ⟨q, hq, hlt⟩
    · exact absurd ((anyFlame_iff _ _).2 h) hf
    · rw [flow_none.2 h]
    · rw [flow_of_current (Board.current_of_fresh hq)]
      simp only []
      rw [if_pos ⟨Board.quality_of_fresh hq, hlt⟩]

theorem purgeCase_paused {c : Scalars} {r : Refresh} (h : ¬ PurgeThrown c s) (hp : PurgePaused r s) :
    purgeCase c r s = .pause := by
  obtain ⟨h1, h2, h3⟩ : ¬ _ ∧ ¬ _ ∧ ¬ _ := by simpa only [PurgeThrown, not_or] using h
  unfold purgeCase
  rw [if_neg (by rwa [anyFlame_iff])]
  obtain ⟨q, hq⟩ := Option.ne_none_iff_exists'.1 h2
  rw [flow_of_current hq]
  simp only []
  rw [if_neg fun a => h3 ⟨q, by rw [Board.fresh_eq, if_pos a.1]; exact hq, a.2⟩]
  rcases hp with hp | hp | hp
  · rw [if_pos hp]
  · rw [Board.fresh_eq] at hp
    split at hp
    · rw [hp] at hq; cases hq
    · rename_i hg; rw [if_pos hg, ite_self]
  · rw [if_pos ((allFlamesOut_false _ _).2 hp)]; simp

theorem purgeCase_counts {c : Scalars} {r : Refresh} {q : Int} (h : ¬ PurgeThrown c s) (hp : ¬ PurgePaused r s)
    (hq : s.board.fresh .exhaustFlow = some q) : purgeCase c r s = .count q.toNat := by
  obtain ⟨h1, h2, h3⟩ : ¬ _ ∧ ¬ _ ∧ ¬ _ := by simpa only [PurgeThrown, not_or] using h
  obtain ⟨p1, p2, p3⟩ : ¬ _ ∧ ¬ _ ∧ ¬ _ := by simpa only [PurgePaused, not_or] using hp
  unfold purgeCase
  rw [if_neg (by rwa [anyFlame_iff]), flow_of_current (Board.current_of_fresh hq)]
  simp only []
  rw [if_neg fun a => h3 ⟨q, hq, a.2⟩, if_neg p1, if_neg (Classical.not_not.2 (Board.quality_of_fresh hq)),
    if_neg (by rwa [allFlamesOut_false])]

/-! ## The last two steps leave the conditions (R118) -/

@[simp] theorem purgeStep_conditions (r : Refresh) (s : State) :
    (purgeStep r s).dryer.lelMeasured = s.dryer.lelMeasured
      ∧ (purgeStep r s).dryer.lelPredicted = s.dryer.lelPredicted
      ∧ (purgeStep r s).dryer.exhaustLow = s.dryer.exhaustLow
      ∧ (purgeStep r s).dryer.exhaustUnresponsive = s.dryer.exhaustUnresponsive
      ∧ (purgeStep r s).dryer.flame = s.dryer.flame ∧ (purgeStep r s).dryer.lineSilent = s.dryer.lineSilent := by
  unfold purgeStep judgePurge
  repeat' split
  all_goals simp only []; try split
  all_goals simp [purgeDone, creditPurge]

@[simp] theorem judgeFlameChange_conditions (s : State) :
    (judgeFlameChange s).dryer.lelMeasured = s.dryer.lelMeasured
      ∧ (judgeFlameChange s).dryer.lelPredicted = s.dryer.lelPredicted
      ∧ (judgeFlameChange s).dryer.exhaustLow = s.dryer.exhaustLow
      ∧ (judgeFlameChange s).dryer.exhaustUnresponsive = s.dryer.exhaustUnresponsive
      ∧ (judgeFlameChange s).dryer.flame = s.dryer.flame
      ∧ (judgeFlameChange s).dryer.lineSilent = s.dryer.lineSilent
      ∧ (judgeFlameChange s).dryer.accumulator = s.dryer.accumulator
      ∧ (judgeFlameChange s).dryer.remainder = s.dryer.remainder := by
  unfold judgeFlameChange
  repeat' split
  all_goals simp only []; try split
  all_goals simp

theorem purgeStep_idle (r : Refresh) (h : s.dryer.state ≠ .purging) : purgeStep r s = s := by simp [purgeStep, h]

/-- What the purge step does to a PURGING dryer (R129, R131). -/
theorem purgeStep_thrown {c : Scalars} (r : Refresh) (h : s.dryer.state = .purging) (hc : s.scalars? = some c)
    (ht : PurgeThrown c s) : purgeStep r s = { s with dryer.accumulator := 0, dryer.remainder := 0 } := by
  rw [purgeStep, if_pos h, judgePurge, hc]
  simp only [purgeCase_thrown ht]

theorem purgeStep_paused {c : Scalars} {r : Refresh} (h : s.dryer.state = .purging) (hc : s.scalars? = some c)
    (ht : ¬ PurgeThrown c s) (hp : PurgePaused r s) : purgeStep r s = s := by
  rw [purgeStep, if_pos h, judgePurge, hc]
  simp only [purgeCase_paused ht hp]

theorem purgeStep_counts {c : Scalars} {r : Refresh} {q : Int} (h : s.dryer.state = .purging) (hc : s.scalars? = some c)
    (ht : ¬ PurgeThrown c s) (hp : ¬ PurgePaused r s) (hq : s.board.fresh .exhaustFlow = some q) :
    (purgeStep r s).dryer =
      if requiredVolume c ≤ (creditPurge c q.toNat s.dryer).accumulator then
        { creditPurge c q.toNat s.dryer with
          state := .purged, permit := true, hold := some (s.now + 1000000 * c.purgeHold) }
      else creditPurge c q.toNat s.dryer := by
  rw [purgeStep, if_pos h, judgePurge, hc]
  simp only [purgeCase_counts ht hp hq]
  split
  · simp only [purgeDone, offer_frame, setDryer_dryer, State.after, setDryer_frame, DryerState.burning]
    congr 2
    omega
  · rfl

end Sys2Proof.Machine
end

section
/-! PROOF. The dryer's reaction to a refresh as a whole, and O60. -/

namespace Sys2Proof.Machine

variable {s t : State} {r : Refresh} {w : Scalars} {e : EffParams}

/-- The state with every condition judged, before the purge and the flame changes (R118 steps 1 to 3). -/
def conditionsJudged (r : Refresh) (s : State) : State := refreshConditions r (clearPredicted (clearLineSilent r s))

theorem commissioned_of_scalars (hc : s.scalars? = some w) : s.commissioned = true := by
  unfold State.scalars? at hc
  unfold State.commissioned
  cases h : s.comm.inForce with
  | none => simp [h] at hc
  | some x => rfl

theorem dryerReaction_eq (hc : s.scalars? = some w) :
    dryerReaction r s = judgeFlameChange (purgeStep r (conditionsJudged r s)) := by
  rw [dryerReaction, if_pos (commissioned_of_scalars hc)]
  rfl

@[simp] theorem conditionsJudged_frame :
    (conditionsJudged r s).now = s.now ∧ (conditionsJudged r s).comm = s.comm ∧ (conditionsJudged r s).board = s.board
      ∧ (conditionsJudged r s).solv = s.solv := by
  simp [conditionsJudged]

theorem flameZones_of_comm (h : t.comm = s.comm) : t.flameZones = s.flameZones := by
  unfold State.flameZones State.zones
  rw [map_of_comm h, (counts_of_comm h).1]

theorem confirmCount_of_comm (h : t.comm = s.comm) : t.confirmCount = s.confirmCount := by
  unfold State.confirmCount
  rw [scalars_of_comm h]

theorem flameZones_nodup (s : State) : s.flameZones.Nodup :=
  ((by decide : zoneNumbers.Nodup).filter _).filter _

/-- The two clearings that stand before every judgement (R118 steps 1 and 2). -/
def cleared (r : Refresh) (s : State) : State := clearPredicted (clearLineSilent r s)

@[simp] theorem cleared_frame :
    (cleared r s).comm = s.comm ∧ (cleared r s).board = s.board ∧ (cleared r s).solv = s.solv
      ∧ (cleared r s).cmds = s.cmds := by
  simp [cleared]

theorem cleared_dryer : (cleared r s).dryer =
    { s.dryer with
      lineSilent := s.dryer.lineSilent && decide (r.line ≠ .online)
      lelPredicted := if s.solv.publication = none then Cond.clear else s.dryer.lelPredicted } := by
  have h1 : (clearLineSilent r s).dryer =
      { s.dryer with lineSilent := s.dryer.lineSilent && decide (r.line ≠ .online) } := by
    unfold clearLineSilent
    by_cases h : r.line = .online <;> simp [h]
  unfold cleared clearPredicted
  rw [(by simp : (clearLineSilent r s).solv = s.solv)]
  cases s.solv.publication <;> simp [h1]

/-- The state as the flame judgements find it. -/
def beforeFlames (r : Refresh) (s : State) : State := judgeExhaustLow r (judgeLelMeasured (cleared r s))

@[simp] theorem beforeFlames_frame :
    (beforeFlames r s).comm = s.comm ∧ (beforeFlames r s).board = s.board ∧ (beforeFlames r s).solv = s.solv
      ∧ ∀ x, (beforeFlames r s).cmds.lastValue x = s.cmds.lastValue x := by
  simp [beforeFlames]

theorem conditionsJudged_eq (r : Refresh) (s : State) :
    conditionsJudged r s = s.flameZones.foldl (judgeFlame r) (beforeFlames r s) := by
  unfold conditionsJudged refreshConditions
  rw [flameZones_of_comm (s := s) (by simp)]
  rfl

/-- LEL_MEASURED_HIGH has its onset at this refresh (R120). -/
def LelOnset (s : State) (e : EffParams) : Prop := LelHigh s e ∧ s.dryer.lelMeasured = false

theorem measured_judged (he : s.solv.eff = some e) :
    Judged (LelOnset s e) s.dryer (judgeLelMeasured (cleared r s)).dryer := by
  have h := judgeLelMeasured_judged (s := cleared r s) (e := e) (by simp [he])
  simp only [LelHigh, cleared_frame, cleared_dryer] at h
  exact ⟨h.accumulator, h.remainder, h.quiet, h.state, h.permit, h.stays⟩

theorem beforeFlames_judged (he : s.solv.eff = some e) :
    Judged (LelOnset s e ∨ ExhaustOnset r (judgeLelMeasured (cleared r s)) e) s.dryer (beforeFlames r s).dryer :=
  (measured_judged he).trans (judgeExhaustLow_judged (by simp [he]) r)

theorem beforeFlames_dryer (he : s.solv.eff = some e) :
    ((beforeFlames r s).dryer.lelMeasured = true ↔ LelHigh s e)
      ∧ (beforeFlames r s).dryer.lelPredicted
          = (if s.solv.publication = none then Cond.clear else s.dryer.lelPredicted)
      ∧ (beforeFlames r s).dryer.lineSilent = (s.dryer.lineSilent && decide (r.line ≠ .online))
      ∧ (beforeFlames r s).dryer.exhaustUnresponsive = s.dryer.exhaustUnresponsive
      ∧ (beforeFlames r s).dryer.flame = s.dryer.flame := by
  have h := judgeLelMeasured_lel (s := cleared r s) (e := e) (by simp [he])
  simp only [LelHigh, cleared_frame] at h
  simp [beforeFlames, cleared_dryer, h, LelHigh]

/-- EXHAUST_LOW outside FIRING, or where LEL_MEASURED_HIGH has tripped (R122). -/
theorem beforeFlames_exhaust_idle (he : s.solv.eff = some e) (h : s.dryer.state ≠ .firing ∨ LelOnset s e) :
    (beforeFlames r s).dryer.exhaustLow = Cond.clear := by
  have hj := measured_judged (r := r) he
  have hf : (judgeLelMeasured (cleared r s)).dryer.state ≠ .firing := by
    by_cases hl : LelOnset s e
    · rw [hj.state hl]; decide
    · rw [(hj.quiet hl).1]; exact h.resolve_right hl
  rw [beforeFlames, judgeExhaustLow_idle r hf]

/-- The state in which EXHAUST_LOW is judged, where LEL_MEASURED_HIGH has not tripped. -/
theorem measured_standing (hc : s.scalars? = some w) (he : s.solv.eff = some e) (hl : ¬ LelOnset s e) :
    let u := judgeLelMeasured (cleared r s)
    u.dryer.state = s.dryer.state ∧ u.confirmCount = w.confirm ∧ u.flow = s.flow
      ∧ u.dryer.exhaustLow = s.dryer.exhaustLow ∧ u.solv.eff = some e := by
  refine ⟨((measured_judged he).quiet hl).1, ?_, by simp [State.flow], by simp [cleared_dryer], by simp [he]⟩
  rw [confirmCount_of_comm (s := s) (by simp), State.confirmCount, hc]

/-- EXHAUST_LOW in FIRING (R122). -/
theorem beforeFlames_exhaust_lost (hc : s.scalars? = some w) (he : s.solv.eff = some e) (h : s.dryer.state = .firing)
    (hl : ¬ LelOnset s e) (hq : s.flow = none) : (beforeFlames r s).dryer.exhaustLow = ⟨true, 0⟩ := by
  obtain ⟨h1, -, h3, -⟩ := measured_standing (r := r) hc he hl
  exact judgeExhaustLow_lost r (h1.trans h) (h3.trans hq)

theorem beforeFlames_exhaust_flow (hc : s.scalars? = some w) (he : s.solv.eff = some e) (h : s.dryer.state = .firing)
    (hl : ¬ LelOnset s e) {q : Nat} (hq : s.flow = some q) :
    (beforeFlames r s).dryer.exhaustLow =
      if q < e.qFloor then (confirm w.confirm r.step s.dryer.exhaustLow).1 else Cond.clear := by
  obtain ⟨h1, h2, h3, h4, h5⟩ := measured_standing (r := r) hc he hl
  rw [beforeFlames, judgeExhaustLow_flow h5 r (h1.trans h) (h3.trans hq), h2, h4]

/-- The onset of EXHAUST_LOW, said of the state at the refresh. -/
theorem exhaustOnset_iff (hc : s.scalars? = some w) (he : s.solv.eff = some e) (h : s.dryer.state = .firing)
    (hl : ¬ LelOnset s e) :
    ExhaustOnset r (judgeLelMeasured (cleared r s)) e ↔
      s.dryer.exhaustLow.active = false ∧ (s.flow = none ∨ ∃ q, s.flow = some q ∧ q < e.qFloor
        ∧ w.confirm ≤ min 50 (s.dryer.exhaustLow.count + r.step)) := by
  obtain ⟨h1, h2, h3, h4, -⟩ := measured_standing (r := r) hc he hl
  simp only [ExhaustOnset, h1, h2, h3, h4, h, true_and]

/-! ## All conditions judged -/

theorem conditionsJudged_dryer (he : s.solv.eff = some e) :
    ((conditionsJudged r s).dryer.lelMeasured = true ↔ LelHigh s e)
      ∧ (conditionsJudged r s).dryer.lelPredicted
          = (if s.solv.publication = none then Cond.clear else s.dryer.lelPredicted)
      ∧ (conditionsJudged r s).dryer.lineSilent = (s.dryer.lineSilent && decide (r.line ≠ .online))
      ∧ (conditionsJudged r s).dryer.exhaustUnresponsive = s.dryer.exhaustUnresponsive
      ∧ (conditionsJudged r s).dryer.exhaustLow = (beforeFlames r s).dryer.exhaustLow
      ∧ ∀ k, k ∉ s.flameZones → (conditionsJudged r s).dryer.flame.get k = s.dryer.flame.get k := by
  obtain ⟨-, hf, h1, h2, h3, h4, h5, -⟩ := flames_judged r _ (flameZones_nodup s) (beforeFlames r s)
  obtain ⟨g1, g2, g3, g4, g5⟩ := beforeFlames_dryer (r := r) he
  rw [conditionsJudged_eq, h1, h2, h3, h4, h5]
  exact ⟨g1, g2, g3, g4, rfl, fun k hk => by rw [hf k hk, g5]⟩

/-- What trips the dryer while the conditions are judged, each in its place (R118 step 3). -/
theorem conditionsJudged_judged (hc : s.scalars? = some w) (he : s.solv.eff = some e) :
    ∃ trip, Judged trip s.dryer (conditionsJudged r s).dryer ∧ (LelOnset s e → trip)
      ∧ (ExhaustOnset r (judgeLelMeasured (cleared r s)) e → trip)
      ∧ (trip → AnyActive (conditionsJudged r s).dryer) := by
  obtain ⟨⟨trip, hj, ha⟩, hf, h1, h2, h3, h4, h5, -⟩ := flames_judged r _ (flameZones_nodup s) (beforeFlames r s)
  refine ⟨_, (beforeFlames_judged he).trans (conditionsJudged_eq r s ▸ hj), fun h => .inl (.inl h), fun h => .inl (.inr h), ?_⟩
  rw [conditionsJudged_eq]
  rintro ((hl | hx) | ht)
  · refine .inl ?_
    rw [h1]
    exact (beforeFlames_dryer he).1.2 hl.1
  · by_cases hl : LelOnset s e
    · refine .inl ?_
      rw [h1]
      exact (beforeFlames_dryer he).1.2 hl.1
    · have hs : s.dryer.state = .firing := (((measured_judged he).quiet hl).1).symm.trans hx.1
      refine .inr (.inr (.inl ?_))
      rw [h3]
      obtain ⟨-, hq | ⟨q, hq, hlt, hn⟩⟩ := (exhaustOnset_iff hc he hs hl).1 hx
      · rw [beforeFlames_exhaust_lost hc he hs hl hq]
      · simp [beforeFlames_exhaust_flow hc he hs hl hq, hlt, confirm_fst, hn]
  · obtain ⟨k, -, hk⟩ := ha ht
    exact .inr (.inr (.inr (.inr (.inl ⟨k, hk⟩))))

/-- A mapped flame's condition, judged (R124): by the enable last forwarded, and where no enable is mapped by the dryer
state, as it stood or TRIPPED. -/
theorem conditionsJudged_flame (hc : s.scalars? = some w) (he : s.solv.eff = some e) {k : Zone} (hk : k ∈ s.flameZones) :
    ∃ b : Bool, (commandEntry s.map (.zoneBurnerEn k) ≠ none → b = decide (s.cmds.lastValue (.zoneBurnerEn k) = some 1))
      ∧ (commandEntry s.map (.zoneBurnerEn k) = none → b = s.dryer.state.burning
          ∨ b = false ∧ (conditionsJudged r s).dryer.state = .tripped)
      ∧ (s.board.fresh (.zoneFlame k) = none →
          (conditionsJudged r s).dryer.flame.get k = { s.dryer.flame.get k with count := 0 })
      ∧ (∀ v, s.board.fresh (.zoneFlame k) = some v → (conditionsJudged r s).dryer.flame.get k =
          if v = 1 ∧ b = false then (confirm w.confirm r.step (s.dryer.flame.get k)).1 else Cond.clear)
      ∧ (s.board.fresh (.zoneFlame k) = some 1 → b = false → (s.dryer.flame.get k).active = false →
          w.confirm ≤ min 50 ((s.dryer.flame.get k).count + r.step) → (conditionsJudged r s).dryer.state = .tripped) := by
  obtain ⟨u, h1, h2, h3, h4, h5, h6, h7⟩ := flame_of_flames r _ (flameZones_nodup s) (beforeFlames r s) hk
  rw [← conditionsJudged_eq] at h6 h7
  obtain ⟨b1, b2, -, b4⟩ := beforeFlames_frame (r := r) (s := s)
  have hm : u.map = s.map := map_of_comm (h2.trans b1)
  have hw : u.confirmCount = w.confirm := by
    rw [confirmCount_of_comm (h2.trans b1), State.confirmCount, hc]
  have hb : u.board = s.board := h1.trans b2
  have hfl : u.dryer.flame.get k = s.dryer.flame.get k := by rw [h4, (beforeFlames_dryer he).2.2.2.2]
  refine ⟨burnerEnable k u, fun hn => ?_, fun hn => ?_, fun hv => ?_, fun v hv => ?_, fun hv hbe ha hn => ?_⟩
  · rw [burnerEnable, hm, if_pos (Option.isSome_iff_ne_none.2 hn), h3, b4]
  · rw [burnerEnable, hm, if_neg (by simp [hn])]
    by_cases hu : u.dryer.state = .tripped
    · exact .inr ⟨by rw [hu]; rfl, h7 (.inr hu)⟩
    · refine .inl ?_
      rw [h5.resolve_right hu, ((beforeFlames_judged he).not_tripped (h5.resolve_right hu ▸ hu)).2.1]
  · rw [h6, judgeFlame_unread r (by rwa [hb]), hfl]
  · rw [h6, judgeFlame_read r (by rwa [hb]), hfl, hw]
  · exact h7 (.inl ⟨by rw [hb]; exact hv, hbe, by rw [hfl]; exact ha, by rw [hw, hfl]; exact hn⟩)

end Sys2Proof.Machine
end

section
/-! PROOF. The purge and the flame changes after the conditions are judged (R118 steps 4 and 5), and O60. -/

namespace Sys2Proof.Machine

variable {s t u : State} {r : Refresh} {w : Scalars} {e : EffParams}

/-! ## The flame changes (R132) -/

theorem judgeFlameChange_idle (h1 : s.dryer.state ≠ .purged) (h2 : s.dryer.state ≠ .firing) : judgeFlameChange s = s := by
  unfold judgeFlameChange
  cases h : s.dryer.state <;> simp_all

theorem anyFresh_iff (s : State) :
    (s.flameZones.any fun k => decide (s.board.fresh (.zoneFlame k) = some 1)) = true
      ↔ ∃ k ∈ s.flameZones, s.board.fresh (.zoneFlame k) = some 1 := by
  simp only [List.any_eq_true, decide_eq_true_eq]

theorem judgeFlameChange_lit (h : s.dryer.state = .purged)
    (hf : ∃ k ∈ s.flameZones, s.board.fresh (.zoneFlame k) = some 1) :
    (judgeFlameChange s).dryer.state = .firing ∧ (judgeFlameChange s).dryer.permit = true
      ∧ (judgeFlameChange s).dryer.hold = none := by
  unfold judgeFlameChange
  simp only [h, if_pos ((anyFresh_iff s).2 hf)]
  simp [DryerState.burning]

theorem judgeFlameChange_unlit (h : s.dryer.state = .purged)
    (hf : ∀ k ∈ s.flameZones, s.board.fresh (.zoneFlame k) ≠ some 1) : judgeFlameChange s = s := by
  unfold judgeFlameChange
  simp only [h]
  rw [if_neg]
  rw [anyFresh_iff]
  rintro ⟨k, hk, hv⟩
  exact hf k hk hv

theorem judgeFlameChange_out (h : s.dryer.state = .firing) (hc : s.scalars? = some w)
    (hf : ∀ k ∈ s.flameZones, s.board.fresh (.zoneFlame k) = some 0) :
    (judgeFlameChange s).dryer.state = .purged ∧ (judgeFlameChange s).dryer.permit = true
      ∧ (judgeFlameChange s).dryer.hold = some (s.now + 1000000 * w.purgeHold) := by
  unfold judgeFlameChange
  simp only [h, if_pos ((allFlamesOut_iff _ _).2 hf), hc]
  simp [DryerState.burning, State.after]
  omega

theorem judgeFlameChange_burning (h : s.dryer.state = .firing)
    (hf : ∃ k ∈ s.flameZones, s.board.fresh (.zoneFlame k) ≠ some 0) : judgeFlameChange s = s := by
  unfold judgeFlameChange
  simp only [h]
  rw [if_neg]
  rw [allFlamesOut_iff]
  intro ha
  obtain ⟨k, hk, hv⟩ := hf
  exact hv (ha k hk)

/-! ## Both steps, by the state that the judgements leave -/

/-- Steps 4 and 5 of R118. -/
def purgeAndFlames (r : Refresh) (s : State) : State := judgeFlameChange (purgeStep r s)

@[simp] theorem purgeAndFlames_conditions (r : Refresh) (s : State) :
    (purgeAndFlames r s).dryer.lelMeasured = s.dryer.lelMeasured
      ∧ (purgeAndFlames r s).dryer.lelPredicted = s.dryer.lelPredicted
      ∧ (purgeAndFlames r s).dryer.exhaustLow = s.dryer.exhaustLow
      ∧ (purgeAndFlames r s).dryer.exhaustUnresponsive = s.dryer.exhaustUnresponsive
      ∧ (purgeAndFlames r s).dryer.flame = s.dryer.flame
      ∧ (purgeAndFlames r s).dryer.lineSilent = s.dryer.lineSilent := by
  simp [purgeAndFlames]

theorem purgeAndFlames_idle (h1 : s.dryer.state ≠ .purging) (h2 : s.dryer.state ≠ .purged)
    (h3 : s.dryer.state ≠ .firing) : purgeAndFlames r s = s := by
  rw [purgeAndFlames, purgeStep_idle r h1, judgeFlameChange_idle h2 h3]

theorem purgeAndFlames_of_not_purging (h : s.dryer.state ≠ .purging) : purgeAndFlames r s = judgeFlameChange s := by
  rw [purgeAndFlames, purgeStep_idle r h]

theorem purgeAndFlames_thrown (h : s.dryer.state = .purging) (hc : s.scalars? = some w) (ht : PurgeThrown w s) :
    purgeAndFlames r s = { s with dryer.accumulator := 0, dryer.remainder := 0 } := by
  rw [purgeAndFlames, purgeStep_thrown r h hc ht, judgeFlameChange_idle] <;> simp [h]

theorem purgeAndFlames_paused (h : s.dryer.state = .purging) (hc : s.scalars? = some w) (ht : ¬ PurgeThrown w s)
    (hp : PurgePaused r s) : purgeAndFlames r s = s := by
  rw [purgeAndFlames, purgeStep_paused h hc ht hp, judgeFlameChange_idle] <;> simp [h]

theorem purgeAndFlames_counts {q : Int} (h : s.dryer.state = .purging) (hc : s.scalars? = some w)
    (ht : ¬ PurgeThrown w s) (hp : ¬ PurgePaused r s) (hq : s.board.fresh .exhaustFlow = some q) :
    (purgeAndFlames r s).dryer =
      if requiredVolume w ≤ (creditPurge w q.toNat s.dryer).accumulator then
        { creditPurge w q.toNat s.dryer with
          state := .purged, permit := true, hold := some (s.now + 1000000 * w.purgeHold) }
      else creditPurge w q.toNat s.dryer := by
  have hd := purgeStep_counts h hc ht hp hq
  rw [purgeAndFlames]
  by_cases hr : requiredVolume w ≤ (creditPurge w q.toNat s.dryer).accumulator
  · rw [if_pos hr] at hd ⊢
    rw [judgeFlameChange_unlit (by rw [hd]), hd]
    intro k hk hv
    refine hp (.inr (.inr ⟨k, by rwa [flameZones_of_comm (s := s) (by simp)] at hk, ?_⟩))
    rw [(by simp : (purgeStep r s).board = s.board)] at hv
    rw [hv]; decide
  · rw [if_neg hr] at hd ⊢
    rw [judgeFlameChange_idle, hd] <;> simp [hd, creditPurge, h]

/-- Neither step trips. -/
theorem purgeAndFlames_tripped (hc : s.scalars? = some w) (h : (purgeAndFlames r s).dryer.state = .tripped) :
    s.dryer.state = .tripped := by
  cases hs : s.dryer.state with
  | tripped => rfl
  | unpurged => rw [purgeAndFlames_idle (by simp [hs]) (by simp [hs]) (by simp [hs]), hs] at h; cases h
  | purging =>
    by_cases ht : PurgeThrown w s
    · rw [purgeAndFlames_thrown hs hc ht] at h; simp [hs] at h
    · by_cases hp : PurgePaused r s
      · rw [purgeAndFlames_paused hs hc ht hp] at h; simp [hs] at h
      · obtain ⟨q, hq⟩ := Option.ne_none_iff_exists'.1 fun a => hp (.inr (.inl a))
        rw [purgeAndFlames_counts hs hc ht hp hq] at h
        split at h <;> simp [creditPurge, hs] at h
  | purged =>
    rw [purgeAndFlames_of_not_purging (by simp [hs])] at h
    by_cases hf : ∃ k ∈ s.flameZones, s.board.fresh (.zoneFlame k) = some 1
    · rw [(judgeFlameChange_lit hs hf).1] at h; cases h
    · rw [judgeFlameChange_unlit hs fun k hk hv => hf ⟨k, hk, hv⟩, hs] at h; cases h
  | firing =>
    rw [purgeAndFlames_of_not_purging (by simp [hs])] at h
    by_cases hf : ∀ k ∈ s.flameZones, s.board.fresh (.zoneFlame k) = some 0
    · rw [(judgeFlameChange_out hs hc hf).1] at h; cases h
    · rw [judgeFlameChange_burning hs (by simpa only [Classical.not_forall, exists_prop] using hf), hs] at h; cases h

/-! ## The unit's whole reaction -/

section Reaction
variable (hc : s.scalars? = some w) (he : s.solv.eff = some e)
include hc

theorem dryerReaction_steps : dryerReaction r s = purgeAndFlames r (conditionsJudged r s) := dryerReaction_eq hc

theorem conditionsJudged_scalars : (conditionsJudged r s).scalars? = some w := by
  rw [scalars_of_comm (s := s) (by simp), hc]

/-- The reaction leaves a dryer TRIPPED exactly when the judgements do. -/
theorem dryerReaction_tripped :
    (dryerReaction r s).dryer.state = .tripped ↔ (conditionsJudged r s).dryer.state = .tripped := by
  rw [dryerReaction_steps hc]
  refine ⟨purgeAndFlames_tripped (conditionsJudged_scalars hc), fun h => ?_⟩
  rw [purgeAndFlames_idle (by simp [h]) (by simp [h]) (by simp [h]), h]

include he

/-- An onset at the refresh leaves the dryer TRIPPED, with PERMIT low, a condition active and the purge figures as they
stood. -/
theorem dryerReaction_trips (h : s.dryer.state ≠ .tripped) (ht : (dryerReaction r s).dryer.state = .tripped) :
    (dryerReaction r s).dryer.permit = false ∧ AnyActive (dryerReaction r s).dryer
      ∧ (dryerReaction r s).dryer.accumulator = s.dryer.accumulator
      ∧ (dryerReaction r s).dryer.remainder = s.dryer.remainder := by
  have hj := (dryerReaction_tripped hc).1 ht
  obtain ⟨trip, hd, -, -, ha⟩ := conditionsJudged_judged (r := r) hc he
  have hy : trip := by
    refine Classical.byContradiction fun hn => ?_
    exact h ((hd.quiet hn).1.symm.trans hj)
  rw [dryerReaction_steps hc, purgeAndFlames_idle (by simp [hj]) (by simp [hj]) (by simp [hj])]
  exact ⟨hd.permit hy h, ha hy, hd.accumulator, hd.remainder⟩

/-- Without a trip the judgements leave the dryer's state, PERMIT, hold timer and purge figures. -/
theorem conditionsJudged_quiet (h : (dryerReaction r s).dryer.state ≠ .tripped) :
    (conditionsJudged r s).dryer.state = s.dryer.state ∧ (conditionsJudged r s).dryer.permit = s.dryer.permit
      ∧ (conditionsJudged r s).dryer.hold = s.dryer.hold
      ∧ (conditionsJudged r s).dryer.accumulator = s.dryer.accumulator
      ∧ (conditionsJudged r s).dryer.remainder = s.dryer.remainder := by
  obtain ⟨trip, hd, -⟩ := conditionsJudged_judged (r := r) hc he
  obtain ⟨-, h1, h2, h3⟩ := hd.not_tripped fun a => h ((dryerReaction_tripped hc).2 a)
  exact ⟨h1, h2, h3, hd.accumulator, hd.remainder⟩

end Reaction

end Sys2Proof.Machine
end

section
/-! PROOF. O60: the Dryer Safety Unit's reaction to a refresh, clause by clause, and the trip of a measured LEL. -/

namespace Sys2Proof.Machine

variable {s t : State} {r : Refresh} {w : Scalars} {e : EffParams}

section Reaction
variable (hc : s.scalars? = some w) (he : s.solv.eff = some e)
include hc he

theorem dryerReaction_lel : (dryerReaction r s).dryer.lelMeasured = true ↔ LelHigh s e := by
  rw [dryerReaction_steps hc, (purgeAndFlames_conditions r _).1]
  exact (conditionsJudged_dryer he).1

theorem dryerReaction_lel_trips (h : LelOnset s e) : (dryerReaction r s).dryer.state = .tripped := by
  obtain ⟨trip, hd, ht, -⟩ := conditionsJudged_judged (r := r) hc he
  exact (dryerReaction_tripped hc).2 (hd.state (ht h))

theorem dryerReaction_cleared :
    (dryerReaction r s).dryer.lelPredicted = (if s.solv.publication = none then ⟨false, 0⟩ else s.dryer.lelPredicted)
      ∧ (dryerReaction r s).dryer.lineSilent = (s.dryer.lineSilent && decide (r.line ≠ .online))
      ∧ (dryerReaction r s).dryer.exhaustUnresponsive = s.dryer.exhaustUnresponsive := by
  obtain ⟨-, h1, h2, h3, -⟩ := conditionsJudged_dryer (r := r) he
  rw [dryerReaction_steps hc]
  simp only [purgeAndFlames_conditions]
  exact ⟨h1, h2, h3⟩

theorem dryerReaction_exhaust : (dryerReaction r s).dryer.exhaustLow = (beforeFlames r s).dryer.exhaustLow := by
  rw [dryerReaction_steps hc]
  simp only [purgeAndFlames_conditions]
  exact (conditionsJudged_dryer he).2.2.2.2.1

theorem dryerReaction_exhaust_trips (h : ExhaustOnset r (judgeLelMeasured (cleared r s)) e) :
    (dryerReaction r s).dryer.state = .tripped := by
  obtain ⟨trip, hd, -, ht, -⟩ := conditionsJudged_judged (r := r) hc he
  exact (dryerReaction_tripped hc).2 (hd.state (ht h))

/-- EXHAUST_LOW in FIRING with the flow LOST (R122). -/
theorem dryerReaction_exhaust_lost (hf : s.dryer.state = .firing) (hl : ¬ LelOnset s e)
    (hq : s.board.current .exhaustFlow = none) :
    (dryerReaction r s).dryer.exhaustLow = ⟨true, 0⟩
      ∧ (s.dryer.exhaustLow.active = false → (dryerReaction r s).dryer.state = .tripped) := by
  refine ⟨?_, fun ha => dryerReaction_exhaust_trips hc he ?_⟩
  · rw [dryerReaction_exhaust hc he, beforeFlames_exhaust_lost hc he hf hl (flow_none.2 hq)]
  · exact (exhaustOnset_iff hc he hf hl).2 ⟨ha, .inl (flow_none.2 hq)⟩

/-- EXHAUST_LOW in FIRING with a flow that reaches the floor (R122). -/
theorem dryerReaction_exhaust_high (hf : s.dryer.state = .firing) (hl : ¬ LelOnset s e) {q : Int}
    (hq : s.board.current .exhaustFlow = some q) (h : e.qFloor ≤ q.toNat) :
    (dryerReaction r s).dryer.exhaustLow = ⟨false, 0⟩ := by
  rw [dryerReaction_exhaust hc he, beforeFlames_exhaust_flow hc he hf hl (flow_of_current hq), if_neg (by omega)]
  rfl

/-- EXHAUST_LOW in FIRING with a flow below the floor (R122). -/
theorem dryerReaction_exhaust_low (hf : s.dryer.state = .firing) (hl : ¬ LelOnset s e) {q : Int}
    (hq : s.board.current .exhaustFlow = some q) (h : q.toNat < e.qFloor) {n : Nat}
    (hn : n = min 50 (s.dryer.exhaustLow.count + r.step)) :
    (dryerReaction r s).dryer.exhaustLow = ⟨s.dryer.exhaustLow.active || decide (w.confirm ≤ n), n⟩
      ∧ (w.confirm ≤ n → s.dryer.exhaustLow.active = false → (dryerReaction r s).dryer.state = .tripped) := by
  subst hn
  refine ⟨?_, fun hle ha => dryerReaction_exhaust_trips hc he ?_⟩
  · rw [dryerReaction_exhaust hc he, beforeFlames_exhaust_flow hc he hf hl (flow_of_current hq), if_pos h, confirm_fst]
  · exact (exhaustOnset_iff hc he hf hl).2 ⟨ha, .inr ⟨_, flow_of_current hq, h, hle⟩⟩

/-- A zone without a mapped flame (R124). -/
theorem dryerReaction_flame_unmapped {k : Zone} (hk : k ∉ s.flameZones) :
    (dryerReaction r s).dryer.flame.get k = s.dryer.flame.get k := by
  rw [dryerReaction_steps hc]
  simp only [purgeAndFlames_conditions]
  exact (conditionsJudged_dryer he).2.2.2.2.2 k hk

/-- A zone with a mapped flame (R124). -/
theorem dryerReaction_flame {k : Zone} (hk : k ∈ s.flameZones) :
    (s.board.fresh (.zoneFlame k) = none →
        (dryerReaction r s).dryer.flame.get k = { s.dryer.flame.get k with count := 0 })
      ∧ (s.board.fresh (.zoneFlame k) = some 0 → (dryerReaction r s).dryer.flame.get k = ⟨false, 0⟩)
      ∧ (s.board.fresh (.zoneFlame k) = some 1 →
        (commandEntry s.map (.zoneBurnerEn k) ≠ none → s.cmds.lastValue (.zoneBurnerEn k) = some 1 →
          (dryerReaction r s).dryer.flame.get k = ⟨false, 0⟩)
        ∧ (commandEntry s.map (.zoneBurnerEn k) = none → s.dryer.state.burning = true →
          (dryerReaction r s).dryer.state ≠ .tripped → (dryerReaction r s).dryer.flame.get k = ⟨false, 0⟩)
        ∧ ((commandEntry s.map (.zoneBurnerEn k) ≠ none ∧ s.cmds.lastValue (.zoneBurnerEn k) ≠ some 1)
              ∨ (commandEntry s.map (.zoneBurnerEn k) = none ∧ s.dryer.state.burning = false) →
          ∀ n, n = min 50 ((s.dryer.flame.get k).count + r.step) →
            (dryerReaction r s).dryer.flame.get k = ⟨(s.dryer.flame.get k).active || decide (w.confirm ≤ n), n⟩
            ∧ (w.confirm ≤ n → (s.dryer.flame.get k).active = false → (dryerReaction r s).dryer.state = .tripped))) := by
  obtain ⟨b, hm, hu, hn, hv, ht⟩ := conditionsJudged_flame (r := r) hc he hk
  have hfl : (dryerReaction r s).dryer.flame = (conditionsJudged r s).dryer.flame := by
    rw [dryerReaction_steps hc]
    simp only [purgeAndFlames_conditions]
  rw [hfl, dryerReaction_tripped hc]
  refine ⟨hn, fun h => by rw [hv 0 h]; rfl, fun h => ⟨fun h1 h2 => ?_, fun h1 h2 h3 => ?_, fun h1 n hn => ?_⟩⟩
  · rw [hv 1 h, hm h1, if_neg (by simp [h2])]
    rfl
  · have hb : b = true := ((hu h1).resolve_right fun a => h3 ((dryerReaction_tripped hc).2 a.2)).trans h2
    rw [hv 1 h, if_neg (by simp [hb])]
    rfl
  · have hb : b = false := by
      rcases h1 with ⟨h1, h2⟩ | ⟨h1, h2⟩
      · rw [hm h1]; simp [h2]
      · rcases hu h1 with h3 | h3
        · rw [h3, h2]
        · exact h3.1
    subst hn
    refine ⟨?_, fun hle ha => ht h hb ha hle⟩
    rw [hv 1 h, if_pos ⟨rfl, hb⟩, confirm_fst]

/-! ### The state, PERMIT and the purge without a trip -/

theorem dryerReaction_unpurged (ht : (dryerReaction r s).dryer.state ≠ .tripped) (h : s.dryer.state = .unpurged) :
    (dryerReaction r s).dryer.state = .unpurged := by
  have hq := (conditionsJudged_quiet hc he ht).1.trans h
  rw [dryerReaction_steps hc, purgeAndFlames_idle (by simp [hq]) (by simp [hq]) (by simp [hq]), hq]

omit hc he in
theorem thrown_iff : PurgeThrown w (conditionsJudged r s) ↔ PurgeThrown w s := by
  simp only [PurgeThrown, conditionsJudged_frame, flameZones_of_comm (conditionsJudged_frame (r := r) (s := s)).2.1]

omit hc he in
theorem paused_iff : PurgePaused r (conditionsJudged r s) ↔ PurgePaused r s := by
  simp only [PurgePaused, conditionsJudged_frame, flameZones_of_comm (conditionsJudged_frame (r := r) (s := s)).2.1]

theorem dryerReaction_purge_thrown (ht : (dryerReaction r s).dryer.state ≠ .tripped) (h : s.dryer.state = .purging)
    (hp : PurgeThrown w s) :
    (dryerReaction r s).dryer.state = .purging ∧ (dryerReaction r s).dryer.accumulator = 0
      ∧ (dryerReaction r s).dryer.remainder = 0 := by
  have hq := (conditionsJudged_quiet hc he ht).1.trans h
  rw [dryerReaction_steps hc, purgeAndFlames_thrown hq (conditionsJudged_scalars hc) (thrown_iff.2 hp)]
  exact ⟨hq, rfl, rfl⟩

theorem dryerReaction_purge_paused (ht : (dryerReaction r s).dryer.state ≠ .tripped) (h : s.dryer.state = .purging)
    (hn : ¬ PurgeThrown w s) (hp : PurgePaused r s) :
    (dryerReaction r s).dryer.state = .purging ∧ (dryerReaction r s).dryer.accumulator = s.dryer.accumulator
      ∧ (dryerReaction r s).dryer.remainder = s.dryer.remainder := by
  obtain ⟨h1, -, -, h2, h3⟩ := conditionsJudged_quiet hc he ht
  rw [dryerReaction_steps hc, purgeAndFlames_paused (h1.trans h) (conditionsJudged_scalars hc)
    (fun a => hn (thrown_iff.1 a)) (paused_iff.2 hp)]
  exact ⟨h1.trans h, h2, h3⟩

theorem dryerReaction_purge_counts (ht : (dryerReaction r s).dryer.state ≠ .tripped) (h : s.dryer.state = .purging)
    (hn : ¬ PurgeThrown w s) (hp : ¬ PurgePaused r s) {q : Int} {n : Nat} (hq : s.board.fresh .exhaustFlow = some q)
    (hs : n = q.toNat * w.period + s.dryer.remainder) :
    (dryerReaction r s).dryer.accumulator = s.dryer.accumulator + n / 3600
      ∧ (dryerReaction r s).dryer.remainder = n % 3600
      ∧ ((dryerReaction r s).dryer.accumulator < requiredVolume w → (dryerReaction r s).dryer.state = .purging)
      ∧ (requiredVolume w ≤ (dryerReaction r s).dryer.accumulator → (dryerReaction r s).dryer.state = .purged
          ∧ (dryerReaction r s).dryer.permit = true
          ∧ (dryerReaction r s).dryer.hold = some (s.now + 1000000 * w.purgeHold)) := by
  obtain ⟨h1, -, -, h2, h3⟩ := conditionsJudged_quiet hc he ht
  have hd := purgeAndFlames_counts (h1.trans h) (conditionsJudged_scalars hc)
    (fun a => hn (thrown_iff.1 a)) (fun a => hp (paused_iff.1 a)) (by simpa using hq)
  rw [← dryerReaction_steps hc] at hd
  have hsum : purgeSum w q.toNat (conditionsJudged r s).dryer = n := by rw [hs, purgeSum, h3]
  have ha : (creditPurge w q.toNat (conditionsJudged r s).dryer).accumulator = s.dryer.accumulator + n / 3600 := by
    simp [creditPurge, h2, hsum]
  have hr : (creditPurge w q.toNat (conditionsJudged r s).dryer).remainder = n % 3600 := by
    simp [creditPurge, hsum]
  rw [hd]
  split
  · rename_i hle
    refine ⟨ha, hr, fun a => absurd hle (by simpa using a), fun _ => ⟨rfl, rfl, by simp⟩⟩
  · rename_i hle
    exact ⟨ha, hr, fun _ => h1.trans h, fun a => absurd a hle⟩

theorem dryerReaction_purged (ht : (dryerReaction r s).dryer.state ≠ .tripped) (h : s.dryer.state = .purged) :
    ((∃ k ∈ s.flameZones, s.board.fresh (.zoneFlame k) = some 1) →
        (dryerReaction r s).dryer.state = .firing ∧ (dryerReaction r s).dryer.permit = true
          ∧ (dryerReaction r s).dryer.hold = none)
      ∧ ((∀ k ∈ s.flameZones, s.board.fresh (.zoneFlame k) ≠ some 1) →
        (dryerReaction r s).dryer.state = .purged ∧ (dryerReaction r s).dryer.permit = s.dryer.permit
          ∧ (dryerReaction r s).dryer.hold = s.dryer.hold) := by
  obtain ⟨h1, h2, h3, -⟩ := conditionsJudged_quiet hc he ht
  have hq := h1.trans h
  have hz := flameZones_of_comm (conditionsJudged_frame (r := r) (s := s)).2.1
  rw [dryerReaction_steps hc, purgeAndFlames_of_not_purging (by simp [hq])]
  refine ⟨fun hf => judgeFlameChange_lit hq (by simpa [hz] using hf), fun hf => ?_⟩
  rw [judgeFlameChange_unlit hq (by simpa [hz] using hf)]
  exact ⟨hq, h2, h3⟩

theorem dryerReaction_firing (ht : (dryerReaction r s).dryer.state ≠ .tripped) (h : s.dryer.state = .firing) :
    ((∀ k ∈ s.flameZones, s.board.fresh (.zoneFlame k) = some 0) →
        (dryerReaction r s).dryer.state = .purged ∧ (dryerReaction r s).dryer.permit = true
          ∧ (dryerReaction r s).dryer.hold = some (s.now + 1000000 * w.purgeHold))
      ∧ ((∃ k ∈ s.flameZones, s.board.fresh (.zoneFlame k) ≠ some 0) →
        (dryerReaction r s).dryer.state = .firing ∧ (dryerReaction r s).dryer.permit = s.dryer.permit
          ∧ (dryerReaction r s).dryer.hold = s.dryer.hold) := by
  obtain ⟨h1, h2, h3, -⟩ := conditionsJudged_quiet hc he ht
  have hq := h1.trans h
  have hz := flameZones_of_comm (conditionsJudged_frame (r := r) (s := s)).2.1
  rw [dryerReaction_steps hc, purgeAndFlames_of_not_purging (by simp [hq])]
  refine ⟨fun hf => ?_, fun hf => ?_⟩
  · simpa using judgeFlameChange_out hq (conditionsJudged_scalars hc) (by simpa [hz] using hf)
  · rw [judgeFlameChange_burning hq (by simpa [hz] using hf)]
    exact ⟨hq, h2, h3⟩

theorem dryerReaction_stays_tripped (h : s.dryer.state = .tripped) : (dryerReaction r s).dryer.state = .tripped := by
  obtain ⟨trip, hd, -⟩ := conditionsJudged_judged (r := r) hc he
  exact (dryerReaction_tripped hc).2 (hd.tripped h)

end Reaction

end Sys2Proof.Machine
end

section
/-! PROOF. The end of a BACK cycle frame as one board refresh (R8, R10 to R16). -/

namespace Sys2Proof.Machine

variable {s t : State} {r : Refresh}

/-- No reaction of another block moves a board record (R26). -/
@[simp] theorem react_board_records (r : Refresh) (x : Reaction) (s : State) :
    (react r x s).board.records = s.board.records ∧ (react r x s).board.measuredLel = s.board.measuredLel := by
  cases x with
  | sampleBoard =>
    unfold react boardReaction judgeUnmonitored judgeSpeedLost
    simp only []
    repeat' split
    all_goals simp
  | lineInterface => unfold react; simp only []; split <;> simp
  | commandTable => simp [react]
  | webSequencer => simp [react]
  | dryerSafety => simp [react]
  | scheduleUnit => simp [react]
  | solventUnit => simp [react]
  | incidentLog => simp [react]

@[simp] theorem reactAll_board_records (r : Refresh) (l : List Reaction) (s : State) :
    (reactAll r l s).board.records = s.board.records ∧ (reactAll r l s).board.measuredLel = s.board.measuredLel :=
  ⟨foldl_keeps (fun t x => react r x t) (fun s => s.board.records) (by simp) _ _,
    foldl_keeps (fun t x => react r x t) (fun s => s.board.measuredLel) (by simp) _ _⟩

theorem frameErrors_eq (s : State) : frameErrors s = { s with log := (frameErrors s).log } := offer_eq_log s _ _ _

/-- A refresh takes the next open order: FRAME_ERRORS stands before it or among the reactions, and the reactions come
each once (R10, R19; log 1). -/
theorem takeRefresh_eq (k : Nat) (r : Refresh) (s : State) :
    ∃ (errors : Bool) (log : IncidentLog) (order : List Reaction),
      takeRefresh k r s = reactAll { r with errors := errors } order
        (takeSamples { r with errors := errors }
          (measureInterval r.regular r.cycle { s with choices := s.choices + 1, log := log }))
      ∧ order.Perm reactions
      ∧ (log = s.log ∧ errors = r.errors
        ∨ errors = false ∧ log = if r.errors then (frameErrors (takeChoice s)).log else s.log) := by
  unfold takeRefresh boardRefresh
  split
  · refine ⟨false, if r.errors then (frameErrors (takeChoice s)).log else s.log, _, ?_, arrange_perm reactions (k / 2),
      .inr ⟨rfl, rfl⟩⟩
    have h : react r .lineInterface (takeChoice s) =
        { s with choices := s.choices + 1, log := if r.errors then (frameErrors (takeChoice s)).log else s.log } := by
      unfold react
      cases r.errors with
      | false => rfl
      | true => exact frameErrors_eq _
    rw [h]
  · exact ⟨r.errors, s.log, _, rfl, arrange_perm reactions (k / 2), .inl ⟨rfl, rfl⟩⟩

/-- The end of the frame that is leaving, in a state that knows it (R5). -/
theorem frameEnd_leaving {d : Dir} {f : Transit} (h : Leaving d f s) (k us : Nat) :
    frameEnd k d us s = endOf k d f { elapse us s with line := releasePlace d f s.line } := by
  obtain ⟨hb, rest, hr⟩ := h
  simp [frameEnd, hb, hr]

/-! ## The line at a good frame (R11, R14, R16) -/

/-- Whether a line that was `l` becomes ONLINE with a good frame (R14). -/
def becomesOnline (c : CycleNo) (n : Nat) (l : LineIf) : Bool :=
  decide ((goodBackLine c n l).state = .online) && decide (l.state ≠ .online)

theorem moveSync_eq (c : CycleNo) (n : Nat) (l : LineIf) :
    moveSync c n l = { l with
      state := (moveSync c n l).state
      syncCount := (moveSync c n l).syncCount
      outStore := l.outStore.map fun f =>
        { f with sinceOnline := f.sinceOnline && !(decide ((moveSync c n l).state = .online) && decide (l.state ≠ .online)) }
      backStore := l.backStore.map fun f =>
        { f with sinceOnline := f.sinceOnline && !(decide ((moveSync c n l).state = .online) && decide (l.state ≠ .online)) } } := by
  unfold moveSync
  split
  · rename_i h
    simp only []
    split <;> simp [enterOnline, h]
  · cases l with
    | mk => simp

theorem goodBackLine_of_online {l : LineIf} (c : CycleNo) (n : Nat) (h : l.state = .online) :
    (goodBackLine c n l).state = .online ∧ (goodBackLine c n l).syncCount = l.syncCount := by
  simp [goodBackLine, leaveSilent, moveSync, h]

theorem goodBackLine_of_silent {l : LineIf} (c : CycleNo) (n : Nat) (h : l.state = .silent) :
    (goodBackLine c n l).state = .syncing
      ∧ (goodBackLine c n l).syncCount = if c ∈ l.remembered then 1 else 0 := by
  by_cases hm : c ∈ l.remembered <;> simp [goodBackLine, leaveSilent, moveSync, h, syncAfter, hm]

theorem goodBackLine_of_syncing {l : LineIf} (c : CycleNo) (n : Nat) (h : l.state = .syncing) :
    (goodBackLine c n l).state = (if (goodBackLine c n l).syncCount = 8 then .online else .syncing)
      ∧ (goodBackLine c n l).syncCount = if c ∈ l.remembered then
          (if l.syncCount = 0 ∨ n ≠ 1 then 1 else l.syncCount + 1) else 0 := by
  have hn : syncAfter (decide (c ∈ l.remembered)) n l.syncCount =
      if c ∈ l.remembered then (if l.syncCount = 0 ∨ n ≠ 1 then 1 else l.syncCount + 1) else 0 := by
    unfold syncAfter
    by_cases h1 : l.syncCount = 0 <;> by_cases h2 : n = 1 <;> simp [h1, h2]
  rw [← hn]
  have hl : leaveSilent l = l := by simp [leaveSilent, h]
  unfold goodBackLine moveSync
  rw [hl, if_pos (by exact h)]
  simp only []
  by_cases h8 : syncAfter (decide (c ∈ l.remembered)) n l.syncCount = 8 <;> simp [h8, h, enterOnline]

/-- The line after a good frame: lists and numbers as they were, but for the numbering, the sync count and the entry to
ONLINE (R11, R14). -/
theorem goodBackLine_eq (c : CycleNo) (n : Nat) (l : LineIf) :
    goodBackLine c n l = { l with
      state := (goodBackLine c n l).state
      syncCount := (goodBackLine c n l).syncCount
      lastCycle := some c
      outStore := l.outStore.map fun f => { f with sinceOnline := f.sinceOnline && !becomesOnline c n l }
      backStore := l.backStore.map fun f => { f with sinceOnline := f.sinceOnline && !becomesOnline c n l } } := by
  have h := moveSync_eq c n { leaveSilent l with lastCycle := some c }
  have hb : (decide ((goodBackLine c n l).state = .online) && decide ((leaveSilent l).state ≠ .online))
      = becomesOnline c n l := by
    unfold becomesOnline leaveSilent
    split <;> simp_all
  have hs : (leaveSilent l).outStore = l.outStore ∧ (leaveSilent l).backStore = l.backStore := by
    unfold leaveSilent; split <;> exact ⟨rfl, rfl⟩
  rw [← hb]
  refine Eq.trans h ?_
  simp only [goodBackLine, hs]
  unfold leaveSilent
  split <;> rfl

end Sys2Proof.Machine
end

section
/-! PROOF. O45: the end of a BACK cycle frame. -/

namespace Sys2Proof.Machine

variable {s t : State} {r : Refresh} {f : Transit} {us n k : Nat} {b : Bool}

/-- The state at the end of a BACK cycle frame, the frame counted (R5, R18). -/
def backCounted (f : Transit) (us : Nat) (s : State) : State :=
  { elapse us s with line := countFrame .back f (releasePlace .back f s.line) }

/-- The same with the line moved by a good frame and the silence timer restarted (R11, R14 to R16). -/
def backMoved (f : Transit) (us n : Nat) (s : State) : State :=
  startSilence
    { backCounted f us s with line := goodBackLine (cycleNumber f.arrived) n (backCounted f us s).line }

/-- The refresh that a good frame gives. -/
def backGoodRefresh (f : Transit) (us n : Nat) (b : Bool) (s : State) : Refresh :=
  goodRefresh f n b (backCounted f us s)
    { backCounted f us s with line := goodBackLine (cycleNumber f.arrived) n (backCounted f us s).line }

/-- What the numbering makes of a good frame that is not repeated: the step, and whether it is a renumbering (R11). -/
def Numbers (last : Option CycleNo) (c : CycleNo) (n : Nat) (b : Bool) : Prop :=
  numbering last c = .step n ∧ b = false ∨ numbering last c = .renumbered ∧ n = 255 ∧ b = true

theorem countFrame_back_keeps (f : Transit) (l : LineIf) :
    (countFrame .back f l).state = l.state ∧ (countFrame .back f l).lastCycle = l.lastCycle
      ∧ (countFrame .back f l).remembered = l.remembered ∧ (countFrame .back f l).syncCount = l.syncCount
      ∧ (countFrame .back f l).lastRefreshAt = l.lastRefreshAt ∧ (countFrame .back f l).refreshCycle = l.refreshCycle := by
  unfold countFrame
  simp only []
  repeat' split
  all_goals simp

theorem backCounted_keeps (f : Transit) (us : Nat) (s : State) :
    (backCounted f us s).line.state = s.line.state ∧ (backCounted f us s).line.lastCycle = s.line.lastCycle
      ∧ (backCounted f us s).line.remembered = s.line.remembered
      ∧ (backCounted f us s).line.syncCount = s.line.syncCount
      ∧ (backCounted f us s).line.lastRefreshAt = s.line.lastRefreshAt
      ∧ (backCounted f us s).line.refreshCycle = s.line.refreshCycle :=
  countFrame_back_keeps f (releasePlace .back f s.line)

theorem frameEnd_back_good (h : Leaving .back f s) (hk : kindOf f.arrived = .cycle) (hg : goodFrame f.arrived = true)
    (hn : Numbers s.line.lastCycle (cycleNumber f.arrived) n b) :
    frameEnd k .back us s = takeRefresh k (backGoodRefresh f us n b s) (backMoved f us n s) := by
  rw [frameEnd_leaving h]
  unfold endOf
  rw [hk]
  simp only [backCycleEnd, hg, if_true]
  have hl : ({ elapse us s with line := releasePlace .back f s.line } : State).line.lastCycle = s.line.lastCycle := rfl
  rw [hl]
  rcases hn with ⟨h1, rfl⟩ | ⟨h1, rfl, rfl⟩ <;> rw [h1] <;> rfl

theorem frameEnd_back_poisoned (h : Leaving .back f s) (hk : kindOf f.arrived = .cycle)
    (hg : goodFrame f.arrived = false) :
    frameEnd k .back us s = takeRefresh k (poisonedRefresh f (backCounted f us s))
      { backCounted f us s with line := poisonedBackLine (backCounted f us s).line } := by
  rw [frameEnd_leaving h]
  unfold endOf
  rw [hk]
  simp only [backCycleEnd, hg]
  rfl

theorem frameEnd_back_repeated (h : Leaving .back f s) (hk : kindOf f.arrived = .cycle) (hg : goodFrame f.arrived = true)
    (hn : numbering s.line.lastCycle (cycleNumber f.arrived) = .repeated) :
    frameEnd k .back us s =
      offerErrors f { backCounted f us s with line := repeatedLine (backCounted f us s).line } := by
  rw [frameEnd_leaving h]
  unfold endOf
  rw [hk]
  simp only [backCycleEnd, hg, if_true]
  have hl : ({ elapse us s with line := releasePlace .back f s.line } : State).line.lastCycle = s.line.lastCycle := rfl
  rw [hl, hn]
  rfl

/-- FRAME_ERRORS offered as a frame ends makes of the log what it makes of it on the state before (R19). -/
theorem frameErrors_log {u : State} (h1 : u.log = s.log) (h2 : u.line.refreshCycle = s.line.refreshCycle)
    (h3 : u.web = s.web) (h4 : u.dryer = s.dryer) (h5 : u.comm = s.comm) (h6 : u.now = s.now + us) :
    (frameErrors u).log = (offer .frameErrors .none .absent { s with now := s.now + us }).log :=
  offer_log_congr _ _ _ h1 h2 (congrArg _ h3) (congrArg _ h4) h5 h6

theorem isCaptured_iff (m : List SlotEntry) (x : Slot) :
    isCaptured m x = true ↔ x.kind = .sample ∨ x.kind = .echo ∨ x.kind = .hold
        ∨ x.kind = .command ∧ (entryAt m x.node x.channel .command).map SlotEntry.role = some .speedRef := by
  unfold isCaptured
  cases x.kind <;> simp

theorem captureTo_all (m : List SlotEntry) (f : Transit) :
    captureTo m 96 f = f.captured ++ (((List.range (min 96 (slotCount f.arrived))).drop f.cursor).filterMap
      (slotAt f.arrived)).filter (isCaptured m) := by
  unfold captureTo slotsBetween
  rw [← Nat.min_assoc, Nat.min_self]

theorem isRegular_iff (p : Option Scalars) (b : Bool) (i : Option Nat) :
    isRegular p b true i = true ↔ b = false ∧ ∃ c j, p = some c ∧ i = some j ∧ 750 * c.period ≤ j ∧ j ≤ 1250 * c.period := by
  unfold isRegular
  cases p <;> cases i <;> simp [and_assoc]

theorem backGoodRefresh_regular :
    (backGoodRefresh f us n b s).regular = true ↔ b = false ∧ ∃ c p, s.scalars? = some c ∧ s.line.lastRefreshAt = some p
      ∧ 750 * c.period ≤ s.now + us - p ∧ s.now + us - p ≤ 1250 * c.period := by
  have h1 : (backCounted f us s).scalars? = s.scalars? := rfl
  have h2 : (backCounted f us s).sinceRefresh = s.line.lastRefreshAt.map fun p => s.now + us - p := by
    unfold State.sinceRefresh
    rw [(backCounted_keeps f us s).2.2.2.2.1]
    rfl
  show isRegular _ b true _ = true ↔ _
  rw [h1, h2, isRegular_iff]
  cases s.line.lastRefreshAt <;> simp

/-- The counters, the place and the bytes sent, at the end of a good BACK cycle frame (R3, R5, R18). -/
theorem backCounted_good (hg : goodFrame f.arrived = true) : (backCounted f us s).line =
    { s.line with
      backStore := s.line.backStore.tail
      longFrames := if longFrame f.arrived then min 4294967295 (s.line.longFrames + 1) else s.line.longFrames
      goodBack := min 4294967295 (s.line.goodBack + 1)
      sentBack := some (sentBytes f) } := by
  by_cases hl : longFrame f.arrived = true <;> simp only [backCounted, countFrame, hg, hl, if_true] <;> rfl

theorem backCounted_poisoned (hg : goodFrame f.arrived = false) : (backCounted f us s).line =
    { s.line with
      backStore := s.line.backStore.tail
      longFrames := if longFrame f.arrived then min 4294967295 (s.line.longFrames + 1) else s.line.longFrames
      poisoned := min 4294967295 (s.line.poisoned + 1)
      sentBack := some (sentBytes f) } := by
  by_cases hl : longFrame f.arrived = true <;> simp only [backCounted, countFrame, hg, hl] <;> rfl

/-- The line as a good refresh leaves it (R11, R12, R14 to R16, R18). -/
theorem goodRefresh_line {l : LineIf} (hl : l = (measureInterval (backGoodRefresh f us n b s).regular
      (backGoodRefresh f us n b s).cycle (backMoved f us n s)).line) (hg : goodFrame f.arrived = true) :
    l = { s.line with
      state := l.state
      syncCount := l.syncCount
      outStore := s.line.outStore.map fun x =>
        { x with sinceOnline := x.sinceOnline && !(backGoodRefresh f us n b s).entry }
      backStore := s.line.backStore.tail.map fun x =>
        { x with sinceOnline := x.sinceOnline && !(backGoodRefresh f us n b s).entry }
      longFrames := if longFrame f.arrived then min 4294967295 (s.line.longFrames + 1) else s.line.longFrames
      lastCycle := some (cycleNumber f.arrived)
      refreshCycle := some (cycleNumber f.arrived)
      silence := some (s.now + us + 1000 * s.silenceLimit)
      interval := s.line.lastRefreshAt.map fun p => s.now + us - p
      lastRefreshAt := some (s.now + us)
      goodBack := min 4294967295 (s.line.goodBack + 1)
      irregular := if s.commissioned = true ∧ (backGoodRefresh f us n b s).regular = false then
          min 4294967295 (s.line.irregular + 1) else s.line.irregular
      sentBack := some (sentBytes f) } := by
  have he : (backGoodRefresh f us n b s).entry = becomesOnline (cycleNumber f.arrived) n (backCounted f us s).line := rfl
  have h := goodBackLine_eq (cycleNumber f.arrived) n (backCounted f us s).line
  rw [← he] at h
  generalize (backGoodRefresh f us n b s).entry = e at h ⊢
  generalize (backGoodRefresh f us n b s).regular = g at hl ⊢
  have hl2 : l =
      { goodBackLine (cycleNumber f.arrived) n (backCounted f us s).line with
        silence := some (s.now + us + 1000 * s.silenceLimit)
        interval := (goodBackLine (cycleNumber f.arrived) n (backCounted f us s).line).lastRefreshAt.map
          fun p => s.now + us - p
        lastRefreshAt := some (s.now + us)
        refreshCycle := some (cycleNumber f.arrived)
        irregular := if s.commissioned = true ∧ g = false then
            min 4294967295 ((goodBackLine (cycleNumber f.arrived) n (backCounted f us s).line).irregular + 1)
          else (goodBackLine (cycleNumber f.arrived) n (backCounted f us s).line).irregular } := hl
  generalize goodBackLine (cycleNumber f.arrived) n (backCounted f us s).line = u at h hl2
  have hs : l.state = u.state ∧ l.syncCount = u.syncCount := by rw [hl2]; exact ⟨rfl, rfl⟩
  rw [hs.1, hs.2, hl2]
  conv => lhs; rw [h, backCounted_good hg]

theorem goodRefresh_state {l : LineIf} (hl : l = (measureInterval (backGoodRefresh f us n b s).regular
      (backGoodRefresh f us n b s).cycle (backMoved f us n s)).line) :
    (backGoodRefresh f us n b s).line = l.state
      ∧ ((backGoodRefresh f us n b s).entry = true ↔ l.state = .online ∧ s.line.state ≠ .online)
      ∧ (s.line.state = .online → l.state = .online ∧ l.syncCount = s.line.syncCount)
      ∧ (s.line.state = .silent → l.state = .syncing
          ∧ l.syncCount = if cycleNumber f.arrived ∈ s.line.remembered then 1 else 0)
      ∧ (s.line.state = .syncing → l.state = (if l.syncCount = 8 then .online else .syncing)
          ∧ l.syncCount = if cycleNumber f.arrived ∈ s.line.remembered then
              (if s.line.syncCount = 0 ∨ n ≠ 1 then 1 else s.line.syncCount + 1) else 0) := by
  obtain ⟨h1, -, h2, h3, -⟩ := backCounted_keeps f us s
  have e1 : l.state = (goodBackLine (cycleNumber f.arrived) n (backCounted f us s).line).state := by rw [hl]; rfl
  have e2 : l.syncCount = (goodBackLine (cycleNumber f.arrived) n (backCounted f us s).line).syncCount := by rw [hl]; rfl
  have he : (backGoodRefresh f us n b s).entry = becomesOnline (cycleNumber f.arrived) n (backCounted f us s).line := rfl
  rw [← h1, ← h2, ← h3, e1, e2]
  exact ⟨rfl, by rw [he]; simp [becomesOnline], goodBackLine_of_online _ _, goodBackLine_of_silent _ _,
    goodBackLine_of_syncing _ _⟩

theorem poisonedRefresh_line (hg : goodFrame f.arrived = false) :
    (measureInterval false none { backCounted f us s with line := poisonedBackLine (backCounted f us s).line }).line =
    { s.line with
      backStore := s.line.backStore.tail
      longFrames := if longFrame f.arrived then min 4294967295 (s.line.longFrames + 1) else s.line.longFrames
      lastCycle := s.line.lastCycle.map (fun c => c + 1)
      refreshCycle := none
      interval := s.line.lastRefreshAt.map fun p => s.now + us - p
      lastRefreshAt := some (s.now + us)
      poisoned := min 4294967295 (s.line.poisoned + 1)
      syncCount := if s.line.state = .syncing then 0 else s.line.syncCount
      irregular := if s.commissioned = true then min 4294967295 (s.line.irregular + 1) else s.line.irregular
      sentBack := some (sentBytes f) } := by
  have hc : (backCounted f us s).commissioned = s.commissioned := rfl
  unfold measureInterval poisonedBackLine dropSync
  rw [backCounted_poisoned hg]
  by_cases h : s.line.state = .syncing
  · rw [if_pos h, if_pos h]
    simp only [State.sinceRefresh, and_true]
    rfl
  · rw [if_neg h, if_neg h]
    simp only [State.sinceRefresh, and_true]
    rfl

theorem goodBackLine_refreshCycle (c : CycleNo) (n : Nat) (l : LineIf) :
    (goodBackLine c n l).refreshCycle = l.refreshCycle := by
  rw [goodBackLine_eq]

/-- Settles O45: a good frame, a poisoned one and a repeated one, each with the refresh it gives or none. -/
theorem backCycleFrameEnds : Obligations.BackCycleFrameEnds := by
  unfold Obligations.BackCycleFrameEnds
  intro us s f h hk
  refine ⟨fun n b hg hn => ?_, fun hg => ?_, fun hg hl hn => ?_, fun hg hl hn => ?_, isCaptured_iff⟩
  · obtain ⟨errors, log, order, he, hp, hlog⟩ :=
      takeRefresh_eq (Config.reactionOrder s.choices) (backGoodRefresh f us n b s) (backMoved f us n s)
    have hline := goodRefresh_line (f := f) (us := us) (n := n) (b := b) (s := s) rfl hg
    obtain ⟨hst, hent, hon, hsi, hsy⟩ := goodRefresh_state (f := f) (us := us) (n := n) (b := b) (s := s) rfl
    have hx : exec (.frameEnd .back us) s = .next _ :=
      congrArg Host.Outcome.next ((frameEnd_back_good h hk hg hn).trans he)
    have herr : (backGoodRefresh f us n b s).errors = longFrame f.arrived := by
      show hasErrors f = _
      simp [hasErrors, hg]
    have hfe : (frameErrors (takeChoice (backMoved f us n s))).log =
        (offer .frameErrors .none .absent { s with now := s.now + us }).log :=
      frameErrors_log rfl (by simp [backMoved, goodBackLine_refreshCycle, backCounted_keeps]) rfl rfl rfl rfl
    rw [herr, hfe] at hlog
    refine ⟨_, { backGoodRefresh f us n b s with errors := errors }, _, log, order, hx, rfl, hp, hlog,
      captureTo_all _ _, rfl, rfl, rfl, hst, hent, backGoodRefresh_regular (n := n), fun hc => ?_, ?_, hline, ?_, hon, hsi, hsy,
      ?_, ?_, ?_, ?_⟩
    · exact Nat.le_trans (captureTo_length s.map hc (.inr (Nat.le_refl 96))) (by simp)
    · simp only [reactAll_frame]; rfl
    · simp only [reactAll_board_records]; rfl
    all_goals simp only [reactAll_frame]; rfl
  · obtain ⟨errors, log, order, he, hp, hlog⟩ :=
      takeRefresh_eq (Config.reactionOrder s.choices) (poisonedRefresh f (backCounted f us s))
        { backCounted f us s with line := poisonedBackLine (backCounted f us s).line }
    have hline := poisonedRefresh_line (us := us) (s := s) hg
    have hx : exec (.frameEnd .back us) s = .next _ :=
      congrArg Host.Outcome.next ((frameEnd_back_poisoned h hk hg).trans he)
    have herr : (poisonedRefresh f (backCounted f us s)).errors = true := by
      show hasErrors f = _
      simp [hasErrors, hg]
    have hfe : (frameErrors (takeChoice
        { backCounted f us s with line := poisonedBackLine (backCounted f us s).line })).log =
        (offer .frameErrors .none .absent { s with now := s.now + us }).log := by
      refine frameErrors_log rfl ?_ rfl rfl rfl rfl
      have hd : ∀ l : LineIf, (dropSync l).refreshCycle = l.refreshCycle := fun l => by unfold dropSync; split <;> rfl
      simp [poisonedBackLine, hd, backCounted_keeps]
    rw [herr, hfe] at hlog
    refine ⟨_, { poisonedRefresh f (backCounted f us s) with errors := errors }, _, log, order, hx, rfl, hp, ?_, rfl, rfl,
      rfl, rfl, rfl, rfl, (backCounted_keeps f us s).1, ?_, hline, ?_, ?_, ?_, ?_, ?_⟩
    · simpa [backCounted] using hlog
    · simp only [reactAll_frame]; rfl
    · simp only [reactAll_board_records]; rfl
    all_goals simp only [reactAll_frame]; rfl
  · have he : offerErrors f { backCounted f us s with line := repeatedLine (backCounted f us s).line }
        = { backCounted f us s with line := repeatedLine (backCounted f us s).line } := by
      simp [offerErrors, hasErrors, hg, hl]
    refine congrArg Host.Outcome.next ((frameEnd_back_repeated h hk hg hn).trans (he.trans ?_))
    rw [backCounted_good hg, hl]
    by_cases hs : s.line.state = .syncing <;> simp [repeatedLine, dropSync, hs, backCounted, elapse, bump32, satAdd, top32]
  · have he : offerErrors f { backCounted f us s with line := repeatedLine (backCounted f us s).line }
        = frameErrors { backCounted f us s with line := repeatedLine (backCounted f us s).line } := by
      simp [offerErrors, hasErrors, hl]
    refine congrArg Host.Outcome.next ((frameEnd_back_repeated h hk hg hn).trans (he.trans ?_))
    rw [backCounted_good hg, hl]
    refine congrArg frameErrors ?_
    by_cases hs : s.line.state = .syncing <;> simp [repeatedLine, dropSync, hs, backCounted, elapse, bump32, satAdd, top32]

end Sys2Proof.Machine
end

section
/-! PROOF. The dryer through all the reactions to one refresh: O60, and O59. -/

namespace Sys2Proof.Machine

variable {s t u : State} {r : Refresh} {f : Transit} {us k : Nat}

/-! ## The Command Table's reaction at the dryer (R123, R151) -/

theorem exhaustUnresponsiveReport_judged {d : DryerUnit} (hd : s.dryer = d) :
    ∃ trip, Judged trip d (exhaustUnresponsiveReport s).dryer := by
  subst hd
  unfold exhaustUnresponsiveReport
  split
  · exact ⟨False, .refl id _⟩
  · exact ⟨True, onset_judged trivial (by exact ⟨rfl, rfl, rfl, rfl⟩) (by rfl) (by rfl) _ _ _⟩

theorem judgeEcho_judged (c : CycleNo) (s : State) (x : Role) : ∃ trip, Judged trip s.dryer (judgeEcho c s x).dryer := by
  have same : ∃ trip, Judged trip s.dryer s.dryer := ⟨False, .refl id _⟩
  unfold judgeEcho
  split
  · split
    · split
      · unfold echoMatch
        simp only []
        split
        · exact ⟨False, .of_standing id ⟨rfl, rfl, rfl, rfl⟩ rfl rfl⟩
        · exact same
      · split
        · exact same
        · unfold echoMiss becameUnresponsive
          simp only []
          split
          · split
            · exact exhaustUnresponsiveReport_judged rfl
            · simpa using same
          · exact same
    · exact same
  · exact same

theorem commandReaction_judged (r : Refresh) (s : State) :
    ∃ trip, Judged trip s.dryer (commandReaction r s).dryer := by
  have start : ∃ trip, Judged trip s.dryer (loadHolds r s).dryer := ⟨False, .refl id _⟩
  unfold commandReaction judgeEchoes
  split
  · split
    · split
      · rename_i c _ _
        generalize (loadHolds r s).cmds.entries.map Prod.fst = roles
        generalize loadHolds r s = u at start
        induction roles generalizing u with
        | nil => exact start
        | cons x roles ih =>
          obtain ⟨a, ha⟩ := start
          obtain ⟨b, hb⟩ := judgeEcho_judged c u x
          exact ih _ ⟨_, ha.trans hb⟩
      · exact start
    · exact start
  · exact ⟨False, .refl id _⟩

/-- Only the Dryer Safety Unit's own reaction does more to the dryer than trip it. -/
theorem react_judged (r : Refresh) {x : Reaction} (hx : x ≠ .dryerSafety) (s : State) :
    ∃ trip, Judged trip s.dryer (react r x s).dryer := by
  have same : ∃ trip, Judged trip s.dryer s.dryer := ⟨False, .refl id _⟩
  cases x with
  | dryerSafety => exact absurd rfl hx
  | commandTable => exact commandReaction_judged r s
  | lineInterface => unfold react; simp only []; split <;> simpa using same
  | sampleBoard => simpa [react] using same
  | webSequencer => simpa [react] using same
  | scheduleUnit => simpa [react] using same
  | solventUnit => simpa [react] using same
  | incidentLog => simpa [react] using same

theorem reactAll_judged (r : Refresh) {l : List Reaction} (hl : .dryerSafety ∉ l) (s : State) :
    ∃ trip, Judged trip s.dryer (reactAll r l s).dryer := by
  unfold reactAll
  induction l generalizing s with
  | nil => exact ⟨False, .refl id _⟩
  | cons x l ih =>
    obtain ⟨hx, hl⟩ := not_or.1 (mt List.mem_cons.2 hl)
    obtain ⟨a, ha⟩ := react_judged r (Ne.symm hx) s
    obtain ⟨b, hb⟩ := ih hl (react r x s)
    exact ⟨_, ha.trans hb⟩

/-- An order of the reactions, cut at the Dryer Safety Unit's own. -/
theorem order_at_dryer {order : List Reaction} (h : order.Perm reactions) :
    ∃ l₁ l₂, order = l₁ ++ .dryerSafety :: l₂ ∧ .dryerSafety ∉ l₁ ∧ .dryerSafety ∉ l₂ := by
  have hm : Reaction.dryerSafety ∈ order := h.mem_iff.2 (by decide)
  have hn : order.Nodup := h.nodup_iff.2 (by decide)
  obtain ⟨l₁, l₂, rfl⟩ := List.append_of_mem hm
  simp only [List.nodup_append, List.nodup_cons] at hn
  exact ⟨l₁, l₂, rfl, fun a => hn.2.2 _ a _ (by simp) rfl, hn.2.1.1⟩

theorem reactAll_append (r : Refresh) (l₁ l₂ : List Reaction) (x : Reaction) (s : State) :
    reactAll r (l₁ ++ x :: l₂) s = reactAll r l₂ (react r x (reactAll r l₁ s)) := by
  simp [reactAll]

/-- The dryer through the reactions to a refresh: a judgement of other blocks, its own reaction, and again other
blocks. -/
theorem reactAll_dryer {order : List Reaction} (h : order.Perm reactions) (r : Refresh) (s : State) :
    ∃ l₁ l₂, .dryerSafety ∉ l₁ ∧ (∃ a, Judged a s.dryer (reactAll r l₁ s).dryer)
      ∧ (∃ b, Judged b (dryerReaction r (reactAll r l₁ s)).dryer (reactAll r order s).dryer)
      ∧ order = l₁ ++ .dryerSafety :: l₂ := by
  obtain ⟨l₁, l₂, rfl, h1, h2⟩ := order_at_dryer h
  refine ⟨l₁, l₂, h1, reactAll_judged r h1 s, ?_, rfl⟩
  rw [reactAll_append]
  exact reactAll_judged r h2 _

/-! ## One refresh -/

theorem numbers_of_not_repeated {last : Option CycleNo} {c : CycleNo} (h : numbering last c ≠ .repeated) :
    ∃ n b, Numbers last c n b := by
  cases hn : numbering last c with
  | step n => exact ⟨n, false, .inl ⟨hn, rfl⟩⟩
  | repeated => exact absurd hn h
  | renumbered => exact ⟨255, true, .inr ⟨hn, rfl, rfl⟩⟩

/-- A BACK cycle frame end that gives a refresh, seen from the blocks that the line does not move. -/
theorem backCycle_refreshes (h : Leaving .back f s) (hk : kindOf f.arrived = .cycle)
    (hn : goodFrame f.arrived = true → numbering s.line.lastCycle (cycleNumber f.arrived) ≠ .repeated) :
    ∃ (r : Refresh) (u : State) (order : List Reaction),
      frameEnd k .back us s = reactAll r order (takeSamples r u) ∧ order.Perm reactions ∧ u.dryer = s.dryer
      ∧ u.comm = s.comm ∧ u.solv = s.solv ∧ u.agent = s.agent ∧ u.board = s.board
      ∧ (r.regular = true → goodFrame f.arrived = true) := by
  by_cases hg : goodFrame f.arrived = true
  · obtain ⟨n, b, hnb⟩ := numbers_of_not_repeated (hn hg)
    obtain ⟨errors, log, order, he, hp, -⟩ := takeRefresh_eq k (backGoodRefresh f us n b s) (backMoved f us n s)
    exact ⟨_, _, order, (frameEnd_back_good h hk hg hnb).trans he, hp, rfl, rfl, rfl, rfl, rfl, fun _ => hg⟩
  · obtain ⟨errors, log, order, he, hp, -⟩ := takeRefresh_eq k (poisonedRefresh f (backCounted f us s))
      { backCounted f us s with line := poisonedBackLine (backCounted f us s).line }
    exact ⟨_, _, order, (frameEnd_back_poisoned h hk (by simpa using hg)).trans he, hp, rfl, rfl, rfl, rfl, rfl, nofun⟩

/-! ## The effective parameters (R72 to R74) -/

theorem effLaw_of {s t : State} (h : EffLaw s) (h1 : t.solv.eff = s.solv.eff) (h2 : t.comm = s.comm)
    (h3 : t.agent.overrides = s.agent.overrides) : EffLaw t := by
  obtain ⟨m, hm⟩ := h
  exact ⟨m, by rw [h1, hm, scalars_of_comm h2, h3]⟩

theorem formParams_effLaw (s : State) : EffLaw (formParams s) := ⟨s.board.mode, rfl⟩

theorem judgeDisagree_eff (s : State) : (judgeDisagree s).solv.eff = s.solv.eff := by
  unfold judgeDisagree; repeat' split
  all_goals simp

theorem startSolvent_eff (r : Refresh) (s : State) : (startSolvent r s).solv.eff = s.solv.eff := by
  unfold startSolvent; repeat' split
  all_goals rfl

theorem solventReaction_effLaw (r : Refresh) (s : State) : EffLaw (solventReaction r s) := by
  unfold solventReaction
  simp only []
  split
  · exact effLaw_of (formParams_effLaw s) (by rw [startSolvent_eff, judgeDisagree_eff]) (by simp) (by simp)
  · exact effLaw_of (formParams_effLaw s) (by rw [startSolvent_eff]) (by simp) (by simp)

theorem react_effLaw (r : Refresh) (x : Reaction) (h : EffLaw s) : EffLaw (react r x s) := by
  cases x with
  | solventUnit => exact solventReaction_effLaw r s
  | lineInterface =>
    unfold react
    simp only []
    split
    · exact effLaw_of h (by simp) (by simp) (by simp)
    · exact h
  | sampleBoard => exact effLaw_of h (by simp [react]) (by simp [react]) (by simp [react])
  | commandTable => exact effLaw_of h (by simp [react]) (by simp [react]) (by simp [react])
  | webSequencer => exact effLaw_of h (by simp [react]) (by simp [react]) (by simp [react])
  | dryerSafety => exact effLaw_of h (by simp [react]) (by simp [react]) (by simp [react])
  | scheduleUnit => exact effLaw_of h (by simp [react]) (by simp [react]) (by simp [react])
  | incidentLog => exact effLaw_of h (by simp [react]) (by simp [react]) (by simp [react])

theorem reactAll_effLaw (r : Refresh) (l : List Reaction) (h : EffLaw s) : EffLaw (reactAll r l s) := by
  unfold reactAll
  induction l generalizing s with
  | nil => exact h
  | cons x l ih => exact ih (react_effLaw r x h)

theorem reactAll_moves (r : Refresh) (l : List Reaction) (s : State) : DryerMoves s.dryer (reactAll r l s).dryer := by
  unfold reactAll
  induction l generalizing s with
  | nil => exact .refl
  | cons x l ih => exact (react_moves s r x).trans (ih _)

/-! ## The trip of a measured LEL (R120) -/

/-- The effective trip level reaches neither above the stored one nor above an override (R73). -/
theorem effective_trip_le {c : Scalars} {o : Overrides} {m : AnalyzerMode} {v : Nat}
    (h : c.trip ≤ v ∨ ∃ x, o.trip = some x ∧ x ≤ v) : (effectiveParams c o m).trip ≤ v := by
  simp only [effectiveParams, stricterLow]
  rcases h with h | ⟨x, hx, h⟩
  · exact Nat.le_trans (Nat.min_le_left _ _) h
  · rw [hx]; exact Nat.le_trans (Nat.min_le_right _ _) h

/-- The Dryer Safety Unit's own reaction trips a dryer under DryerLaw at a measured LEL as high as the trip level. -/
theorem dryerReaction_trips_at_lel {w : Scalars} {e : EffParams} (hc : s.scalars? = some w) (he : s.solv.eff = some e)
    (hd : TripLaw s.dryer) (hl : LelHigh s e) : (dryerReaction r s).dryer.state = .tripped := by
  cases hm : s.dryer.lelMeasured with
  | false => exact dryerReaction_lel_trips hc he ⟨hl, hm⟩
  | true => exact dryerReaction_stays_tripped hc he (hd.2.1 (.inl hm))

/-- Settles O60: the trip whatever the order of the reactions, and the Dryer Safety Unit's own reaction clause by
clause. -/
theorem measuredLelTrips : Obligations.MeasuredLelTrips := by
  unfold Obligations.MeasuredLelTrips
  refine ⟨?_, ?_⟩
  · intro us s t f w v hd hp he hf hk hn hx hc hv hle
    obtain ⟨r, u, order, hend, hperm, h1, h2, h3, h4, -⟩ :=
      backCycle_refreshes (k := Config.reactionOrder s.choices) (us := us) hf hk hn
    have ht : t = reactAll r order (takeSamples r u) :=
      (Host.Outcome.next.inj hx).symm.trans hend
    obtain ⟨l₁, l₂, -, -, ⟨b, hb⟩, hcut⟩ := reactAll_dryer hperm r (takeSamples r u)
    generalize hz : reactAll r l₁ (takeSamples r u) = z at hb
    have hzc : z.scalars? = some w := by
      rw [← hc]; exact scalars_of_comm (by simp [← hz, h2])
    have hza : z.agent.overrides = s.agent.overrides := by simp [← hz, h4]
    have hzv : z.board.measuredLel = some v := by
      rw [← hv, ht]; simp [← hz]
    have hze : EffLaw z := hz ▸ reactAll_effLaw r l₁ (effLaw_of he (by simp [h3]) (by simp [h2]) (by simp [h4]))
    obtain ⟨m, hm⟩ := hze
    rw [hzc] at hm
    have hmoves : DryerMoves s.dryer z.dryer := by
      rw [← hz, ← h1]; exact reactAll_moves r l₁ (takeSamples r u)
    have htrip : (dryerReaction r z).dryer.state = .tripped :=
      dryerReaction_trips_at_lel hzc hm (hmoves.keeps_trip hd.2) ⟨v, hzv, effective_trip_le (by rw [hza]; exact hle)⟩
    have hts : t.dryer.state = .tripped := by rw [ht]; exact hb.tripped htrip
    have hall : DryerMoves s.dryer t.dryer := by
      rw [ht, ← h1]; exact reactAll_moves r order (takeSamples r u)
    refine ⟨hts, ?_⟩
    rw [hall.keeps_permit ((permitLaw_iff s).1 hp), hts]
    rfl
  · intro r s t w e high thrown paused hc he ht hh hth hpa
    have ht : t = dryerReaction r s := ht
    subst ht
    have ho : high ∧ s.dryer.lelMeasured = false ↔ LelOnset s e := by rw [hh]; rfl
    obtain ⟨c1, c2, c3⟩ := dryerReaction_cleared (r := r) hc he
    refine ⟨State.eq_of_blocks (by simp) (by simp) (by simp) (by simp) (by simp) (by simp) (by simp) (by simp) (by simp)
        (by simp) (by simp) rfl rfl rfl rfl (by simp),
      (dryerReaction_lel hc he).trans hh.symm, fun a b => dryerReaction_lel_trips hc he (ho.1 ⟨a, b⟩), c1, c2, c3,
      fun a => ?_, fun hf hl => ?_, fun k hk => dryerReaction_flame_unmapped hc he hk,
      fun k hk => dryerReaction_flame hc he hk, dryerReaction_stays_tripped hc he, dryerReaction_trips hc he,
      fun hn => ⟨dryerReaction_unpurged hc he hn, fun hs => ?_, dryerReaction_purged hc he hn,
        dryerReaction_firing hc he hn⟩⟩
    · rw [dryerReaction_exhaust hc he]
      exact beforeFlames_exhaust_idle he (a.imp id ho.1)
    · have hl := mt ho.2 hl
      exact ⟨dryerReaction_exhaust_lost hc he hf hl, fun q hq =>
        ⟨dryerReaction_exhaust_high hc he hf hl hq, fun hlt n hn => dryerReaction_exhaust_low hc he hf hl hq hlt hn⟩⟩
    · exact ⟨fun a => dryerReaction_purge_thrown hc he hn hs (hth.1 a),
        fun a b => dryerReaction_purge_paused hc he hn hs (mt hth.2 a) (hpa.1 b),
        fun a b q n hq hs' => dryerReaction_purge_counts hc he hn hs (mt hth.2 a) (mt hpa.2 b) hq hs'⟩

end Sys2Proof.Machine
end

section
/-! PROOF. Which commands can move the dryer or the stored record at all; O59 and O58. -/

namespace Sys2Proof.Machine

variable {s t : State} {p : Place} {c : Instr}

/-- The dryer and the stored commissioning record stand. -/
def Untouched (s t : State) : Prop := t.dryer = s.dryer ∧ t.comm.stored = s.comm.stored

theorem Untouched.refl (s : State) : Untouched s s := ⟨rfl, rfl⟩

/-- The commands that can move the dryer or the stored record. -/
def movesSafety (c : Instr) : Bool :=
  match c with
  | .frameEnd _ _ | .solventEvaluationComplete | .silenceTimerExpiry | .purgeHoldExpiry | .store | .storeWriteComplete
  | .startPurge | .abortPurge | .resetTrip | .serviceResetWaitExpiry | .powerOn | .resetPinAssert | .supplyLoss => true
  | _ => false

theorem writeItem_untouched {tb : Table} {n : Nat} (h : writeItem tb n p s = some t) : Untouched s t := by
  obtain ⟨_, _, rfl⟩ := writeItem_moves h
  exact .refl s

theorem emptyList_untouched (tb : Table) : Untouched s (emptyList tb s) := by
  obtain ⟨_, _, h⟩ := emptyList_moves tb s
  rw [h]
  exact .refl s

theorem clearCounters_untouched (l : List Nat) : Untouched s (l.foldl clearCounter s) := by
  have hc : ∀ (u : State) n, (clearCounter u n).dryer = u.dryer ∧ (clearCounter u n).comm = u.comm := fun u n => by
    unfold clearCounter; split <;> exact ⟨rfl, rfl⟩
  exact ⟨foldl_keeps clearCounter State.dryer (fun u n => (hc u n).1) l s,
    congrArg (fun m => m.stored) (foldl_keeps clearCounter State.comm (fun u n => (hc u n).2) l s)⟩

/-- Every other command leaves both. -/
theorem exec_untouched (hc : movesSafety c = false) (he : exec c s = .next t) : Untouched s t := by
  have hs := Untouched.refl s
  have sv : ∀ want body, (∀ p, Untouched s (body p s).1) → Untouched s (serve want body s) := fun want body hb =>
    serve_keeps (P := Untouched s) s want body (fun r u h => by simpa [Untouched] using h) (fun p _ => hb p) hs
  have sn : ∀ want need body, (∀ p, Untouched s (body p s).1) → Untouched s (serve want (needing need body) s) :=
    fun want need body hb => sv _ _ fun p => needing_keeps (P := Untouched s) s need body p (hb p) hs
  cases c with
  | frameArrival d b l => cases he; simp [Untouched]
  | commandPassage i => cases he; simp [Untouched]
  | statusSlotWrite i => cases he; simp [Untouched]
  | requestTaking i => cases he; simp [Untouched]
  | replyPlaceFill i => cases he; simp [Untouched]
  | resumeTimerExpiry => cases he; simp [Untouched]
  | scheduleEvaluationComplete => cases he; simp [Untouched]
  | breakInChange l => cases he; simp [Untouched]
  | alertGapExpiry => cases he; simp [Untouched]
  | bankCheckEnd => cases he; simp [Untouched]
  | resetPinRelease => cases he; show Untouched s (resetPinRelease s); unfold resetPinRelease; simp only []; split <;> exact hs
  | storeLoadComplete => cases he; show Untouched s (storeLoadComplete s); unfold storeLoadComplete; split <;> simp [Untouched, takeLoaded]
  | unknownRequest => cases he; exact sv _ _ fun _ => hs
  | identify => cases he; exact sn _ _ _ fun _ => hs
  | clearResetCause => cases he; exact sn _ _ _ fun _ => hs
  | readTripCapture => cases he; exact sn _ _ _ fun _ => hs
  | openWindow =>
    cases he
    refine sv _ _ fun p => ?_
    rcases openWindow_state p s with q | ⟨w, q⟩ | ⟨tb, w, -, -, -, q⟩ <;> rw [q]
    · exact hs
    · exact hs
    · exact emptyList_untouched (s := shutWindow s) tb
  | writeNext =>
    cases he
    refine sv _ _ fun p => ?_
    rcases writeNext_state p s with ⟨w, q⟩ | ⟨w, u, x, -, -, -, -, i, q⟩ <;> rw [q]
    · exact hs
    · obtain ⟨h1, h2⟩ := writeItem_untouched i
      exact ⟨h1, h2⟩
  | readNext => cases he; exact sv _ _ fun p => by obtain ⟨w, q⟩ := readNext_state p s; rw [q]; exact hs
  | closeWindow => cases he; exact sv _ _ fun p => by obtain ⟨w, q⟩ := closeWindow_state p s; rw [q]; exact hs
  | sealBank =>
    cases he
    exact sn _ _ _ fun p => by rcases sealBank_state p s with q | ⟨b, -, -, -, q⟩ <;> rw [q] <;> exact hs
  | clearBank =>
    cases he
    exact sn _ _ _ fun p => by rcases clearBank_state p s with q | ⟨b, -, q⟩ <;> rw [q] <;> exact hs
  | activateBank =>
    cases he
    exact sn _ _ _ fun p => by rcases activateBank_state p s with q | ⟨b, m, -, q⟩ <;> rw [q] <;> simp [Untouched]
  | cancelActivation =>
    cases he
    exact sn _ _ _ fun p => by rcases cancelActivation_state p s with q | q <;> rw [q] <;> exact hs
  | reload =>
    cases he
    exact sn _ _ _ fun p => by rcases reload_state p s with q | ⟨-, q⟩ <;> rw [q] <;> exact hs
  | setPreheat => cases he; exact sn _ _ _ fun p => by obtain ⟨b, q⟩ := setPreheat_state p s; rw [q]; exact hs
  | release =>
    cases he
    exact sn _ _ _ fun p => by rcases judgeRelease_state p s true with q | ⟨r, -, -, q⟩ <;> rw [release, q] <;> exact hs
  | reclaim =>
    cases he
    exact sn _ _ _ fun p => by rcases judgeRelease_state p s false with q | ⟨r, -, -, q⟩ <;> rw [reclaim, q] <;> exact hs
  | resumeDiscard =>
    cases he
    exact sn _ _ _ fun p => by rcases resumeDiscard_state p s with q | q <;> rw [q] <;> simp [Untouched]
  | takeIncidents =>
    cases he
    exact sn _ _ _ fun p => by rcases takeIncidents_state p s with q | ⟨n, q⟩ <;> rw [q] <;> simp [Untouched]
  | setOverride =>
    cases he
    exact sn _ _ _ fun p => by rcases setOverride_state p s with q | ⟨a, v, -, -, -, q⟩ <;> rw [q] <;> exact hs
  | clearOverride =>
    cases he
    exact sn _ _ _ fun p => by rcases clearOverride_state p s with q | ⟨o, q, -⟩ <;> rw [q] <;> exact hs
  | readCounters =>
    cases he
    refine sn _ _ _ fun p => ?_
    rcases readCounters_state p s with q | ⟨a, b, q⟩ <;> rw [q]
    · exact hs
    · exact clearCounters_untouched _
  | resetPart =>
    cases he
    exact sn _ _ _ fun p => by rcases resetPart_state p s with q | ⟨-, q⟩ <;> rw [q] <;> exact hs
  | _ => cases hc

end Sys2Proof.Machine
end

section
/-! PROOF. O58: the stored record, and O59: the rise of PERMIT. -/

namespace Sys2Proof.Machine

variable {s t : State} {p : Place} {c : Instr} {r : Refresh}

/-! ## The stored record (R183, R185) -/

theorem stored_keptAtEnd (x : Option CommRecord) : KeptAtEnd fun t => t.comm.stored = x := by
  constructor
  case serviceReset => exact fun s h => h
  all_goals intros; simpa using ‹_ = x›

theorem storeCompletion_stored (s : State) : (storeCompletion s).comm.stored = some s.comm.working := by
  unfold storeCompletion bringIntoForce
  simp only []
  split <;> simp

/-- Settles O58: of the commands that can move the stored record, only an accepted STORE and its completion do. -/
theorem storedRecordChanges : Obligations.StoredRecordChanges := by
  unfold Obligations.StoredRecordChanges
  intro c s t he hne
  by_cases hc : movesSafety c = false
  · exact absurd (exec_untouched hc he).2 hne
  have sn : ∀ want need body, (∀ p, (body p s).1.comm.stored = s.comm.stored) →
      (serve want (needing need body) s).comm.stored = s.comm.stored := fun want need body hb =>
    serve_keeps (P := fun u => u.comm.stored = s.comm.stored) s _ _ (fun r u h => by simpa using h)
      (fun p _ => needing_keeps (P := fun u => u.comm.stored = s.comm.stored) s need body p (hb p) rfl) rfl
  cases c with
  | store =>
    cases he
    refine .inl ⟨rfl, ?_⟩
    change (serve (isCode 11) (needing 0 storeRequest) s).comm.stored ≠ _ at hne
    rcases serve_cases s (isCode 11) (needing 0 storeRequest) with e | ⟨p, -, -, -, e⟩
    · exact absurd (by rw [e]) hne
    · have hb : (needing 0 storeRequest p s).1 ≠ s := fun a => hne (by rw [e]; simp [a])
      have hq := (needing_state p s 0 storeRequest).resolve_left hb
      obtain ⟨-, hd, hk, hst⟩ := (storeRequest_state p s).resolve_left (hq ▸ hb)
      change (serve (isCode 11) (needing 0 storeRequest) s).comm.stored = none
        ∧ (serve (isCode 11) (needing 0 storeRequest) s).agent.storeRunning = true ∧ _
      rw [e, hq, hst]
      exact ⟨by simp, by simp, hk, hd⟩
  | storeWriteComplete =>
    cases he
    refine .inr ⟨rfl, ?_⟩
    change (storeWriteComplete s).comm.stored ≠ _ at hne
    show _ ∧ (storeWriteComplete s).comm.stored = _
    unfold storeWriteComplete at hne ⊢
    split
    · exact ⟨by assumption, storeCompletion_stored s⟩
    · rename_i h
      rw [if_neg h] at hne
      exact absurd rfl hne
  | frameEnd d us => cases he; exact absurd ((stored_keptAtEnd _).frameEnd _ d us s rfl) hne
  | solventEvaluationComplete => cases he; exact absurd (by simp) hne
  | silenceTimerExpiry => cases he; exact absurd (by simp) hne
  | purgeHoldExpiry => cases he; exact absurd (by simp) hne
  | startPurge =>
    cases he
    refine absurd (sn _ _ _ fun p => ?_) hne
    rcases startPurge_state p s with q | ⟨-, -, -, -, q⟩ <;> rw [q]
  | abortPurge =>
    cases he
    refine absurd (sn _ _ _ fun p => ?_) hne
    rcases abortPurge_state p s with q | ⟨-, q⟩ <;> rw [q]
  | resetTrip =>
    cases he
    refine absurd (sn _ _ _ fun p => ?_) hne
    rcases resetTrip_state p s with q | ⟨-, -, -, q⟩ <;> rw [q]
    simp
  | serviceResetWaitExpiry =>
    cases he
    refine absurd ?_ hne
    show (serviceResetWaitExpiry s).comm.stored = _
    unfold serviceResetWaitExpiry
    split <;> rfl
  | powerOn =>
    cases he
    refine absurd ?_ hne
    show (powerOn s).comm.stored = _
    unfold powerOn
    repeat' split
    all_goals rfl
  | resetPinAssert =>
    cases he
    refine absurd ?_ hne
    show (resetPinAssert s).comm.stored = _
    unfold resetPinAssert
    simp only []
    repeat' split
    all_goals rfl
  | supplyLoss => cases he; exact absurd rfl hne
  | _ => exact absurd rfl hc

/-! ## Commands other than a frame end leave a low PERMIT low (R116) -/

/-- PERMIT low in a dryer that is not burning. -/
def Low (d : DryerUnit) : Prop := d.permit = false ∧ d.state.burning = false

theorem low_iff {d : DryerUnit} (h : d.permit = d.state.burning) : Low d ↔ d.permit = false := by
  unfold Low; rw [← h]; simp

theorem Judged.low {trip : Prop} {d e : DryerUnit} (h : Judged trip d e) (hd : Low d) : Low e := by
  by_cases ht : trip
  · refine ⟨?_, by rw [h.state ht]; rfl⟩
    by_cases hs : d.state = .tripped
    · rw [h.stays hs, hd.1]
    · exact h.permit ht hs
  · obtain ⟨h1, h2, -⟩ := h.quiet ht
    exact ⟨h2.trans hd.1, by rw [h1]; exact hd.2⟩

/-- A change of the dryer that is no change between its other states leaves PERMIT low. -/
theorem onset_low (x : SafetyCondition) (sub : Subject) (v : Option Int) (h : Low s.dryer) :
    Low (onset x sub v s).dryer :=
  (onset_judged trivial (SameStanding.refl _) rfl rfl x sub v).low h

theorem solvent_low (n : Nat) (h : Low s.dryer) : Low (solventEvaluationComplete n s).dryer := by
  have hp : ∀ (q : SolvPub) (u : State), Low u.dryer → Low (judgePredicted q u).dryer := fun q u hu => by
    unfold judgePredicted
    simp only []
    repeat' split
    all_goals first | exact hu | exact onset_low _ _ _ hu
  unfold solventEvaluationComplete publishSolvent
  split
  · simp only []
    split
    · simp only [judgePublication_frame]
      exact hp _ _ h
    · exact hp _ _ (by simpa using h)
  · exact h

theorem silentEntry_low (h : Low s.dryer) : Low (silentEntry s).dryer := by
  have hb := h.2
  unfold silentEntry
  split <;> rename_i hs
  · rw [hs] at hb; cases hb
  · rw [hs] at hb; cases hb
  · simp only [setDryer_dryer]
    exact ⟨rfl, rfl⟩
  · exact h
  · exact h

theorem silence_low (h : Low s.dryer) : Low (silenceTimerExpiry s).dryer := by
  unfold silenceTimerExpiry enterSilent
  split
  · exact silentEntry_low h
  · exact h

theorem purgeHold_low (h : Low s.dryer) : Low (purgeHoldExpiry s).dryer := by
  unfold purgeHoldExpiry
  split
  · simp only [offer_frame, setDryer_dryer]
    exact ⟨rfl, rfl⟩
  · exact h

theorem storeWrite_low (h : Low s.dryer) : Low (storeWriteComplete s).dryer := by
  have hc : ∀ u : State, Low u.dryer → Low (commandsAtStore u).dryer := fun u hu => by
    unfold commandsAtStore
    simp only []
    split <;> exact hu
  unfold storeWriteComplete
  split
  · have h1 := hc (boardAtStore (bringIntoForce s)) (by simpa using h)
    simpa [storeCompletion, Low, flamesAtStore] using h1
  · exact h

/-- PERMIT stays low through every command but a frame end. -/
theorem exec_low (hc : ∀ d us, c ≠ .frameEnd d us) (he : exec c s = .next t) (h : Low s.dryer) : Low t.dryer := by
  by_cases hm : movesSafety c = false
  · rw [(exec_untouched hm he).1]; exact h
  have sn : ∀ want need body, (∀ p, Low (body p s).1.dryer) → Low (serve want (needing need body) s).dryer :=
    fun want need body hb => serve_keeps (P := fun u => Low u.dryer) s _ _ (fun r u h => by simpa using h)
      (fun p _ => needing_keeps (P := fun u => Low u.dryer) s need body p (hb p) h) h
  have hr : ∀ p c (u : State), Low (enterReset p c u).dryer := fun _ _ _ => ⟨rfl, rfl⟩
  cases c with
  | frameEnd d us => exact absurd rfl (hc d us)
  | solventEvaluationComplete => cases he; exact solvent_low _ h
  | silenceTimerExpiry => cases he; exact silence_low h
  | purgeHoldExpiry => cases he; exact purgeHold_low h
  | store =>
    cases he
    exact sn _ _ _ fun p => by rcases storeRequest_state p s with q | ⟨-, -, -, q⟩ <;> rw [q] <;> exact h
  | storeWriteComplete => cases he; exact storeWrite_low h
  | startPurge =>
    cases he
    refine sn _ _ _ fun p => ?_
    rcases startPurge_state p s with q | ⟨-, -, -, -, q⟩ <;> rw [q]
    · exact h
    · exact ⟨rfl, rfl⟩
  | abortPurge =>
    cases he
    refine sn _ _ _ fun p => ?_
    rcases abortPurge_state p s with q | ⟨-, q⟩ <;> rw [q]
    · exact h
    · exact ⟨rfl, rfl⟩
  | resetTrip =>
    cases he
    refine sn _ _ _ fun p => ?_
    rcases resetTrip_state p s with q | ⟨-, -, -, q⟩ <;> rw [q]
    · exact h
    · simp only [acceptReset, offer_frame, setDryer_dryer]
      exact ⟨rfl, rfl⟩
  | serviceResetWaitExpiry => cases he; exact waitExpiry_keeps (P := fun u => Low u.dryer) hr h
  | powerOn => cases he; exact powerOn_keeps (P := fun u => Low u.dryer) hr h
  | resetPinAssert => cases he; exact pinAssert_keeps (P := fun u => Low u.dryer) hr h h
  | supplyLoss => cases he; exact hr _ _ _
  | _ => exact absurd rfl hm

/-! ## The frame end at which PERMIT rises (R129, R131) -/

theorem readValue_range (x : Role) (w : Word) : x.lowest ≤ readValue x w ∧ readValue x w ≤ x.highest := by
  unfold readValue
  split
  · rename_i h
    cases x <;> simp_all [Role.isBinary, Role.lowest, Role.highest] <;> split <;> decide
  · have hx : x.lowest ≤ x.highest := by cases x <;> simp [Role.lowest, Role.highest]
    unfold clampToRange
    omega

/-- A GOOD record right after a refresh is what a GOOD slot brought, in its role's range (R25, R26). -/
theorem takeRecord_fresh_range {k : RecKey} {x : BoardRec} {v : Int} (hq : (takeRecord s r k x).quality = .good)
    (hv : (takeRecord s r k x).value = some v) : k.role.lowest ≤ v := by
  unfold takeRecord at hq hv
  split at hq
  · rename_i w hw
    rw [hw] at hv
    simp only [updateRec, Option.some.injEq] at hv
    exact hv ▸ (readValue_range k.role w).1
  · unfold ageRec at hq
    simp only [] at hq
    repeat' split at hq
    all_goals cases hq

theorem takeSamples_fresh_range {x : Role} {v : Int} (h : (takeSamples r s).board.fresh x = some v) : x.lowest ≤ v := by
  unfold Board.fresh Board.rec? at h
  have hl := lookupKey_map_snd (⟨x, false⟩ : RecKey) (fun k y => takeRecord s r k y) s.board.records
  have he : (takeSamples r s).board.records = s.board.records.map fun p => (p.1, takeRecord s r p.1 p.2) := by
    simp [takeSamples, derive]
  rw [he, hl] at h
  cases hy : lookupKey (⟨x, false⟩ : RecKey) s.board.records with
  | none => simp [hy] at h
  | some y =>
    simp only [hy, Option.map_some] at h
    split at h
    · exact takeRecord_fresh_range (k := ⟨x, false⟩) (by assumption) h
    · cases h

/-- The conditions judged, whatever the effective parameters: a judgement that may trip. -/
theorem conditionsJudged_any (r : Refresh) (s : State) : ∃ trip, Judged trip s.dryer (conditionsJudged r s).dryer := by
  have h0 : Judged False s.dryer (cleared r s).dryer := by
    rw [cleared_dryer]
    exact .of_standing id ⟨rfl, rfl, rfl, rfl⟩ rfl rfl
  obtain ⟨⟨trip, h3, -⟩, -⟩ := flames_judged r _ (flameZones_nodup s) (beforeFlames r s)
  rw [← conditionsJudged_eq] at h3
  cases he : s.solv.eff with
  | some e => exact ⟨_, (beforeFlames_judged he).trans h3⟩
  | none =>
    have h1 : judgeLelMeasured (cleared r s) = cleared r s := by
      unfold judgeLelMeasured
      split <;> simp_all
    have h2 : ∃ a, Judged a (cleared r s).dryer (beforeFlames r s).dryer := by
      unfold beforeFlames
      rw [h1]
      unfold judgeExhaustLow
      simp only []
      repeat' split
      all_goals first
        | exact ⟨False, .of_standing id ⟨rfl, rfl, rfl, rfl⟩ rfl rfl⟩
        | exact ⟨True, onset_judged trivial (by exact ⟨rfl, rfl, rfl, rfl⟩) (by rfl) (by rfl) _ _ _⟩
    obtain ⟨a, h2⟩ := h2
    exact ⟨_, (h0.trans h2).trans h3⟩

/-- PERMIT rises in the Dryer Safety Unit's own reaction only as the purge completes (R129, R131). -/
theorem dryerReaction_rises (h : Low s.dryer) (hp : (dryerReaction r s).dryer.permit = true) :
    ∃ w q, s.dryer.state = .purging ∧ s.scalars? = some w ∧ ¬ PurgeThrown w s ∧ ¬ PurgePaused r s
      ∧ s.board.fresh .exhaustFlow = some q ∧ requiredVolume w ≤ (dryerReaction r s).dryer.accumulator := by
  by_cases hk : s.commissioned = true
  · obtain ⟨w, hc⟩ := commissioned_scalars hk
    rw [dryerReaction_steps hc] at hp ⊢
    obtain ⟨trip, hj⟩ := conditionsJudged_any r s
    have hl := hj.low h
    have hs := conditionsJudged_scalars (r := r) hc
    have stays : ∀ u : State, Low u.dryer → u.dryer.permit = true → False := fun u hu ha => by
      rw [hu.1] at ha; cases ha
    have hst : (conditionsJudged r s).dryer.state = .purging := by
      refine Classical.byContradiction fun hn => ?_
      refine stays _ hl ?_
      rwa [purgeAndFlames_idle hn (fun a => by have := hl.2; rw [a] at this; cases this)
        (fun a => by have := hl.2; rw [a] at this; cases this)] at hp
    have hss : s.dryer.state = .purging := by
      rw [← (hj.not_tripped (by rw [hst]; decide)).2.1, hst]
    by_cases ht : PurgeThrown w s
    · rw [purgeAndFlames_thrown hst hs (thrown_iff.2 ht)] at hp
      exact (stays _ hl hp).elim
    · by_cases hpa : PurgePaused r s
      · rw [purgeAndFlames_paused hst hs (mt thrown_iff.1 ht) (paused_iff.2 hpa)] at hp
        exact (stays _ hl hp).elim
      · obtain ⟨q, hq⟩ := Option.ne_none_iff_exists'.1 fun a => hpa (.inr (.inl a))
        have hd := purgeAndFlames_counts hst hs (mt thrown_iff.1 ht) (mt paused_iff.1 hpa) (by simpa using hq)
        refine ⟨w, q, hss, hc, ht, hpa, hq, ?_⟩
        rw [hd] at hp ⊢
        split at hp
        · rename_i hle
          rw [if_pos hle]
          exact hle
        · exact (stays _ hl hp).elim
  · rw [dryerReaction, if_neg hk, h.1] at hp
    cases hp

/-- Every frame end but that of a BACK cycle frame which is a refresh leaves PERMIT low. -/
theorem frameEnd_low (k : Nat) (d : Dir) (us : Nat) (h : Low s.dryer)
    (hn : ¬ ∃ f, d = .back ∧ Leaving .back f s ∧ kindOf f.arrived = .cycle
      ∧ (goodFrame f.arrived = true → numbering s.line.lastCycle (cycleNumber f.arrived) ≠ .repeated)) :
    Low (frameEnd k d us s).dryer := by
  have offers : ∀ f (u : State), Low u.dryer → Low (offerErrors f u).dryer := fun f u hu => by
    unfold offerErrors; split <;> simpa using hu
  by_cases hf : ∃ f, Leaving d f s
  · obtain ⟨f, hf⟩ := hf
    cases hk : kindOf f.arrived with
    | foreign =>
      rw [frameEnd_leaving hf]
      unfold endOf
      rw [hk]
      exact h
    | service =>
      rw [frameEnd_leaving hf]
      unfold endOf
      rw [hk]
      cases d with
      | out => exact offers _ _ h
      | back =>
        simp only [backServiceEnd]
        split
        · exact ⟨rfl, rfl⟩
        · exact offers _ _ h
    | cycle =>
      cases d with
      | out =>
        rw [frameEnd_leaving hf]
        unfold endOf
        rw [hk]
        exact offers _ _ h
      | back =>
        have hr : goodFrame f.arrived = true ∧ numbering s.line.lastCycle (cycleNumber f.arrived) = .repeated := by
          refine Classical.byContradiction fun hr => ?_
          exact hn ⟨f, rfl, hf, hk, fun hg hrep => hr ⟨hg, hrep⟩⟩
        rw [frameEnd_back_repeated hf hk hr.1 hr.2]
        exact offers _ _ h
  · have hs : frameEnd k d us s = s := by
      unfold frameEnd
      split
      · rfl
      · rename_i hb
        cases hl : s.line.store d with
        | nil => rfl
        | cons f rest => exact absurd ⟨f, hb, rest, hl⟩ hf
    rw [hs]; exact h

/-- Settles O59: PERMIT stays low through every other command, and at a frame end rises only as the purge completes. -/
theorem permitRisesAtPurge : Obligations.PermitRisesAtPurge := by
  unfold Obligations.PermitRisesAtPurge
  intro c s t hl he h0 h1
  have hlow : Low s.dryer := (low_iff ((permitLaw_iff s).1 hl)).2 h0
  have rises : ∀ d : DryerUnit, Low d → d.permit = true → False := fun d hd ha => by rw [hd.1] at ha; cases ha
  by_cases hc : ∀ d us, c ≠ .frameEnd d us
  · exact (rises _ (exec_low hc he hlow) h1).elim
  · simp only [Classical.not_forall, Classical.not_not] at hc
    obtain ⟨d, us, rfl⟩ := hc
    have ht : t = frameEnd (Config.reactionOrder s.choices) d us s := (Host.Outcome.next.inj he).symm
    subst ht
    refine Classical.byContradiction fun hno => ?_
    refine rises _ (frameEnd_low _ d us hlow ?_) h1
    rintro ⟨f, rfl, hf, hk, hn⟩
    obtain ⟨r, u, order, hend, hperm, e1, e2, -, -, -, hreg⟩ :=
      backCycle_refreshes (k := Config.reactionOrder s.choices) (us := us) hf hk hn
    obtain ⟨l₁, l₂, -, ⟨a, ha⟩, ⟨b, hb⟩, -⟩ := reactAll_dryer hperm r (takeSamples r u)
    generalize hz : reactAll r l₁ (takeSamples r u) = z at ha hb
    have hzl : Low z.dryer := ha.low (by simpa [e1] using hlow)
    have hzc : z.comm = s.comm := by simp [← hz, e2]
    have hzb : ∀ x, z.board.fresh x = (takeSamples r u).board.fresh x := fun x => by
      simp [Board.fresh, Board.rec?, ← hz]
    rw [hend] at h1 hno
    have htb : ∀ x, (reactAll r order (takeSamples r u)).board.fresh x = (takeSamples r u).board.fresh x := fun x => by
      simp [Board.fresh, Board.rec?]
    have hd1 : (dryerReaction r z).dryer.permit = true := by
      refine Classical.byContradiction fun hn1 => ?_
      have hm : DryerMoves z.dryer (dryerReaction r z).dryer := dryerReaction_moves z r
      have hpl := hm.keeps_permit (hzl.1.trans hzl.2.symm)
      exact rises _ (hb.low ((low_iff hpl).2 (by simpa using hn1))) h1
    obtain ⟨w, q, hst, hsc, hth, hpa, hq, hacc⟩ := dryerReaction_rises hzl hd1
    obtain ⟨t1, t2, t3⟩ : ¬ _ ∧ ¬ _ ∧ ¬ _ := by simpa only [PurgeThrown, not_or] using hth
    obtain ⟨p1, p2, p3⟩ : ¬ _ ∧ ¬ _ ∧ ¬ _ := by simpa only [PurgePaused, not_or] using hpa
    have hq0 : (0 : Int) ≤ q := takeSamples_fresh_range ((hzb _).symm.trans hq)
    have hs0 : s.dryer.state = .purging := by
      have := (ha.not_tripped (by rw [hst]; decide)).2.1
      rw [hst] at this
      simpa [e1] using this.symm
    refine hno ⟨us, f, w, q, rfl, hf, hk, hreg (by simpa using p1), hs0, (scalars_of_comm hzc).symm.trans hsc, ?_, ?_, ?_, ?_⟩
    · rw [hb.accumulator]; exact hacc
    · rw [htb, ← hzb]; exact hq
    · have : ¬ q.toNat < w.purgeMin := fun hlt => t3 ⟨q, hq, hlt⟩
      omega
    · intro k hk
      rw [htb, ← hzb]
      refine Classical.byContradiction fun hne => ?_
      exact p3 ⟨k, by rwa [flameZones_of_comm hzc], hne⟩

end Sys2Proof.Machine
end

section
/-! PROOF. What the operations on the line leave of the elastic stores (R3, R5), and O53. -/

namespace Sys2Proof.Machine

variable {s t : State} {f : Transit}

/-! ## Bytes written into a frame -/

theorem overwrite_length {bs new : List Byte} {i : Nat} (h : i + new.length ≤ bs.length) :
    (overwrite bs i new).length = bs.length := by
  simp only [overwrite, List.length_append, List.length_take, List.length_drop]
  omega

theorem overwrite_take {bs new : List Byte} {i k : Nat} (hk : k ≤ i) (h : i ≤ bs.length) :
    (overwrite bs i new).take k = bs.take k := by
  unfold overwrite
  rw [List.take_append_of_le_length (by simp; omega), List.take_take, Nat.min_eq_left hk]

theorem replyPart_length (node : Nat) (tag : Byte) (r : Reply) (n : Nat) : (replyPart node tag r n).length = 17 := by
  have h : (partData r n).length ≤ 12 := by simp [partData, Nat.min_le_left]
  simp only [replyPart, List.length_append, List.length_cons, List.length_nil, List.length_replicate]
  omega

theorem slotAt_length {bs : List Byte} {i : Nat} {x : Slot} (h : slotAt bs i = some x) :
    slotOffset i + 5 ≤ bs.length := by
  unfold slotAt at h
  split at h
  · unfold parseSlot at h
    split at h
    · rename_i hd
      have := congrArg List.length hd
      simp only [List.length_drop, List.length_cons] at this
      omega
    · cases h
  · cases h

theorem requestAt_length {bs x : List Byte} {i : Nat} (h : requestAt bs i = some x) :
    requestOffset i + 16 ≤ bs.length := by
  unfold requestAt at h
  simp only [] at h
  split at h
  · rename_i hl
    have := hl.2
    simp only [List.length_take, List.length_drop] at this
    omega
  · cases h

theorem freePlaceAt_length {bs : List Byte} {i : Nat} (h : freePlaceAt bs i = true) :
    replyOffset bs i + 17 ≤ bs.length := by
  simp only [freePlaceAt, Bool.and_eq_true, decide_eq_true_eq] at h
  exact h.1.2

/-- Bytes written behind the header of a frame in transit, within it, keep its law. -/
theorem TransitKept.written {new : List Byte} {i : Nat} (h : TransitKept f) (hh : headerLength (kindOf f.arrived) ≤ i)
    (hl : i + new.length ≤ f.arrived.length) : TransitKept { f with forwarded := overwrite f.forwarded i new } := by
  obtain ⟨h1, h2, h3⟩ := h
  refine ⟨?_, ?_, h3⟩
  · show (overwrite f.forwarded i new).length = f.arrived.length
    rw [overwrite_length (by omega), h1]
  · show (overwrite f.forwarded i new).take _ = f.arrived.take _
    rw [overwrite_take hh (by omega), h2]

theorem TransitKept.passed {n : Nat} (h : TransitKept f) (hn : f.cursor ≤ n) : TransitKept { f with cursor := n } := by
  obtain ⟨h1, h2, h3⟩ := h
  refine ⟨h1, h2, ?_⟩
  show f.captured.length ≤ min 96 n
  omega

theorem TransitKept.passedTo {n : Nat} (h : TransitKept f) (hn : f.cursor ≤ n) (m : List SlotEntry) :
    TransitKept { f with cursor := n + 1, captured := captureTo m n f } := by
  obtain ⟨h1, h2, h3⟩ := h
  refine ⟨h1, h2, ?_⟩
  have := captureTo_length m h3 (.inl hn)
  show (captureTo m n f).length ≤ min 96 (n + 1)
  omega

theorem transitKept_new (d : Dir) (b : Byte) (l : List Byte) (s : State) : TransitKept (newTransit d b l s) :=
  ⟨rfl, rfl, Nat.zero_le _⟩

theorem headerLength_cycle_le (i : Nat) (h : kindOf f.arrived = .cycle) :
    headerLength (kindOf f.arrived) ≤ slotOffset i := by
  rw [h]; simp [headerLength, slotOffset]

theorem headerLength_service_le_request (i : Nat) (h : kindOf f.arrived = .service) :
    headerLength (kindOf f.arrived) ≤ requestOffset i := by
  rw [h]; simp [headerLength, requestOffset]

theorem headerLength_service_le_reply (i : Nat) (h : kindOf f.arrived = .service) :
    headerLength (kindOf f.arrived) ≤ replyOffset f.arrived i := by
  rw [h]; simp only [headerLength, replyOffset]; omega

/-! ## The stores under the line's own changes -/

/-- Both elastic stores stand. -/
def SameStores (l m : LineIf) : Prop := m.outStore = l.outStore ∧ m.backStore = l.backStore

theorem countFrame_stores (d : Dir) (f : Transit) (l : LineIf) : SameStores l (countFrame d f l) := by
  unfold countFrame
  simp only []
  repeat' split
  all_goals exact ⟨rfl, rfl⟩

theorem dropSync_stores (l : LineIf) : SameStores l (dropSync l) := by
  unfold dropSync; split <;> exact ⟨rfl, rfl⟩

theorem outCycleLine_stores (f : Transit) (l : LineIf) : SameStores l (outCycleLine f l) := by
  unfold outCycleLine
  split
  · exact ⟨rfl, rfl⟩
  · exact dropSync_stores l

theorem repeatedLine_stores (l : LineIf) : SameStores l (repeatedLine l) :=
  dropSync_stores { l with irregular := bump32 l.irregular }

theorem poisonedBackLine_stores (l : LineIf) : SameStores l (poisonedBackLine l) :=
  dropSync_stores { l with lastCycle := l.lastCycle.map fun c => c + 1 }

theorem SameStores.trans {l m n : LineIf} (h : SameStores l m) (g : SameStores m n) : SameStores l n :=
  ⟨g.1.trans h.1, g.2.trans h.2⟩

/-- A good frame changes at most the ONLINE mark of the frames in the stores (R14). -/
theorem goodBackLine_stores (c : CycleNo) (n : Nat) (l : LineIf) :
    ∃ g : Transit → Transit, (∀ x, g x = x ∨ g x = { x with sinceOnline := false })
      ∧ (goodBackLine c n l).outStore = l.outStore.map g ∧ (goodBackLine c n l).backStore = l.backStore.map g := by
  rw [goodBackLine_eq]
  refine ⟨fun f => { f with sinceOnline := f.sinceOnline && !becomesOnline c n l }, fun x => ?_, rfl, rfl⟩
  cases becomesOnline c n l
  · left; simp
  · right; simp

/-! ## Frames in the stores keep their law (R3, R5, R8) -/

/-- Every frame of both stores keeps its law. -/
def KeptStores (l : LineIf) : Prop := (∀ t ∈ l.outStore, TransitKept t) ∧ ∀ t ∈ l.backStore, TransitKept t

theorem KeptStores.same {l m : LineIf} (h : KeptStores l) (hs : SameStores l m) : KeptStores m := by
  unfold KeptStores
  rw [hs.1, hs.2]
  exact h

theorem KeptStores.goodBack {l : LineIf} (h : KeptStores l) (c : CycleNo) (n : Nat) : KeptStores (goodBackLine c n l) := by
  obtain ⟨g, hg, h1, h2⟩ := goodBackLine_stores c n l
  have keep : ∀ x, TransitKept x → TransitKept (g x) := fun x hx => by
    rcases hg x with e | e <;> rw [e] <;> exact hx
  constructor
  · rw [h1]; simpa using fun x hx => keep x (h.1 x hx)
  · rw [h2]; simpa using fun x hx => keep x (h.2 x hx)

theorem KeptStores.setOutHead {l : LineIf} (h : KeptStores l) (hf : TransitKept f) :
    KeptStores { l with outStore := f :: l.outStore.tail } := by
  refine ⟨fun x hx => ?_, h.2⟩
  rcases List.mem_cons.1 hx with rfl | hx
  · exact hf
  · exact h.1 x (List.mem_of_mem_tail hx)

theorem KeptStores.setBackHead {l : LineIf} (h : KeptStores l) (hf : TransitKept f) :
    KeptStores { l with backStore := f :: l.backStore.tail } := by
  refine ⟨h.1, fun x hx => ?_⟩
  rcases List.mem_cons.1 hx with rfl | hx
  · exact hf
  · exact h.2 x (List.mem_of_mem_tail hx)

theorem KeptStores.release {l : LineIf} (h : KeptStores l) (d : Dir) (f : Transit) : KeptStores (releasePlace d f l) := by
  cases d
  · exact ⟨fun x hx => h.1 x (List.mem_of_mem_tail hx), h.2⟩
  · exact ⟨h.1, fun x hx => h.2 x (List.mem_of_mem_tail hx)⟩

theorem keptStores_empty : KeptStores LineIf.afterReset := ⟨nofun, nofun⟩

theorem frameArrival_stores (d : Dir) (b : Byte) (l : List Byte) (h : KeptStores s.line) :
    KeptStores (frameArrival d b l s).line := by
  unfold frameArrival
  split
  · exact h
  · split
    · have hs : ∀ u : State, (bindMarks d b u).line = u.line := fun u => by unfold bindMarks; split <;> rfl
      rw [hs]
      cases d
      · refine ⟨fun x hx => ?_, h.2⟩
        rcases List.mem_append.1 hx with hx | hx
        · exact h.1 x hx
        · rw [List.mem_singleton.1 hx]; exact transitKept_new _ _ _ _
      · refine ⟨h.1, fun x hx => ?_⟩
        rcases List.mem_append.1 hx with hx | hx
        · exact h.2 x hx
        · rw [List.mem_singleton.1 hx]; exact transitKept_new _ _ _ _
    · have hs : ∀ u : State, (bindMarks d b u).line = u.line := fun u => by unfold bindMarks; split <;> rfl
      unfold overrun
      split
      · rw [hs]; exact h
      · simp only [frameErrors_frame]
        rw [hs]; exact h
      · simp only [frameErrors_frame]
        refine KeptStores.same ?_ (dropSync_stores _)
        rw [hs]; exact h

theorem passSlot_stores (i : Nat) (x : Slot) (h : KeptStores s.line) (hf : TransitKept f)
    (hk : kindOf f.arrived = .cycle) (hi : f.cursor ≤ i) (hx : slotAt f.arrived i = some x) :
    KeptStores (passSlot i f x s).line := by
  have hp := hf.passed (n := i + 1) (by omega)
  unfold passSlot
  simp only []
  split
  · exact h.setOutHead hp
  · split
    · simp only [setOutHead_line, forwardRole_frame]
      refine KeptStores.setOutHead h (hp.written ?_ ?_)
      · exact Nat.le_trans (headerLength_cycle_le i hk) (by simp)
      · have := slotAt_length hx
        show slotOffset i + 3 + 2 ≤ f.arrived.length
        omega
    · exact h.setOutHead hp

theorem commandPassage_stores (i : Nat) (h : KeptStores s.line) : KeptStores (commandPassage i s).line := by
  unfold commandPassage
  split
  · exact h
  · rename_i f _ hf
    split
    · rename_i hc
      split
      · rename_i x hx
        split
        · exact passSlot_stores i x (by simpa using h) (h.1 f (by simp [hf])) hc.1 hc.2.2.1 hx
        · exact h
      · exact h
    · exact h

theorem statusSlotWrite_stores (i : Nat) (h : KeptStores s.line) : KeptStores (statusSlotWrite i s).line := by
  unfold statusSlotWrite
  split
  · exact h
  · rename_i f _ hf
    split
    · rename_i hc
      split
      · rename_i x hx
        split
        · refine h.setBackHead ?_
          have hk : TransitKept f := h.2 f (by simp [hf])
          refine (hk.passedTo hc.2.2.2.2 s.map).written ?_ ?_
          · exact Nat.le_trans (headerLength_cycle_le i hc.2.1) (by omega)
          · have := slotAt_length hx
            show slotOffset i + 2 + 3 ≤ f.arrived.length
            omega
        · exact h
      · exact h
    · exact h

theorem requestTaking_stores (i : Nat) (h : KeptStores s.line) : KeptStores (requestTaking i s).line := by
  unfold requestTaking
  split
  · exact h
  · rename_i f _ hf
    split
    · rename_i hc
      split
      · rename_i x hx
        split
        · have hl : (takeRequest x s).line = s.line := by unfold takeRequest refuseTaking; split <;> rfl
          simp only [setOutHead_line, hl]
          refine h.setOutHead ?_
          have hk : TransitKept f := h.1 f (by simp [hf])
          refine (hk.passed (n := i + 1) (by omega)).written ?_ ?_
          · exact headerLength_service_le_request i hc.2.1
          · have := requestAt_length hx
            show requestOffset i + 16 ≤ f.arrived.length
            omega
        · exact h
      · exact h
    · exact h

theorem replyPlaceFill_stores (i : Nat) (h : KeptStores s.line) : KeptStores (replyPlaceFill i s).line := by
  unfold replyPlaceFill
  split
  · exact h
  · rename_i f _ hf
    split
    · rename_i hc
      have hk : TransitKept f := h.2 f (by simp [hf])
      have hp := hk.passed (n := i + 1) (by omega)
      have hw : ∀ node tag r n, TransitKept (fillPlace i (replyPart node tag r n) f) := fun node tag r n => by
        refine hp.written (headerLength_service_le_reply i hc.2.1) ?_
        rw [replyPart_length]
        exact freePlaceAt_length hc.2.2.2.2
      unfold fillFree
      split
      · exact h.setBackHead (hw _ _ _ _)
      · split
        · exact h.setBackHead (hw _ _ _ _)
        · exact h.setBackHead hp
    · exact h

theorem storesLaw_keptAtEnd : KeptAtEnd StoresLaw := by
  constructor
  case leave => exact fun d us f rest s _ _ h => KeptStores.release h d f
  case outCycle => exact fun f s h => KeptStores.same h ((countFrame_stores _ _ _).trans (outCycleLine_stores _ _))
  case outService => exact fun f s h => KeptStores.same h (countFrame_stores _ _ _)
  case repeated => exact fun f s h => KeptStores.same h ((countFrame_stores _ _ _).trans (repeatedLine_stores _))
  case good => exact fun f c n s _ h => (KeptStores.same h (countFrame_stores _ _ _)).goodBack c n
  case poisoned => exact fun f s h => KeptStores.same h ((countFrame_stores _ _ _).trans (poisonedBackLine_stores _))
  case backService => exact fun f s h => KeptStores.same h (countFrame_stores _ _ _)
  case serviceReset => exact fun _ _ => keptStores_empty
  all_goals intros; simpa [StoresLaw] using ‹StoresLaw _›

theorem storesLaw_kept : Kept StoresLaw := by
  have hr : ∀ p c s, StoresLaw (enterReset p c s) := fun _ _ _ => keptStores_empty
  constructor
  case frameArrival => exact fun d b l s h => frameArrival_stores d b l h
  case commandPassage => exact fun i s h => commandPassage_stores i h
  case statusSlotWrite => exact fun i s h => statusSlotWrite_stores i h
  case requestTaking => exact fun i s h => requestTaking_stores i h
  case replyPlaceFill => exact fun i s h => replyPlaceFill_stores i h
  case frameEnd => exact fun n d us s h => storesLaw_keptAtEnd.frameEnd n d us s h
  case silence =>
    intro s h
    unfold silenceTimerExpiry enterSilent
    split
    · simp only [StoresLaw, silentEntry_frame]; exact h
    · exact h
  case waitExpiry => exact fun s h => waitExpiry_keeps hr h
  case powerOn => exact fun s h => powerOn_keeps hr h
  case supplyLoss => exact fun s _ => hr _ _ _
  case pinAssert => exact fun s h => pinAssert_keeps hr h h
  case pinRelease => intro s h; unfold resetPinRelease; simp only []; split <;> exact h
  case loadComplete => intro s h; unfold storeLoadComplete; split <;> simpa [StoresLaw, openRelay] using h
  case storeWrite => intro s h; unfold storeWriteComplete; split <;> simpa [StoresLaw, storeCompletion] using h
  case clearCounter => intro s n _ h; unfold clearCounter; split <;> exact h
  case writeItem =>
    intro w p s u _ _ _ _ hw h
    obtain ⟨_, _, rfl⟩ := writeItem_moves hw
    exact h
  all_goals intros; simpa [StoresLaw] using ‹StoresLaw _›

/-! ## The line state (R1, R3, R14, R15) -/

end Sys2Proof.Machine
end

section
/-! PROOF. The line state's agreement (R1, R3, R14, R15), the places and marks (R167, R168), and O53. -/

namespace Sys2Proof.Machine

variable {s t : State} {f : Transit}

/-! ## The line by itself -/

/-- The agreement of relay, silence timer, sync count and stores with the line state (R1, R3, R14, R15). -/
structure LineSound (l : LineIf) : Prop where
  relay : l.relayClosed = true ↔ l.state = .bypass
  silence : l.silence.isSome = true ↔ l.state = .syncing ∨ l.state = .online
  online : l.state = .online → l.syncCount = 8
  syncing : l.state = .syncing → l.syncCount < 8
  idle : l.state = .silent ∨ l.state = .bypass → l.syncCount = 0
  bypass : l.state = .bypass → l.outStore = [] ∧ l.backStore = []
  out : l.outStore.length ≤ 2
  back : l.backStore.length ≤ 2
  remembered : l.remembered.length ≤ 2

theorem lineLaw_iff : LineLaw s ↔ (s.line.state = .bypass ↔ s.phase ≠ .running) ∧ LineSound s.line :=
  ⟨fun ⟨h1, h2, h3, h4, h5, h6, h7, h8, h9, h10⟩ => ⟨h1, ⟨h2, h3, h4, h5, h6, h7, h8, h9, h10⟩⟩,
    fun ⟨h1, ⟨h2, h3, h4, h5, h6, h7, h8, h9, h10⟩⟩ => ⟨h1, h2, h3, h4, h5, h6, h7, h8, h9, h10⟩⟩

/-- A change of the line that keeps the parts the law speaks of, the stores no longer than they were. -/
theorem LineSound.same {l m : LineIf} (h : LineSound l) (h1 : m.state = l.state) (h2 : m.relayClosed = l.relayClosed)
    (h3 : m.silence = l.silence) (h4 : m.syncCount = l.syncCount) (h5 : m.outStore.length ≤ l.outStore.length)
    (h6 : m.backStore.length ≤ l.backStore.length) (h7 : m.remembered.length ≤ 2) : LineSound m where
  relay := by rw [h1, h2]; exact h.relay
  silence := by rw [h1, h3]; exact h.silence
  online := by rw [h1, h4]; exact h.online
  syncing := by rw [h1, h4]; exact h.syncing
  idle := by rw [h1, h4]; exact h.idle
  bypass hb := by
    obtain ⟨ho, hk⟩ := h.bypass (h1 ▸ hb)
    simp only [ho, hk, List.length_nil, Nat.le_zero, List.length_eq_zero_iff] at h5 h6
    exact ⟨h5, h6⟩
  out := Nat.le_trans h5 h.out
  back := Nat.le_trans h6 h.back
  remembered := h7

theorem LineSound.dropSync {l : LineIf} (h : LineSound l) : LineSound (dropSync l) := by
  unfold Machine.dropSync
  split
  · rename_i hs
    exact ⟨h.relay, h.silence, fun a => by simp [hs] at a, fun _ => by simp, fun _ => rfl, h.bypass, h.out, h.back,
      h.remembered⟩
  · exact h

theorem dropSync_state (l : LineIf) : (dropSync l).state = l.state := by
  unfold dropSync; split <;> rfl

theorem LineSound.countFrame {l : LineIf} (h : LineSound l) (d : Dir) (f : Transit) : LineSound (countFrame d f l) := by
  unfold Machine.countFrame
  simp only []
  repeat' split
  all_goals exact h.same rfl rfl rfl rfl (Nat.le_refl _) (Nat.le_refl _) h.remembered

theorem countFrame_state (d : Dir) (f : Transit) (l : LineIf) : (countFrame d f l).state = l.state := by
  unfold countFrame
  simp only []
  repeat' split
  all_goals rfl

theorem LineSound.outCycle {l : LineIf} (h : LineSound l) (f : Transit) : LineSound (outCycleLine f l) := by
  unfold outCycleLine
  split
  · exact h.same rfl rfl rfl rfl (Nat.le_refl _) (Nat.le_refl _) (by simp [remember, Nat.min_le_left])
  · exact h.dropSync

theorem outCycleLine_state (f : Transit) (l : LineIf) : (outCycleLine f l).state = l.state := by
  unfold outCycleLine
  split
  · rfl
  · exact dropSync_state l

theorem LineSound.repeated {l : LineIf} (h : LineSound l) : LineSound (repeatedLine l) :=
  (h.same (m := { l with irregular := bump32 l.irregular }) rfl rfl rfl rfl (Nat.le_refl _) (Nat.le_refl _)
    h.remembered).dropSync

theorem LineSound.poisoned {l : LineIf} (h : LineSound l) : LineSound (poisonedBackLine l) :=
  (h.same (m := { l with lastCycle := l.lastCycle.map fun c => c + 1 }) rfl rfl rfl rfl (Nat.le_refl _) (Nat.le_refl _)
    h.remembered).dropSync

theorem LineSound.release {l : LineIf} (h : LineSound l) (d : Dir) (f : Transit) : LineSound (releasePlace d f l) := by
  cases d <;> exact h.same rfl rfl rfl rfl (by simp [releasePlace, LineIf.setStore, LineIf.store])
    (by simp [releasePlace, LineIf.setStore, LineIf.store]) h.remembered

theorem releasePlace_state (d : Dir) (f : Transit) (l : LineIf) : (releasePlace d f l).state = l.state := by
  cases d <;> rfl

theorem goodBackLine_fixed (c : CycleNo) (n : Nat) (l : LineIf) :
    (goodBackLine c n l).relayClosed = l.relayClosed ∧ (goodBackLine c n l).remembered = l.remembered
      ∧ (goodBackLine c n l).outStore.length = l.outStore.length
      ∧ (goodBackLine c n l).backStore.length = l.backStore.length := by
  rw [goodBackLine_eq]
  simp

/-- A good BACK cycle frame, with the silence timer restarted (R11, R14 to R16). -/
theorem LineSound.goodBack {l : LineIf} (h : LineSound l) (hb : l.state ≠ .bypass) (c : CycleNo) (n d : Nat) :
    LineSound { goodBackLine c n l with silence := some d } ∧ (goodBackLine c n l).state ≠ .bypass := by
  obtain ⟨h1, h2, h3, h4⟩ := goodBackLine_fixed c n l
  have hs : ((goodBackLine c n l).state = .syncing ∧ (goodBackLine c n l).syncCount < 8)
      ∨ ((goodBackLine c n l).state = .online ∧ (goodBackLine c n l).syncCount = 8) := by
    cases hl : l.state with
    | bypass => exact absurd hl hb
    | silent =>
      obtain ⟨a, b⟩ := goodBackLine_of_silent c n hl
      exact .inl ⟨a, by rw [b]; split <;> omega⟩
    | online =>
      obtain ⟨a, b⟩ := goodBackLine_of_online c n hl
      exact .inr ⟨a, by rw [b]; exact h.online hl⟩
    | syncing =>
      obtain ⟨a, b⟩ := goodBackLine_of_syncing c n hl
      have hlt := h.syncing hl
      have hle : (goodBackLine c n l).syncCount ≤ 8 := by rw [b]; repeat' split
                                                          all_goals omega
      by_cases h8 : (goodBackLine c n l).syncCount = 8
      · exact .inr ⟨by rw [a, if_pos h8], h8⟩
      · exact .inl ⟨by rw [a, if_neg h8], by omega⟩
  have hr : l.relayClosed = false := by
    cases hc : l.relayClosed
    · rfl
    · exact absurd (h.relay.1 hc) hb
  rcases hs with ⟨hs, hn⟩ | ⟨hs, hn⟩
  · refine ⟨⟨?_, ?_, ?_, ?_, ?_, ?_, ?_, ?_, ?_⟩, by rw [hs]; decide⟩ <;> simp [hs, hn, h1, hr, h2, h3, h4, h.out, h.back, h.remembered]
  · refine ⟨⟨?_, ?_, ?_, ?_, ?_, ?_, ?_, ?_, ?_⟩, by rw [hs]; decide⟩ <;> simp [hs, hn, h1, hr, h2, h3, h4, h.out, h.back, h.remembered]

theorem lineSound_reset : LineSound LineIf.afterReset := by
  constructor <;> simp [LineIf.afterReset]

/-! ## The law through each operation -/

theorem LineLaw.carry (h : LineLaw s) (hp : t.phase = s.phase) (hs : t.line.state = .bypass ↔ s.line.state = .bypass)
    (hl : LineSound t.line) : LineLaw t :=
  lineLaw_iff.2 ⟨by rw [hs, hp]; exact (lineLaw_iff.1 h).1, hl⟩

theorem LineLaw.sound (h : LineLaw s) : LineSound s.line := (lineLaw_iff.1 h).2

/-- A change of the line that keeps its state. -/
theorem LineLaw.moved {l : LineIf} (h : LineLaw s) (hp : t.phase = s.phase) (ht : t.line = l)
    (hs : l.state = s.line.state) (hl : LineSound l) : LineLaw t :=
  h.carry hp (by rw [ht, hs]) (by rw [ht]; exact hl)

theorem LineSound.setOutHead {l : LineIf} (h : LineSound l) {g : Transit} {rest : List Transit}
    (hl : l.outStore = g :: rest) (f : Transit) : LineSound { l with outStore := f :: l.outStore.tail } := by
  refine h.same rfl rfl rfl rfl ?_ (Nat.le_refl _) h.remembered
  simp [hl]

theorem LineSound.setBackHead {l : LineIf} (h : LineSound l) {g : Transit} {rest : List Transit}
    (hl : l.backStore = g :: rest) (f : Transit) : LineSound { l with backStore := f :: l.backStore.tail } := by
  refine h.same rfl rfl rfl rfl (Nat.le_refl _) ?_ h.remembered
  simp [hl]

theorem passSlot_line (i : Nat) (f : Transit) (x : Slot) (s : State) :
    ∃ g, (passSlot i f x s).line = { s.line with outStore := g :: s.line.outStore.tail } := by
  unfold passSlot
  simp only []
  repeat' split
  · exact ⟨_, rfl⟩
  · exact ⟨_, by simp; rfl⟩
  · exact ⟨_, rfl⟩

theorem commandPassage_line (i : Nat) (s : State) : (commandPassage i s).line = s.line
    ∨ ∃ f g rest, s.line.outStore = g :: rest ∧ (commandPassage i s).line = { s.line with outStore := f :: rest } := by
  unfold commandPassage
  split
  · exact .inl rfl
  · rename_i g rest hg
    repeat' split
    · obtain ⟨f, hf⟩ := passSlot_line i g _ (lateForward s)
      exact .inr ⟨f, g, rest, hg, by rw [hf]; simp [hg]⟩
    all_goals exact .inl rfl

theorem lineLaw_commandPassage (i : Nat) (h : LineLaw s) : LineLaw (commandPassage i s) := by
  rcases commandPassage_line i s with e | ⟨f, g, rest, hg, e⟩
  · exact h.moved (by simp) e rfl h.sound
  · exact h.moved (by simp) e rfl (h.sound.same rfl rfl rfl rfl (by simp [hg]) (Nat.le_refl _) h.sound.remembered)

theorem lineLaw_statusSlotWrite (i : Nat) (h : LineLaw s) : LineLaw (statusSlotWrite i s) := by
  unfold statusSlotWrite
  split
  · exact h
  · rename_i hg
    repeat' split
    · exact h.moved rfl rfl rfl (h.sound.setBackHead hg _)
    all_goals exact h

theorem lineLaw_requestTaking (i : Nat) (h : LineLaw s) : LineLaw (requestTaking i s) := by
  unfold requestTaking
  split
  · exact h
  · rename_i hg
    repeat' split
    · exact h.carry (by simp) (by simp) (by simpa using h.sound.setOutHead hg _)
    all_goals exact h

theorem lineLaw_replyPlaceFill (i : Nat) (h : LineLaw s) : LineLaw (replyPlaceFill i s) := by
  unfold replyPlaceFill
  split
  · exact h
  · rename_i hg
    split
    · unfold fillFree
      repeat' split
      all_goals exact h.moved rfl rfl rfl (h.sound.setBackHead hg _)
    · exact h

theorem lineLaw_frameArrival (d : Dir) (b : Byte) (l : List Byte) (h : LineLaw s) : LineLaw (frameArrival d b l s) := by
  have hb : ∀ u : State, (bindMarks d b u).line = u.line := fun u => by unfold bindMarks; split <;> rfl
  refine h.carry (by simp) ?_ ?_ <;> unfold frameArrival
  · split
    · rfl
    · split
      · rw [hb]; cases d <;> rfl
      · unfold overrun
        split <;> simp [dropSync_state]
  · split
    · exact h.sound
    · rename_i hn
      split
      · rename_i hlt
        rw [hb]
        obtain ⟨h1, h2, h3, h4, h5, h6, h7, h8, h9⟩ := h.sound
        cases d
        · exact ⟨h1, h2, h3, h4, h5, fun a => absurd a hn, by
            simp only [LineIf.store, storePlaces] at hlt
            simp [LineIf.setStore, LineIf.store]; omega, h8, h9⟩
        · exact ⟨h1, h2, h3, h4, h5, fun a => absurd a hn, h7, by
            simp only [LineIf.store, storePlaces] at hlt
            simp [LineIf.setStore, LineIf.store]; omega, h9⟩
      · have ho : LineSound { s.line with overruns := bump32 s.line.overruns } :=
          h.sound.same rfl rfl rfl rfl (Nat.le_refl _) (Nat.le_refl _) h.sound.remembered
        unfold overrun
        split
        · rw [hb]; exact h.sound
        · simpa [hb] using ho
        · simpa [hb] using ho.dropSync

theorem lineLaw_enterReset {p : Phase} (hp : p ≠ .running) (c : ResetCauses) (s : State) : LineLaw (enterReset p c s) :=
  lineLaw_iff.2 ⟨⟨fun _ => hp, fun _ => rfl⟩, lineSound_reset⟩

theorem lineLaw_keptAtEnd : KeptAtEnd LineLaw := by
  constructor
  case leave => exact fun d us f rest s _ _ h => h.moved rfl rfl (releasePlace_state d f _) (h.sound.release d f)
  case outCycle =>
    exact fun f s h => h.moved rfl rfl ((outCycleLine_state _ _).trans (countFrame_state _ _ _)) ((h.sound.countFrame .out f).outCycle f)
  case outService => exact fun f s h => h.moved rfl rfl (countFrame_state _ _ _) (h.sound.countFrame .out f)
  case repeated =>
    exact fun f s h => h.moved rfl rfl ((dropSync_state _).trans (countFrame_state _ _ _)) (h.sound.countFrame .back f).repeated
  case poisoned =>
    exact fun f s h => h.moved rfl rfl ((dropSync_state _).trans (countFrame_state _ _ _)) (h.sound.countFrame .back f).poisoned
  case good =>
    intro f c n s hb h
    have hs := countFrame_state .back f s.line
    obtain ⟨h1, h2⟩ := (h.sound.countFrame .back f).goodBack (by rw [hs]; exact hb) c n _
    exact h.carry rfl ⟨fun a => absurd a h2, fun a => absurd a hb⟩ h1
  case backService => exact fun f s h => h.moved rfl rfl (countFrame_state _ _ _) (h.sound.countFrame .back f)
  case serviceReset => exact fun s _ => lineLaw_enterReset (by decide) _ _
  case interval =>
    exact fun reg c s h => h.moved rfl rfl rfl (h.sound.same rfl rfl rfl rfl (Nat.le_refl _) (Nat.le_refl _) h.sound.remembered)
  all_goals intros; simpa [LineLaw] using ‹LineLaw _›

theorem lineLaw_kept : Kept LineLaw := by
  constructor
  case frameArrival => exact fun d b l s h => lineLaw_frameArrival d b l h
  case commandPassage => exact fun i s h => lineLaw_commandPassage i h
  case statusSlotWrite => exact fun i s h => lineLaw_statusSlotWrite i h
  case requestTaking => exact fun i s h => lineLaw_requestTaking i h
  case replyPlaceFill => exact fun i s h => lineLaw_replyPlaceFill i h
  case frameEnd => exact fun n d us s h => lineLaw_keptAtEnd.frameEnd n d us s h
  case silence =>
    intro s h
    unfold silenceTimerExpiry enterSilent
    split
    · rename_i d hd
      have hs := h.sound
      have hb : s.line.state ≠ .bypass := fun a => by
        have := hs.silence.1 (by simp [hd])
        rw [a] at this
        rcases this with e | e <;> cases e
      have hr : s.line.relayClosed = false := by
        cases hc : s.line.relayClosed
        · rfl
        · exact absurd (hs.relay.1 hc) hb
      refine h.carry (by simp) ?_ ?_
      · simp [hb]
      · simp only [silentEntry_frame]
        constructor <;> simp [hr, hs.out, hs.back]
    · exact h
  case waitExpiry =>
    intro s h
    unfold serviceResetWaitExpiry
    split
    · exact lineLaw_enterReset (by decide) _ _
    · exact h
  case powerOn =>
    intro s h
    unfold powerOn
    repeat' split
    all_goals first | exact h | exact lineLaw_enterReset (by decide) _ _
  case supplyLoss => exact fun s _ => lineLaw_enterReset (by decide) _ _
  case pinAssert =>
    intro s h
    unfold resetPinAssert
    simp only []
    repeat' split
    all_goals first | exact h | exact lineLaw_enterReset (by decide) _ _
  case pinRelease =>
    intro s h
    unfold resetPinRelease
    simp only []
    split
    · rename_i hp
      refine lineLaw_iff.2 ⟨?_, h.sound⟩
      have := (lineLaw_iff.1 h).1
      rw [hp] at this
      exact ⟨fun _ => by simp, fun _ => this.2 (by decide)⟩
    all_goals exact h
  case loadComplete =>
    intro s h
    unfold storeLoadComplete
    split
    · rename_i hp
      have hb : s.line.state = .bypass := (lineLaw_iff.1 h).1.2 (by rw [hp]; decide)
      have hs := h.sound
      refine lineLaw_iff.2 ⟨by simp [openRelay], ?_⟩
      simp only [offerInvalid_frame, openRelay, startSilence_line, takeLoaded_frame]
      obtain ⟨ho, hk⟩ := hs.bypass hb
      constructor <;> simp [ho, hk, hs.idle (.inr hb), hs.remembered]
    all_goals exact h
  case storeWrite => intro s h; unfold storeWriteComplete; split <;> simpa [LineLaw, storeCompletion] using h
  case clearCounter =>
    intro s n _ h
    have hs := h.sound
    unfold clearCounter
    split
    all_goals exact h
  case writeItem =>
    intro w p s u _ _ _ _ hw h
    obtain ⟨_, _, rfl⟩ := writeItem_moves hw
    exact h
  all_goals intros; simpa [LineLaw] using ‹LineLaw _›

/-! ## Places and marks (R167, R168) -/

/-- The BUSY marks bound to the frames of a store. -/
def boundMarks (fs : List Transit) : Nat := (fs.map fun t => t.marks.length).sum

theorem marksHeld_eq (s : State) :
    marksHeld s = s.agent.newMarks.length + s.agent.marks.length + boundMarks s.line.backStore := rfl

/-- Places and marks no more than they were keep the law. -/
theorem PlacesLaw.fewer (h : PlacesLaw s) (hp : t.agent.places.length ≤ s.agent.places.length)
    (hm : marksHeld t ≤ marksHeld s) : PlacesLaw t :=
  ⟨Nat.le_trans hp h.1, Nat.le_trans hm h.2⟩

/-- Both lists of marks stand, and the BACK store binds no more. -/
theorem marksHeld_le (h1 : t.agent.newMarks = s.agent.newMarks) (h2 : t.agent.marks = s.agent.marks)
    (h3 : boundMarks t.line.backStore ≤ boundMarks s.line.backStore) : marksHeld t ≤ marksHeld s := by
  rw [marksHeld_eq, marksHeld_eq, h1, h2]
  omega

theorem boundMarks_tail (fs : List Transit) : boundMarks fs.tail ≤ boundMarks fs := by
  cases fs <;> simp [boundMarks]

theorem boundMarks_map (g : Transit → Transit) (hg : ∀ x, (g x).marks = x.marks) (fs : List Transit) :
    boundMarks (fs.map g) = boundMarks fs := by
  simp [boundMarks, Function.comp_def, hg]

theorem goodBackLine_boundMarks (c : CycleNo) (n : Nat) (l : LineIf) :
    boundMarks (goodBackLine c n l).backStore = boundMarks l.backStore := by
  obtain ⟨g, hg, -, h⟩ := goodBackLine_stores c n l
  rw [h]
  exact boundMarks_map g (fun x => by rcases hg x with e | e <;> rw [e]) _

theorem boundMarks_setHead {fs rest : List Transit} {f g : Transit} (h : fs = g :: rest)
    (hm : f.marks.length ≤ g.marks.length) : boundMarks (f :: fs.tail) ≤ boundMarks fs := by
  subst h
  simp only [boundMarks, List.tail_cons, List.map_cons, List.sum_cons]
  omega

theorem nextPart_length {ps qs : List Place} {x : Byte × Reply × Nat} (h : nextPart ps = some (x, qs)) :
    qs.length = ps.length := by
  induction ps generalizing qs with
  | nil => cases h
  | cons p ps ih =>
    unfold nextPart at h
    split at h
    · cases h; rfl
    all_goals
      split at h
      · rename_i hn
        cases h
        simp [ih hn]
      · cases h

theorem placesLaw_frameArrival (d : Dir) (b : Byte) (l : List Byte) (h : PlacesLaw s) :
    PlacesLaw (frameArrival d b l s) := by
  refine h.fewer (by simp) ?_
  rw [marksHeld_eq, marksHeld_eq]
  unfold frameArrival
  split
  · exact Nat.le_refl _
  · split
    · cases d
      · simp [bindMarks, LineIf.setStore]
      · by_cases hk : frameKind b = .service <;>
          simp [bindMarks, hk, LineIf.setStore, LineIf.store, newTransit, boundMarks]
        omega
    · unfold overrun
      split <;> simp [(dropSync_stores _).2] <;> unfold bindMarks <;> split <;> simp

theorem placesLaw_commandPassage (i : Nat) (h : PlacesLaw s) : PlacesLaw (commandPassage i s) := by
  refine h.fewer (by simp) (marksHeld_le (by simp) (by simp) ?_)
  rcases commandPassage_line i s with e | ⟨f, g, rest, hg, e⟩ <;> rw [e] <;> exact Nat.le_refl _

theorem placesLaw_statusSlotWrite (i : Nat) (h : PlacesLaw s) : PlacesLaw (statusSlotWrite i s) := by
  refine h.fewer (by simp) (marksHeld_le (by simp) (by simp) ?_)
  unfold statusSlotWrite
  split
  · exact Nat.le_refl _
  · rename_i hg
    repeat' split
    · exact boundMarks_setHead hg (Nat.le_refl _)
    all_goals exact Nat.le_refl _

theorem takeRequest_places (x : List Byte) (h : PlacesLaw s) : PlacesLaw (takeRequest x s) := by
  obtain ⟨h1, h2⟩ := h
  unfold takeRequest
  split
  · rename_i hlt
    simp only [placeCount] at hlt
    exact ⟨by simp; omega, h2⟩
  · refine ⟨h1, ?_⟩
    unfold refuseTaking
    rw [marksHeld_eq] at h2 ⊢
    simp only []
    split
    · rename_i hlt
      rw [marksHeld_eq, markLimit] at hlt
      simp only [List.length_append, List.length_singleton]
      omega
    · exact h2

theorem placesLaw_requestTaking (i : Nat) (h : PlacesLaw s) : PlacesLaw (requestTaking i s) := by
  unfold requestTaking
  repeat' split
  all_goals first | exact h | exact takeRequest_places _ h

theorem placesLaw_replyPlaceFill (i : Nat) (h : PlacesLaw s) : PlacesLaw (replyPlaceFill i s) := by
  unfold replyPlaceFill
  split
  · exact h
  · rename_i hg
    split
    · unfold fillFree
      split
      · rename_i hm
        exact h.fewer (Nat.le_refl _) (marksHeld_le rfl rfl (boundMarks_setHead hg (by simp [hm])))
      · split
        · rename_i hn
          exact h.fewer (Nat.le_of_eq (nextPart_length hn)) (marksHeld_le rfl rfl (boundMarks_setHead hg (Nat.le_refl _)))
        · exact h.fewer (Nat.le_refl _) (marksHeld_le rfl rfl (boundMarks_setHead hg (Nat.le_refl _)))
    · exact h

theorem settleTakings_fewer (good : Bool) (a : Agent) :
    (settleTakings good a).places.length ≤ a.places.length
      ∧ (settleTakings good a).newMarks.length + (settleTakings good a).marks.length
          ≤ a.newMarks.length + a.marks.length := by
  unfold settleTakings
  split
  · simp; omega
  · exact ⟨List.length_filter_le _ _, by simp⟩

theorem settleReplies_length (good : Bool) (ps : List Place) : (settleReplies good ps).length ≤ ps.length := by
  unfold settleReplies
  split
  · simpa using List.length_filter_le _ _
  · simp

theorem placesLaw_reset (p : Phase) (c : ResetCauses) (s : State) : PlacesLaw (enterReset p c s) := by
  constructor <;> simp [enterReset, State.reset, marksHeld, Agent.afterReset, LineIf.afterReset]

theorem placesLaw_keptAtEnd : KeptAtEnd PlacesLaw := by
  constructor
  case leave =>
    intro d us f rest s _ _ h
    refine h.fewer (Nat.le_refl _) (marksHeld_le rfl rfl ?_)
    cases d
    · exact Nat.le_refl _
    · exact boundMarks_tail _
  case outCycle =>
    exact fun f s h => h.fewer (Nat.le_refl _) (marksHeld_le rfl rfl (Nat.le_of_eq (congrArg boundMarks
      ((countFrame_stores .out f s.line).trans (outCycleLine_stores f _)).2)))
  case outService =>
    intro f s h
    obtain ⟨h1, h2⟩ := settleTakings_fewer (goodFrame f.arrived) s.agent
    refine h.fewer h1 ?_
    rw [marksHeld_eq, marksHeld_eq]
    simp only [(countFrame_stores .out f s.line).2]
    omega
  case repeated =>
    exact fun f s h => h.fewer (Nat.le_refl _) (marksHeld_le rfl rfl (Nat.le_of_eq (congrArg boundMarks
      ((countFrame_stores .back f s.line).trans (repeatedLine_stores _)).2)))
  case poisoned =>
    exact fun f s h => h.fewer (Nat.le_refl _) (marksHeld_le rfl rfl (Nat.le_of_eq (congrArg boundMarks
      ((countFrame_stores .back f s.line).trans (poisonedBackLine_stores _)).2)))
  case good =>
    exact fun f c n s _ h => h.fewer (Nat.le_refl _) (marksHeld_le rfl rfl (Nat.le_of_eq
      ((goodBackLine_boundMarks c n _).trans (congrArg boundMarks (countFrame_stores .back f s.line).2))))
  case backService =>
    exact fun f s h => h.fewer (settleReplies_length _ _) (marksHeld_le rfl rfl (Nat.le_of_eq (congrArg boundMarks
      (countFrame_stores .back f s.line).2)))
  case serviceReset => exact fun s _ => placesLaw_reset _ _ _
  case interval => exact fun _ _ _ h => h
  all_goals intros; simpa [PlacesLaw, marksHeld] using ‹PlacesLaw _›

theorem bringIntoForce_places (s : State) :
    (bringIntoForce s).agent.places = s.agent.places ∧ (bringIntoForce s).agent.newMarks = s.agent.newMarks
      ∧ (bringIntoForce s).agent.marks = s.agent.marks := by
  unfold bringIntoForce
  simp only []
  split <;> simp [demoteAll, withdrawSchedule, withdrawSolvent]

theorem placesLaw_kept : Kept PlacesLaw := by
  constructor
  case frameArrival => exact fun d b l s h => placesLaw_frameArrival d b l h
  case commandPassage => exact fun i s h => placesLaw_commandPassage i h
  case statusSlotWrite => exact fun i s h => placesLaw_statusSlotWrite i h
  case requestTaking => exact fun i s h => placesLaw_requestTaking i h
  case replyPlaceFill => exact fun i s h => placesLaw_replyPlaceFill i h
  case frameEnd => exact fun n d us s h => placesLaw_keptAtEnd.frameEnd n d us s h
  case silence =>
    intro s h
    unfold silenceTimerExpiry enterSilent
    split
    · simpa [PlacesLaw, marksHeld] using h
    · exact h
  case waitExpiry => exact fun s h => waitExpiry_keeps placesLaw_reset h
  case powerOn => exact fun s h => powerOn_keeps placesLaw_reset h
  case supplyLoss => exact fun s _ => placesLaw_reset _ _ _
  case pinAssert => exact fun s h => pinAssert_keeps placesLaw_reset h h
  case pinRelease => intro s h; unfold resetPinRelease; simp only []; split <;> exact h
  case loadComplete => intro s h; unfold storeLoadComplete; split <;> simpa [PlacesLaw, marksHeld, openRelay] using h
  case storeWrite =>
    intro s h
    unfold storeWriteComplete
    split
    · obtain ⟨h1, h2, h3⟩ := bringIntoForce_places s
      simpa [PlacesLaw, marksHeld, storeCompletion, h1, h2, h3] using h
    · exact h
  case overrides => exact fun _ _ _ h => h
  case clearCounter => intro s n _ h; unfold clearCounter; split <;> exact h
  case writeItem =>
    intro w p s u _ _ _ _ hw h
    obtain ⟨_, _, rfl⟩ := writeItem_moves hw
    exact h
  all_goals intros; simpa [PlacesLaw, marksHeld] using ‹PlacesLaw _›

/-- Settles O53: each of the three laws, kept by every operation. -/
theorem lineLawsKept : Obligations.LineLawsKept :=
  ⟨placesLaw_kept.step, lineLaw_kept.step, storesLaw_kept.step⟩

end Sys2Proof.Machine
end

section
/-! PROOF. What reaches the Incident Log between two takings: offers, one after another (R155). -/

namespace Sys2Proof.Machine

variable {s t u : State}

/-- Queue, ALERT, gap timer and the count of lost records stand, and so does the commissioning. -/
def SameLog (s t : State) : Prop :=
  t.log.queue = s.log.queue ∧ t.log.alert = s.log.alert ∧ t.log.gap = s.log.gap ∧ t.log.dropped = s.log.dropped
    ∧ t.comm = s.comm

/-- `t` comes from `s` by offers, and by changes that leave the log and the commissioning. -/
inductive Logged (s : State) : State → Prop
  | refl : Logged s s
  | touch {u t : State} : Logged s u → SameLog u t → Logged s t
  | offer {u : State} (c : IncidentCode) (sub : Subject) (v : IncidentValue) : Logged s u → Logged s (offer c sub v u)

theorem SameLog.of_log (h : t.log = s.log) (hc : t.comm = s.comm) : SameLog s t := by
  unfold SameLog
  rw [h]
  exact ⟨rfl, rfl, rfl, rfl, hc⟩

/-- A change of other blocks. -/
theorem Logged.still (h : t.log = s.log) (hc : t.comm = s.comm) : Logged s t := .touch .refl (.of_log h hc)

/-- An offer after a change of other blocks. -/
theorem Logged.once (c : IncidentCode) (sub : Subject) (v : IncidentValue) (h : u.log = s.log) (hc : u.comm = s.comm) :
    Logged s (Machine.offer c sub v u) := .offer c sub v (.still h hc)

theorem Logged.trans (h : Logged s t) (g : Logged t u) : Logged s u := by
  induction g with
  | refl => exact h
  | touch _ hs ih => exact .touch ih hs
  | offer c sub v _ ih => exact .offer c sub v ih

/-- What comes by offers from a state that differs in other blocks. -/
theorem Logged.after (h : Logged u t) (hl : u.log = s.log) (hc : u.comm = s.comm) : Logged s t := (still hl hc).trans h

theorem Logged.foldl {α : Type} (f : State → α → State) (h : ∀ s x, Logged s (f s x)) (l : List α) (s : State) :
    Logged s (l.foldl f s) := by
  induction l generalizing s with
  | nil => exact .refl
  | cons x l ih => exact (h s x).trans (ih _)

theorem Logged.comm (h : Logged s t) : t.comm = s.comm := by
  induction h with
  | refl => rfl
  | touch _ hs ih => exact hs.2.2.2.2.trans ih
  | offer c sub v _ ih => simpa using ih

/-! ## Resume record, changeover and dryer state (R107, R53, R108) -/

theorem discardResume_logged (c : DiscardCause) (s : State) : Logged s (discardResume c s) := by
  unfold discardResume
  split
  · exact .refl
  · exact .once _ _ _ rfl rfl

theorem changeover_logged (b : BankNo) (s : State) : Logged s (changeover b s) := by
  refine .trans (.once .bankActivated (.bank b) (bankValue (activeBank s.banks))
    (u := { s with banks := changeoverBanks b s.banks }) rfl rfl) ?_
  unfold changeover notifyChangeover
  split
  · split
    · exact .refl
    · exact discardResume_logged _ _
  · exact .refl

theorem changeoverEvent_logged (m : PendingMode) (s : State) : Logged s (changeoverEvent m s) := by
  unfold changeoverEvent
  split
  · split
    · exact changeover_logged _ _
    · exact .refl
  · exact .refl

theorem setDryer_logged (n : DryerState) (s : State) : Logged s (setDryer n s) := by
  have h : Logged s { s with dryer.state := n, dryer.permit := n.burning } := .still rfl rfl
  unfold setDryer
  simp only []
  split
  · exact h.trans (discardResume_logged _ _)
  · exact h

theorem activate_logged (b : BankNo) (m : ActivationMode) (s : State) : Logged s (activate b m s) := by
  have h : Logged s { s with banks := unqueue s.banks } := .still rfl rfl
  unfold activate
  simp only []
  split
  · exact h.trans (changeover_logged _ _)
  · split
    · exact h.trans (changeover_logged _ _)
    · exact .still rfl rfl
  · exact .still rfl rfl

/-! ## The Sample Board and the Web Sequencer -/

theorem boardReaction_logged (r : Refresh) (s : State) : Logged s (boardReaction r s) := by
  have h1 : Logged s (judgeSpeedLost s) := by
    unfold judgeSpeedLost
    split
    · split
      · exact .refl
      · exact .once _ _ _ rfl rfl
    · exact .still rfl rfl
  have h2 : ∀ u : State, Logged u (judgeUnmonitored u) := fun u => by
    unfold judgeUnmonitored
    split
    · split
      · exact .refl
      · exact .once _ _ _ rfl rfl
    · exact .still rfl rfl
  unfold boardReaction
  split
  · exact h1.trans (h2 _)
  · exact .refl

theorem breakEntry_logged (b : BreakSource) (s : State) : Logged s (breakEntry b s) := by
  refine .trans (.once .webBreak b.subject (.num (s.board.actual : Int)) (u := { s with web := breakWeb b s }) rfl rfl) ?_
  unfold breakEntry offerSecond
  simp only []
  split
  · exact .once _ _ _ rfl rfl
  · exact .refl

theorem stoppedEntry_logged (s : State) : Logged s (stoppedEntry s) :=
  .trans (.still (t := { s with web := { clearBreakData s.web with state := .stopped } }) rfl rfl) (changeoverEvent_logged _ _)

theorem resumeExpiry_logged (s : State) : Logged s (resumeExpiry s) :=
  .touch (discardResume_logged .timeout s) (.of_log rfl rfl)

theorem resumeTimerExpiry_logged (s : State) : Logged s (resumeTimerExpiry s) := by
  unfold resumeTimerExpiry
  split
  · exact resumeExpiry_logged s
  · exact .refl

theorem transition_logged (src : Option BreakSource) (s : State) : Logged s (transition src s) := by
  unfold transition
  repeat' split
  all_goals first
    | exact .refl
    | exact .still rfl rfl
    | exact breakEntry_logged _ _
    | exact stoppedEntry_logged _
    | exact resumeExpiry_logged _

theorem webReaction_logged (r : Refresh) (s : State) : Logged s (webReaction r s) := by
  have hs : ∀ u : State, Logged u (handSplice u) := fun u => by
    unfold handSplice
    split
    · exact changeoverEvent_logged _ _
    · exact .refl
  have hl : Logged s (lineReturn s) := by
    unfold lineReturn
    simp only []
    split
    · exact .after (changeoverEvent_logged _ _) rfl rfl
    · exact .still rfl rfl
  have hj : ∀ n, Logged s (judgeWeb n s) := fun n => .after (transition_logged _ _) rfl rfl
  unfold webReaction
  refine .trans ?_ (hs _)
  split
  · split
    · exact hl
    · exact hj _
  · exact .refl

theorem breakInChange_logged (l : Level) (s : State) : Logged s (breakInChange l s) := by
  unfold breakInChange
  simp only []
  repeat' split
  · unfold takeEdge
    simp only []
    split
    all_goals first
      | exact .still rfl rfl
      | exact .after (breakEntry_logged _ _) rfl rfl
  all_goals exact .still rfl rfl

/-! ## The Dryer Safety Unit -/

theorem onset_logged (c : SafetyCondition) (sub : Subject) (v : Option Int) (s : State) :
    Logged s (onset c sub v s) := by
  unfold onset
  split
  · exact .once _ _ _ rfl rfl
  · exact .touch
      (u := offer c.code sub (numValue v) { setDryer .tripped s with
        dryer := fillCapture (captureOf c sub v s) { (setDryer .tripped s).dryer with hold := none } })
      (.offer _ _ _ (.touch (setDryer_logged .tripped s) (.of_log rfl rfl))) (.of_log rfl rfl)

theorem purgeDone_logged (c : Scalars) (s : State) : Logged s (purgeDone c s) :=
  .offer _ _ _ (.touch (setDryer_logged .purged s) (.of_log rfl rfl))

theorem dryerReaction_logged (r : Refresh) (s : State) : Logged s (dryerReaction r s) := by
  have h1 : ∀ u : State, Logged u (judgeLelMeasured u) := fun u => by
    unfold judgeLelMeasured
    repeat' split
    all_goals first | exact .refl | exact .still rfl rfl | exact .after (onset_logged _ _ _ _) rfl rfl
  have h2 : ∀ u : State, Logged u (judgeExhaustLow r u) := fun u => by
    unfold judgeExhaustLow
    simp only []
    repeat' split
    all_goals first | exact .refl | exact .still rfl rfl | exact .after (onset_logged _ _ _ _) rfl rfl
  have h3 : ∀ (u : State) k, Logged u (judgeFlame r u k) := fun u k => by
    unfold judgeFlame
    simp only []
    repeat' split
    all_goals first | exact .still rfl rfl | exact .after (onset_logged _ _ _ _) rfl rfl
  have h4 : ∀ u : State, Logged u (purgeStep r u) := fun u => by
    unfold purgeStep judgePurge
    simp only []
    repeat' split
    all_goals first
      | exact .refl
      | exact .still rfl rfl
      | exact .after (purgeDone_logged _ _) rfl rfl
  have h5 : ∀ u : State, Logged u (judgeFlameChange u) := fun u => by
    unfold judgeFlameChange
    simp only []
    repeat' split
    all_goals first
      | exact .refl
      | exact setDryer_logged _ _
      | exact .touch (setDryer_logged _ _) (.of_log (by rfl) (by rfl))
  have h0 : Logged s (cleared r s) := .still (by simp [cleared]) (by simp [cleared])
  unfold dryerReaction
  split
  · exact (((h0.trans (h1 _)).trans (h2 _)).trans (.foldl _ h3 _ _)).trans ((h4 _).trans (h5 _))
  · exact .refl

theorem solventEvaluationComplete_logged (n : Nat) (s : State) : Logged s (solventEvaluationComplete n s) := by
  have hp : ∀ q (u : State), Logged u (judgePredicted q u) := fun q u => by
    unfold judgePredicted
    simp only []
    repeat' split
    all_goals first | exact .refl | exact .still rfl rfl | exact .after (onset_logged _ _ _ _) rfl rfl
  have hl : ∀ k q (u : State), Logged u (judgeLimited k q u) := fun k q u => by
    unfold judgeLimited
    repeat' split
    all_goals first | exact .refl | exact .still rfl rfl | exact .once _ _ _ rfl rfl
  have hm : ∀ q (u : State), Logged u (judgeMismatch q u) := fun q u => by
    unfold judgeMismatch
    simp only []
    repeat' split
    all_goals first | exact .refl | exact .still rfl rfl | exact .once _ _ _ rfl rfl
  have hh : ∀ q (u : State), Logged u (judgeHistogram q u) := fun q u => by
    unfold judgeHistogram
    split <;> exact .still rfl rfl
  have hj : ∀ k q (u : State), Logged u (judgePublication k q u) := fun k q u =>
    ((hl k q u).trans (hm q _)).trans (hh q _)
  unfold solventEvaluationComplete publishSolvent
  split
  · simp only []
    split
    · exact .after (.trans (hp _ _) (hj _ _ _)) rfl rfl
    · exact .after (.trans (hj _ _ _) (hp _ _)) rfl rfl
  · exact .still rfl rfl

theorem silentEntry_logged (s : State) : Logged s (silentEntry s) := by
  unfold silentEntry
  simp only []
  repeat' split
  all_goals first
    | exact .refl
    | exact .after (onset_logged _ _ _ _) rfl rfl
    | exact .touch (setDryer_logged _ _) (.of_log (by rfl) (by rfl))

theorem silenceTimerExpiry_logged (s : State) : Logged s (silenceTimerExpiry s) := by
  unfold silenceTimerExpiry enterSilent
  split
  · exact .after (silentEntry_logged _) rfl rfl
  · exact .refl

theorem purgeHoldExpiry_logged (s : State) : Logged s (purgeHoldExpiry s) := by
  unfold purgeHoldExpiry
  split
  · exact .offer _ _ _ (.after (setDryer_logged _ _) rfl rfl)
  · exact .refl

theorem acceptReset_logged (s : State) : Logged s (acceptReset s) :=
  .offer _ _ _ (.touch (setDryer_logged _ _) (.of_log rfl rfl))

/-! ## The Command Table -/

theorem exhaustUnresponsiveReport_logged (s : State) : Logged s (exhaustUnresponsiveReport s) := by
  unfold exhaustUnresponsiveReport
  split
  · exact .refl
  · exact .after (onset_logged _ _ _ _) rfl rfl

theorem commandReaction_logged (r : Refresh) (s : State) : Logged s (commandReaction r s) := by
  have hb : ∀ x (u : State), Logged u (becameUnresponsive x u) := fun x u => by
    unfold becameUnresponsive
    split
    · exact exhaustUnresponsiveReport_logged u
    · exact .once _ _ _ rfl rfl
  have he : ∀ c (u : State) x, Logged u (judgeEcho c u x) := fun c u x => by
    unfold judgeEcho echoMatch echoMiss
    simp only []
    repeat' split
    all_goals first | exact .refl | exact .still rfl rfl | exact .after (hb _ _) rfl rfl
  unfold commandReaction judgeEchoes
  repeat' split
  all_goals first
    | exact .refl
    | exact .still rfl rfl
    | exact .after (.foldl _ (he _) _ _) rfl rfl

theorem commandPassage_logged (i : Nat) (s : State) : Logged s (commandPassage i s) := by
  have hf : ∀ r p e w c (u : State), Logged u (forwardRole r p e w c u) := fun r p e w c u => by
    unfold forwardRole judgeCapped
    simp only []
    repeat' split
    all_goals first | exact .still rfl rfl | exact .once _ _ _ rfl rfl
  have hl : ∀ u : State, Logged u (lateForward u) := fun u => by
    unfold lateForward
    split
    · exact .once _ _ _ rfl rfl
    · exact .refl
  have hp : ∀ t x (u : State), Logged u (passSlot i t x u) := fun t x u => by
    unfold passSlot
    simp only []
    repeat' split
    all_goals first | exact .still rfl rfl | exact .touch (hf _ _ _ _ _ _) (.of_log rfl rfl)
  unfold commandPassage
  repeat' split
  all_goals first | exact .refl | exact (hl s).trans (hp _ _ _)

/-! ## Schedule Unit, Solvent Unit, banks, line -/

theorem scheduleReaction_logged (r : Refresh) (s : State) : Logged s (scheduleReaction r s) := by
  have h1 : ∀ x (u : State) k, Logged u (judgeDeviation x r u k) := fun x u k => by
    unfold judgeDeviation
    simp only []
    repeat' split
    all_goals first | exact .still rfl rfl | exact .once _ _ _ rfl rfl
  have h2 : ∀ x (u : State) j, Logged u (judgeShortfall x r u j) := fun x u k => by
    unfold judgeShortfall
    simp only []
    repeat' split
    all_goals first | exact .still rfl rfl | exact .once _ _ _ rfl rfl
  have hw : Logged s (watch r s) := by
    unfold watch
    repeat' split
    all_goals first | exact .refl | exact (Logged.foldl _ (h1 _) _ _).trans (.foldl _ (h2 _) _ _)
  unfold scheduleReaction
  exact hw.touch (.of_log (by simp) (by simp))

theorem solventReaction_logged (r : Refresh) (s : State) : Logged s (solventReaction r s) := by
  have hd : ∀ u : State, Logged u (judgeDisagree u) := fun u => by
    unfold judgeDisagree
    repeat' split
    all_goals first | exact .refl | exact .still rfl rfl | exact .once _ _ _ rfl rfl
  have hs : ∀ u : State, Logged u (startSolvent r u) := fun u => .still (by simp) (by simp)
  unfold solventReaction
  simp only []
  split
  · exact .after (.trans (hd _) (hs _)) rfl rfl
  · exact .after (hs _) rfl rfl

theorem frameErrors_logged (s : State) : Logged s (frameErrors s) := .once _ _ _ rfl rfl

theorem react_logged (r : Refresh) (x : Reaction) (s : State) : Logged s (react r x s) := by
  cases x with
  | lineInterface =>
    unfold react
    simp only []
    split
    · exact frameErrors_logged s
    · exact .refl
  | sampleBoard => exact boardReaction_logged r s
  | commandTable => exact commandReaction_logged r s
  | webSequencer => exact webReaction_logged r s
  | dryerSafety => exact dryerReaction_logged r s
  | scheduleUnit => exact scheduleReaction_logged r s
  | solventUnit => exact solventReaction_logged r s
  | incidentLog => exact .touch .refl ⟨rfl, rfl, rfl, rfl, rfl⟩

theorem frameArrival_logged (d : Dir) (b : Byte) (l : List Byte) (s : State) : Logged s (frameArrival d b l s) := by
  have hb : ∀ u : State, (bindMarks d b u).log = u.log ∧ (bindMarks d b u).comm = u.comm := fun u => by
    unfold bindMarks; split <;> exact ⟨rfl, rfl⟩
  unfold frameArrival overrun
  repeat' split
  · exact .refl
  · exact .still (hb _).1 (hb _).2
  · exact .still (hb _).1 (hb _).2
  · exact .after (frameErrors_logged _) (hb _).1 (hb _).2
  · exact .after (frameErrors_logged _) (hb _).1 (hb _).2

theorem bankCheckEnd_logged (s : State) : Logged s (bankCheckEnd s) := by
  unfold bankCheckEnd endCheck
  repeat' split
  all_goals first | exact .refl | exact .once _ _ _ rfl rfl

end Sys2Proof.Machine
end

section
/-! PROOF. O52: blocks at their values after reset while the part is not running (R188), and the meaning of ALERT
(R157, R162, R163). -/

namespace Sys2Proof.Machine

variable {s t u : State}

/-! ## A part that is not running (R188) -/

theorem heldLaw_of_running (h : s.phase = .running) : HeldLaw s := fun a => absurd h a

theorem heldLaw_reset (p : Phase) (c : ResetCauses) (s : State) : HeldLaw (enterReset p c s) := fun _ => rfl

/-- A state under HeldLaw is running, or a reset state. -/
theorem HeldLaw.cases (h : HeldLaw s) : s.phase = .running ∨ ∃ p c u, s = enterReset p c u := by
  by_cases hp : s.phase = .running
  · exact .inl hp
  · exact .inr ⟨_, _, _, h hp⟩

/-- An operation that keeps the phase of a running part, and leaves a reset state one, keeps HeldLaw. -/
theorem HeldLaw.op {f : State → State} (h : HeldLaw s) (hr : s.phase = .running → (f s).phase = .running)
    (he : ∀ p c u, HeldLaw (f (enterReset p c u))) : HeldLaw (f s) := by
  rcases h.cases with hp | ⟨p, c, u, rfl⟩
  · exact heldLaw_of_running (hr hp)
  · exact he p c u

theorem frameEnd_phase (k : Nat) (d : Dir) (us : Nat) (s : State) :
    (frameEnd k d us s).phase = s.phase ∨ ∃ u, frameEnd k d us s = serviceReset u := by
  unfold frameEnd
  split
  · exact .inl rfl
  · split
    · exact .inl rfl
    · unfold endOf
      split
      · exact .inl rfl
      · exact .inl (by simp)
      · exact .inl (by simp)
      · exact .inl (by simp)
      · unfold backServiceEnd
        simp only []
        split
        · exact .inr ⟨_, rfl⟩
        · exact .inl (by simp)

theorem storeWriteComplete_phase (s : State) : (storeWriteComplete s).phase = s.phase := by
  unfold storeWriteComplete
  split
  · simp [storeCompletion, flamesAtStore, boardAtStore]
  · rfl

theorem heldLaw_kept : Kept HeldLaw := by
  constructor
  case queue => exact fun s l h => h.op (f := fun s => { s with pending := l }) id fun _ _ _ => fun _ => rfl
  case reply => exact fun r s h => h.op (f := reply r) (by simp) fun _ _ _ => fun _ => rfl
  case frameArrival => exact fun d b l s h => h.op (f := frameArrival d b l) (by simp) fun _ _ _ => heldLaw_reset _ _ _
  case commandPassage => exact fun i s h => h.op (f := commandPassage i) (by simp) fun _ _ _ => heldLaw_reset _ _ _
  case statusSlotWrite => exact fun i s h => h.op (f := statusSlotWrite i) (by simp) fun _ _ _ => heldLaw_reset _ _ _
  case requestTaking => exact fun i s h => h.op (f := requestTaking i) (by simp) fun _ _ _ => heldLaw_reset _ _ _
  case replyPlaceFill => exact fun i s h => h.op (f := replyPlaceFill i) (by simp) fun _ _ _ => heldLaw_reset _ _ _
  case frameEnd =>
    intro n d us s h
    rcases h.cases with hp | ⟨p, c, u, rfl⟩
    · rcases frameEnd_phase n d us s with e | ⟨u, e⟩
      · exact heldLaw_of_running (e.trans hp)
      · rw [e]; exact heldLaw_reset _ _ _
    · exact heldLaw_reset p c u
  case resumeTimer => exact fun s h => h.op (f := resumeTimerExpiry) (by simp) fun _ _ _ => heldLaw_reset _ _ _
  case schedule => exact fun s h => h.op (f := scheduleEvaluationComplete) (by simp) fun _ _ _ => heldLaw_reset _ _ _
  case solvent => exact fun n s h => h.op (f := solventEvaluationComplete n) (by simp) fun _ _ _ => fun _ => rfl
  case silence => exact fun s h => h.op (f := silenceTimerExpiry) (by simp) fun _ _ _ => heldLaw_reset _ _ _
  case breakIn =>
    intro l s h
    refine h.op (f := breakInChange l) (by simp) fun p c u hp => ?_
    have hn : breakInChange l (enterReset p c u) = { enterReset p c u with pins.breakIn := l } := by
      unfold breakInChange
      simp only []
      exact if_neg (by simpa using hp)
    rw [hn]
    rfl
  case purgeHold => exact fun s h => h.op (f := purgeHoldExpiry) (by simp) fun _ _ _ => heldLaw_reset _ _ _
  case alertGap => exact fun s h => h.op (f := alertGapExpiry) (by simp) fun _ _ _ => heldLaw_reset _ _ _
  case bankCheckEnd => exact fun s h => h.op (f := bankCheckEnd) (by simp) fun _ _ _ => heldLaw_reset _ _ _
  case storeWrite => exact fun s h => h.op (f := storeWriteComplete) (storeWriteComplete_phase s).trans fun _ _ _ => heldLaw_reset _ _ _
  case waitExpiry => exact fun s h => waitExpiry_keeps heldLaw_reset h
  case powerOn => exact fun s h => powerOn_keeps heldLaw_reset h
  case supplyLoss => exact fun s _ => heldLaw_reset _ _ _
  case pinAssert =>
    exact fun s h => pinAssert_keeps heldLaw_reset
      (h.op (f := fun s => { s with pins.resetAsserted := true }) id fun _ _ _ => fun _ => rfl) h
  case pinRelease =>
    intro s h
    rcases h.cases with hp | ⟨p, c, u, rfl⟩
    · refine heldLaw_of_running ?_
      unfold resetPinRelease
      rw [hp]
    · cases p <;> exact fun _ => rfl
  case loadComplete =>
    intro s h
    unfold storeLoadComplete
    split
    · exact heldLaw_of_running (by simp only [offerInvalid_frame]; rfl)
    all_goals exact h
  case clearCounter => exact fun s n hp _ => heldLaw_of_running (by simpa using hp)
  case writeItem =>
    intro w p s u hp _ _ _ hw _
    obtain ⟨_, _, rfl⟩ := writeItem_moves hw
    exact heldLaw_of_running hp
  case startStore => exact fun s hp _ _ _ _ => heldLaw_of_running hp
  all_goals intros; refine heldLaw_of_running ?_; simp [*]

end Sys2Proof.Machine
end

section
/-! PROOF. The bound of the incident queue and the meaning of ALERT (R157, R162, R163), and O52. -/

namespace Sys2Proof.Machine

variable {s t u : State}

/-- The queue's bound and the meaning of ALERT, without the part that is not running. -/
def AlertSound (s : State) : Prop :=
  s.log.queue.length ≤ 32 ∧
    (s.log.alert = true ↔ s.log.gap = none ∧ s.log.queue.any (qualifies s.alertThreshold) = true)

/-- An asserted ALERT has an idle gap timer. -/
theorem AlertSound.gap (h : AlertSound s) (ha : s.log.alert = true) : s.log.gap = none := (h.2.1 ha).1

theorem AlertSound.same (h : AlertSound s) (hs : SameLog s t) : AlertSound t := by
  obtain ⟨h1, h2, h3, _, h5⟩ := hs
  unfold AlertSound
  rw [h1, h2, h3, alertThreshold_of_comm h5]
  exact h

/-- A judgement of ALERT makes it mean what the queue holds. -/
theorem alertSound_judgeAlert (hq : s.log.queue.length ≤ 32) (hg : s.log.alert = true → s.log.gap = none) :
    AlertSound (judgeAlert s) := by
  unfold AlertSound
  rw [alertThreshold_of_comm (s := s) (by simp), (judgeAlert_log s).1]
  exact ⟨hq, judgeAlert_alert s hg⟩

/-- An admission, a displacement or a loss keeps the bound (R157, R158). -/
theorem placeRecord_bound (r : Incident) (h : s.log.queue.length ≤ 32) : (placeRecord r s).log.queue.length ≤ 32 := by
  rw [placeRecord_queue]
  split
  · rename_i hl
    simp only [queueLimit] at hl
    simp only [List.length_append, List.length_singleton]
    omega
  · split
    · rename_i c hc
      have hd := dropOldest_length (displaced_held hc)
      simp only [List.length_append, List.length_singleton]
      omega
    · exact h

theorem AlertSound.placed (h : AlertSound s) (r : Incident) : AlertSound (placeRecord r s) := by
  have hb := placeRecord_bound r h.1
  unfold placeRecord at hb ⊢
  repeat' split
  · exact alertSound_judgeAlert (by simp_all) h.gap
  · exact alertSound_judgeAlert (by simp_all) h.gap
  · exact h

theorem AlertSound.offered (h : AlertSound s) (c : IncidentCode) (sub : Subject) (v : IncidentValue) :
    AlertSound (offer c sub v s) := by
  cases hr : rateLimited c s.log with
  | true => rw [offer_limited s sub v hr]; exact h
  | false =>
    rw [offer_passed s sub v hr]
    obtain ⟨h1, h2, h3, h4⟩ := startQuiet_queue c s.log
    refine AlertSound.placed ?_ _
    exact h.same ⟨h1, h2, h3, h4, rfl⟩

theorem AlertSound.logged (h : AlertSound s) (hl : Logged s t) : AlertSound t := by
  induction hl with
  | refl => exact h
  | touch _ hs ih => exact ih.same hs
  | offer c sub v _ ih => exact ih.offered c sub v

theorem AlertSound.still (h : AlertSound s) (hl : t.log = s.log) (hc : t.comm = s.comm) : AlertSound t :=
  h.logged (.still hl hc)

/-- The log of a reset is empty and ALERT is not asserted (R164). -/
theorem alertSound_reset (p : Phase) (c : ResetCauses) (s : State) : AlertSound (enterReset p c s) :=
  ⟨Nat.zero_le _, by simp [enterReset, State.reset, IncidentLog.afterReset]⟩

theorem alertSound_keptAtEnd : KeptAtEnd AlertSound where
  leave _ _ _ _ _ _ _ h := h.still rfl rfl
  outCycle _ _ h := h.still rfl rfl
  outService _ _ h := h.still rfl rfl
  repeated _ _ h := h.still rfl rfl
  good _ _ _ _ _ h := h.still (by simp) (by simp)
  poisoned _ _ h := h.still rfl rfl
  backService _ _ h := h.still rfl rfl
  serviceReset _ _ := alertSound_reset _ _ _
  errors _ h := h.logged (frameErrors_logged _)
  choice _ h := h.still rfl rfl
  interval _ _ _ h := h.still (by simp) (by simp)
  samples _ _ _ h := h.still (by simp) (by simp)
  react r x _ _ h := h.logged (react_logged r x _)

/-- The completion of a STORE judges ALERT under the new threshold (R185). -/
theorem AlertSound.storeCompletion (h : AlertSound s) : AlertSound (storeCompletion s) := by
  have hb : (bringIntoForce s).log = s.log := by
    unfold bringIntoForce
    simp only []
    split
    · rfl
    · simp
  unfold Machine.storeCompletion
  refine AlertSound.offered (alertSound_judgeAlert ?_ ?_) _ _ _
  · simpa [flamesAtStore, boardAtStore, hb] using h.1
  · simpa [flamesAtStore, boardAtStore, hb] using h.gap

/-- The relay opens with an empty queue and ALERT not asserted (R187). -/
theorem alertSound_loaded (h : AlertLaw s) : AlertSound (storeLoadComplete s) := by
  unfold storeLoadComplete
  split
  · rename_i hp
    have hr := h.1 (by rw [hp]; decide)
    have hl : (openRelay (takeLoaded s)).log = State.reset.log := by
      rw [hr]
      simp [openRelay, takeLoaded, enterReset]
    have ho : AlertSound (openRelay (takeLoaded s)) := by
      unfold AlertSound
      rw [hl]
      exact ⟨Nat.zero_le _, by simp [State.reset, IncidentLog.afterReset]⟩
    unfold offerInvalid
    split
    · exact ho
    · exact ho.offered _ _ _
  all_goals exact h.2

theorem AlertSound.removed (h : AlertSound s) (n : Nat) : AlertSound (removeOldest n s) := by
  unfold removeOldest
  split
  · exact h
  · exact alertSound_judgeAlert (by have := h.1; simp only [List.length_drop]; omega) h.gap

theorem AlertSound.gapExpired (h : AlertSound s) : AlertSound (alertGapExpiry s) := by
  unfold alertGapExpiry
  split
  · exact alertSound_judgeAlert h.1 fun _ => rfl
  · exact h

theorem alertLaw_kept : Kept AlertLaw := by
  have held := heldLaw_kept
  have hr : ∀ p c s, AlertLaw (enterReset p c s) := fun _ _ _ => ⟨heldLaw_reset _ _ _, alertSound_reset _ _ _⟩
  have still : ∀ {s t : State}, AlertLaw s → HeldLaw t → t.log = s.log → t.comm = s.comm → AlertLaw t :=
    fun h ht hl hc => ⟨ht, AlertSound.still h.2 hl hc⟩
  have logged : ∀ {s t : State}, AlertLaw s → HeldLaw t → Logged s t → AlertLaw t :=
    fun h ht hl => ⟨ht, AlertSound.logged h.2 hl⟩
  constructor
  case queue => exact fun s l h => still h (held.queue s l h.1) rfl rfl
  case reply => exact fun r s h => still h (held.reply r s h.1) (by simp) (by simp)
  case frameArrival => exact fun d b l s h => logged h (held.frameArrival d b l s h.1) (frameArrival_logged _ _ _ _)
  case commandPassage => exact fun i s h => logged h (held.commandPassage i s h.1) (commandPassage_logged _ _)
  case statusSlotWrite => exact fun i s h => still h (held.statusSlotWrite i s h.1) (by simp) (by simp)
  case requestTaking => exact fun i s h => still h (held.requestTaking i s h.1) (by simp) (by simp)
  case replyPlaceFill => exact fun i s h => still h (held.replyPlaceFill i s h.1) (by simp) (by simp)
  case frameEnd => exact fun n d us s h => ⟨held.frameEnd n d us s h.1, alertSound_keptAtEnd.frameEnd n d us s h.2⟩
  case resumeTimer => exact fun s h => logged h (held.resumeTimer s h.1) (resumeTimerExpiry_logged s)
  case schedule => exact fun s h => still h (held.schedule s h.1) (by simp) (by simp)
  case solvent => exact fun n s h => logged h (held.solvent n s h.1) (solventEvaluationComplete_logged n s)
  case silence => exact fun s h => logged h (held.silence s h.1) (silenceTimerExpiry_logged s)
  case breakIn => exact fun l s h => logged h (held.breakIn l s h.1) (breakInChange_logged l s)
  case purgeHold => exact fun s h => logged h (held.purgeHold s h.1) (purgeHoldExpiry_logged s)
  case alertGap => exact fun s h => ⟨held.alertGap s h.1, AlertSound.gapExpired h.2⟩
  case bankCheckEnd => exact fun s h => logged h (held.bankCheckEnd s h.1) (bankCheckEnd_logged s)
  case activate => exact fun b m s hp hs h => logged h (held.activate b m s hp hs h.1) (activate_logged b m s)
  case discard => exact fun s hp h => logged h (held.discard s hp h.1) (discardResume_logged _ s)
  case acceptReset =>
    exact fun s hp hd hf hl h => logged h (held.acceptReset s hp hd hf hl h.1) (acceptReset_logged s)
  case removeOldest => exact fun n s hp h => ⟨held.removeOldest n s hp h.1, AlertSound.removed h.2 n⟩
  case storeWrite =>
    intro s h
    refine ⟨held.storeWrite s h.1, ?_⟩
    unfold storeWriteComplete
    split
    · exact AlertSound.storeCompletion h.2
    · exact h.2
  case loadComplete => exact fun s h => ⟨held.loadComplete s h.1, alertSound_loaded h⟩
  case waitExpiry => exact fun s h => waitExpiry_keeps hr h
  case powerOn => exact fun s h => powerOn_keeps hr h
  case supplyLoss => exact fun s _ => hr _ _ _
  case pinAssert =>
    intro s h
    refine ⟨held.pinAssert s h.1, pinAssert_keeps (P := AlertSound) alertSound_reset ?_ h.2⟩
    exact AlertSound.still h.2 rfl rfl
  case pinRelease =>
    refine fun s h => still h (held.pinRelease s h.1) ?_ ?_ <;> unfold resetPinRelease <;> split <;> rfl
  case startStore => exact fun s hp h1 h2 h3 h => ⟨held.startStore s hp h1 h2 h3 h.1, h.2⟩
  case reloadWorking => exact fun s hp h1 h => ⟨held.reloadWorking s hp h1 h.1, h.2⟩
  case clearCounter =>
    refine fun s n hp h => ⟨held.clearCounter s n hp h.1, ?_⟩
    have hs := h.2
    unfold clearCounter
    split <;> exact hs
  case writeItem =>
    intro w p s u hp h1 h2 h3 hw h
    obtain ⟨_, _, rfl⟩ := writeItem_moves hw
    exact ⟨held.writeItem w p s _ hp h1 h2 h3 hw h.1, h.2⟩
  case emptyList =>
    refine fun t s hp h1 h2 h3 h => ⟨held.emptyList t s hp h1 h2 h3 h.1, ?_⟩
    obtain ⟨_, _, e⟩ := emptyList_moves t s
    rw [e]
    exact h.2
  case overrides => exact fun o s hp h => still h (held.overrides o s hp h.1) (by simp) (by simp)
  case released => exact fun r b s hp h1 h2 h => still h (held.released r b s hp h1 h2 h.1) (by simp) (by simp)
  case startCheck => exact fun b s hp h1 h2 h3 h => still h (held.startCheck b s hp h1 h2 h3 h.1) rfl rfl
  all_goals intros; rename_i h; exact still h (heldLaw_of_running (by assumption)) rfl rfl

/-- Settles O52: by a lemma for each operation, offers alone having to be followed where they go (R155, R162). -/
theorem alertLawKept : Obligations.AlertLawKept := by
  unfold Obligations.AlertLawKept
  exact ⟨fun s t h e => heldLaw_kept.step s t h e, fun s t h e => alertLaw_kept.step s t h e⟩

end Sys2Proof.Machine
end

section
/-! PROOF. The states of the banks (R42, R175): the law over the banks and the operation record alone. -/

namespace Sys2Proof.Machine

variable {s t u : State} {q : Four Bank} {ck : Option BankNo} {b : BankNo} {x : Bank}

/-! ## What a write to a table touches (R39, R174) -/

/-- The states of a bank whose tables may be written. -/
def BankState.writable : BankState → Bool
  | .empty | .editing | .sealed => true
  | .checking _ _ | .pending _ | .active => false

theorem writeBar_bank {tb : Table} (hb : tb.bank? = some b) (h : writeBar tb s = none) :
    (s.banks.get b).state.writable = true := by
  unfold writeBar at h
  simp only [hb] at h
  split at h <;> simp_all [BankState.writable]

/-- An item of no bank's table is written into the working copy. -/
theorem writeItem_working {tb : Table} {i : Nat} {p : Place} (hb : tb.bank? = none) (h : writeItem tb i p s = some u) :
    u = { s with comm.working := u.comm.working } := by
  cases tb <;> simp [Table.bank?] at hb <;> simp only [writeItem, Option.map_eq_some_iff, reduceCtorEq] at h
  all_goals obtain ⟨_, _, rfl⟩ := h; rfl

/-- An item of a bank's table is written into the recipe of that bank, which is then EDITING. -/
theorem writeItem_bank {tb : Table} {i : Nat} {p : Place} (hb : tb.bank? = some b) (h : writeItem tb i p s = some u) :
    ∃ r, u = editBank b r s := by
  cases tb <;> simp [Table.bank?] at hb <;> subst hb <;> simp only [writeItem, Option.map_eq_some_iff] at h
  all_goals obtain ⟨_, _, rfl⟩ := h; exact ⟨_, rfl⟩

/-- A list emptied is the map of the working copy or a list of a bank, which is then EDITING. -/
theorem emptyList_bank (tb : Table) (s : State) :
    (∃ w, emptyList tb s = { s with comm.working := w })
      ∨ ∃ b, tb.bank? = some b ∧ ∃ r, emptyList tb s = editBank b r s := by
  cases tb <;> first | exact .inl ⟨_, rfl⟩ | exact .inr ⟨_, rfl, _, rfl⟩

/-! ## The banks and the operation record -/

/-- At most one bank ACTIVE, at most one PENDING, and the operation record tells the CHECKING one (R42, R175). -/
structure BanksSound (q : Four Bank) (ck : Option BankNo) : Prop where
  active : ∀ a b : BankNo, (q.get a).state = .active → (q.get b).state = .active → a = b
  pending : ∀ a b : BankNo, (q.get a).state.isPending = true → (q.get b).state.isPending = true → a = b
  checking : ∀ b : BankNo, (q.get b).state.isChecking = true ↔ ck = some b

theorem bankLaw_iff : BankLaw s ↔ BanksSound s.banks s.agent.checking :=
  ⟨fun ⟨h1, h2, h3⟩ => ⟨h1, h2, h3⟩, fun ⟨h1, h2, h3⟩ => ⟨h1, h2, h3⟩⟩

/-- What the law asks of a bank's state: whether it is ACTIVE, PENDING, CHECKING. Banks with none more of the first two
and the same CHECKING ones keep the law. -/
theorem BanksSound.fewer {r : Four Bank} (h : BanksSound q ck)
    (ha : ∀ c, (r.get c).state = .active → (q.get c).state = .active)
    (hp : ∀ c, (r.get c).state.isPending = true → (q.get c).state.isPending = true)
    (hc : ∀ c, (r.get c).state.isChecking = (q.get c).state.isChecking) : BanksSound r ck where
  active a b h1 h2 := h.active a b (ha a h1) (ha b h2)
  pending a b h1 h2 := h.pending a b (hp a h1) (hp b h2)
  checking b := by rw [hc]; exact h.checking b

/-- A bank that is not CHECKING comes to a state that is none of the three. -/
theorem BanksSound.plain (h : BanksSound q ck) (hb : (q.get b).state.isChecking = false)
    (hx : x.state.writable = true) : BanksSound (q.set b x) ck := by
  refine h.fewer (fun c => ?_) (fun c => ?_) (fun c => ?_) <;> rw [Four.get_set] <;> split
  · exact fun a => by simp [a, BankState.writable] at hx
  · exact id
  · exact fun a => by cases hs : x.state <;> simp_all [BankState.writable, BankState.isPending]
  · exact id
  · rename_i hcb
    rw [hcb, hb]
    cases hs : x.state <;> simp_all [BankState.writable, BankState.isChecking]
  · rfl

theorem BankState.writable_not_checking {st : BankState} (h : st.writable = true) : st.isChecking = false := by
  cases st <;> simp_all [BankState.writable, BankState.isChecking]

theorem BankState.pending_not_checking {st : BankState} (h : st.isPending = true) : st.isChecking = false := by
  cases st <;> simp_all [BankState.isPending, BankState.isChecking]

/-- The ACTIVE bank is the one the search finds. -/
theorem BanksSound.found (h : BanksSound q ck) (ha : (q.get b).state = .active) : activeBank q = some b := by
  obtain ⟨c, hc⟩ := Option.isSome_iff_exists.1 (activeBank_isSome ha)
  rw [hc, h.active c b (activeBank_spec hc) ha]

/-- A changeover to a bank that is not CHECKING (R53). -/
theorem BanksSound.changeover (h : BanksSound q ck) (hb : (q.get b).state.isChecking = false) :
    BanksSound (changeoverBanks b q) ck := by
  have former : ∀ c, c ≠ b → ((changeoverBanks b q).get c).state ≠ .active := fun c hc => by
    rw [changeoverBanks_get, if_neg hc]
    split
    · simp
    · rename_i hn
      exact fun a => hn (h.found a)
  refine ⟨fun a c ha hc => ?_, fun a c => ?_, fun c => ?_⟩
  · have ha' : a = b := Classical.byContradiction fun hn => former a hn ha
    have hc' : c = b := Classical.byContradiction fun hn => former c hn hc
    rw [ha', hc']
  · rw [changeoverBanks_get, changeoverBanks_get]
    repeat' split
    all_goals first | exact h.pending a c | simp [BankState.isPending]
  · rw [changeoverBanks_get, ← h.checking c]
    split
    · rename_i hcb
      rw [hcb, hb]
      simp [BankState.isChecking]
    · split
      · rename_i hc
        simp [activeBank_spec hc, BankState.isChecking]
      · exact .rfl

/-- After a changeover the search finds the bank it named. -/
theorem BanksSound.found_after (h : BanksSound q ck) (hb : (q.get b).state.isChecking = false) :
    activeBank (changeoverBanks b q) = some b :=
  (h.changeover hb).found (by rw [changeoverBanks_get, if_pos rfl])

/-- The PENDING bank returns to SEALED (R50, R54). -/
theorem BanksSound.unqueued (h : BanksSound q ck) : BanksSound (unqueue q) ck := by
  cases hq : pendingBank q with
  | none => rw [unqueue_of_none hq]; exact h
  | some b =>
    rw [unqueue_of_some hq]
    exact h.plain (BankState.pending_not_checking (pendingBank_spec hq)) rfl

/-- No bank is PENDING once the queue is given up. -/
theorem BanksSound.none_pending (h : BanksSound q ck) (c : BankNo) : ((unqueue q).get c).state.isPending = false := by
  cases hq : pendingBank q with
  | none =>
    rw [unqueue_of_none hq]
    have hn := fun b => List.find?_eq_none.1 hq b (mem_bankNumbers b)
    simpa using hn c
  | some b =>
    rw [unqueue_of_some hq, setBankState_get]
    split
    · rfl
    · rename_i hcb
      refine Classical.byContradiction fun hp => ?_
      exact hcb (h.pending c b (by simpa using hp) (pendingBank_spec hq))

/-- With no bank PENDING a bank that is not CHECKING may become PENDING (R50). -/
theorem BanksSound.queued (h : BanksSound q ck) (hn : ∀ c, (q.get c).state.isPending = false)
    (hb : (q.get b).state.isChecking = false) (m : PendingMode) : BanksSound (setBankState q b (.pending m)) ck := by
  refine ⟨fun a c => ?_, fun a c => ?_, fun c => ?_⟩
  · rw [setBankState_get, setBankState_get]
    split
    · simp
    · split
      · simp
      · exact h.active a c
  · rw [setBankState_get, setBankState_get]
    split
    · split
      · simp [*]
      · simp [hn]
    · simp [hn]
  · rw [setBankState_get, ← h.checking c]
    split
    · rename_i hcb
      rw [hcb, hb]
      simp [BankState.isChecking]
    · exact .rfl

/-- A seal check starts while none runs (R45). -/
theorem BanksSound.checked (h : BanksSound q ck) (hn : anyChecking q = false) (z c : Nat) :
    BanksSound (setBankState q b (.checking z c)) (some b) := by
  have hk : ∀ a, (q.get a).state.isChecking = false := fun a => by
    have := List.any_eq_false.1 hn a (mem_bankNumbers a)
    simpa using this
  refine ⟨fun a d => ?_, fun a d => ?_, fun d => ?_⟩
  · rw [setBankState_get, setBankState_get]
    split
    · simp
    · split
      · simp
      · exact h.active a d
  · rw [setBankState_get, setBankState_get]
    split
    · simp [BankState.isPending]
    · split
      · simp [BankState.isPending]
      · exact h.pending a d
  · rw [setBankState_get]
    split
    · rename_i hd; simp [hd, BankState.isChecking]
    · rename_i hd; simp [hk d, Ne.symm hd]

/-- The running seal check ends (R47). -/
theorem BanksSound.check_ended (h : BanksSound q (some b)) (hx : x.state.writable = true) :
    BanksSound (q.set b x) none := by
  refine ⟨fun a d => ?_, fun a d => ?_, fun d => ?_⟩
  · rw [Four.get_set, Four.get_set]
    split
    · exact fun hs => by simp [hs, BankState.writable] at hx
    · split
      · exact fun _ hs => by simp [hs, BankState.writable] at hx
      · exact h.active a d
  · have hp : x.state.isPending = false := by cases hs : x.state <;> simp_all [BankState.writable, BankState.isPending]
    rw [Four.get_set, Four.get_set]
    split
    · simp [hp]
    · split
      · simp [hp]
      · exact h.pending a d
  · rw [Four.get_set]
    split
    · simp [BankState.writable_not_checking hx]
    · rename_i hd
      simp only [reduceCtorEq, iff_false]
      exact fun hs => hd (Option.some.inj ((h.checking d).1 hs)).symm

/-- A change of the counts demotes every bank but a CHECKING one (R55). -/
theorem BanksSound.demoted (h : BanksSound q ck) : BanksSound (Four.ofFn fun b => demoteBank (q.get b)) ck := by
  refine h.fewer (fun c => ?_) (fun c => ?_) (fun c => ?_) <;> rw [Four.get_ofFn] <;>
    cases hs : (q.get c).state <;> simp [demoteBank, BankState.demoted, hs, BankState.isPending, BankState.isChecking]

theorem BanksSound.cleared : BanksSound (Four.fill Bank.cleared) none := by
  refine ⟨fun a b => ?_, fun a b => ?_, fun b => ?_⟩ <;> simp [Bank.cleared, BankState.isPending, BankState.isChecking]

theorem BanksSound.edited (h : BanksSound q ck) (hb : (q.get b).state.writable = true) (r : Recipe) :
    BanksSound (q.set b { q.get b with state := .editing, recipe := r }) ck :=
  h.plain (BankState.writable_not_checking hb) rfl

end Sys2Proof.Machine
end

section
/-! PROOF. Every operation keeps the banks' laws (R42, R175). -/

namespace Sys2Proof.Machine

variable {s t u : State} {b : BankNo}

theorem BankLaw.same (h : BankLaw s) (hb : t.banks = s.banks) (hc : t.agent.checking = s.agent.checking) : BankLaw t := by
  rw [bankLaw_iff, hb, hc]
  exact bankLaw_iff.1 h

theorem BankLaw.of {q : Four Bank} (hq : BanksSound q s.agent.checking) (hb : t.banks = q)
    (hc : t.agent.checking = s.agent.checking) : BankLaw t := by
  rw [bankLaw_iff, hb, hc]
  exact hq

theorem bankLaw_reset (p : Phase) (c : ResetCauses) (s : State) : BankLaw (enterReset p c s) :=
  bankLaw_iff.2 .cleared

theorem BankLaw.changeover (h : BankLaw s) (hb : (s.banks.get b).state.isChecking = false) : BankLaw (changeover b s) :=
  BankLaw.of ((bankLaw_iff.1 h).changeover hb) (by simp) (by simp)

theorem BankLaw.changeoverEvent (h : BankLaw s) (m : PendingMode) : BankLaw (changeoverEvent m s) := by
  unfold Machine.changeoverEvent
  split
  · rename_i b hb
    split
    · exact h.changeover (BankState.pending_not_checking (pendingBank_spec hb))
    · exact h
  · exact h

theorem BankLaw.activate (h : BankLaw s) (hb : (s.banks.get b).state = .sealed) (m : ActivationMode) :
    BankLaw (activate b m s) := by
  have hu := (bankLaw_iff.1 h).unqueued
  have hs : ((unqueue s.banks).get b).state.isChecking = false := by
    unfold unqueue
    split
    · rw [setBankState_get]
      split
      · rfl
      · rw [hb]; rfl
    · rw [hb]; rfl
  have ht : BankLaw { s with banks := unqueue s.banks } := bankLaw_iff.2 hu
  have hq : ∀ m, BankLaw (enqueue b m { s with banks := unqueue s.banks }) := fun m =>
    BankLaw.of (hu.queued (bankLaw_iff.1 h).none_pending hs m) rfl rfl
  unfold Machine.activate
  simp only []
  split
  · exact ht.changeover hs
  · split
    · exact ht.changeover hs
    · exact hq _
  · exact hq _

theorem breakEntry_banks (src : BreakSource) (s : State) : (breakEntry src s).banks = s.banks := by
  unfold breakEntry offerSecond
  simp only []
  split <;> simp

theorem resumeExpiry_banks (s : State) : (resumeExpiry s).banks = s.banks := by simp [resumeExpiry]

theorem BankLaw.transition (h : BankLaw s) (src : Option BreakSource) : BankLaw (transition src s) := by
  unfold Machine.transition
  repeat' split
  all_goals first
    | exact h
    | exact h.same (breakEntry_banks _ _) (by simp)
    | exact h.same (resumeExpiry_banks _) (by simp)
    | exact h.same rfl rfl
    | (refine BankLaw.changeoverEvent ?_ _; exact h)

theorem BankLaw.webReaction (h : BankLaw s) (r : Refresh) : BankLaw (webReaction r s) := by
  have hs : ∀ u, BankLaw u → BankLaw (handSplice u) := fun u hu => by
    unfold handSplice
    split
    · exact hu.changeoverEvent _
    · exact hu
  refine hs _ ?_
  split
  · split
    · unfold lineReturn
      simp only []
      split
      · refine BankLaw.changeoverEvent ?_ _
        exact h
      · exact h.same rfl rfl
    · unfold judgeWeb
      refine BankLaw.transition ?_ _
      exact h
  · exact h

/-- The reactions of the other blocks leave the banks and the operation record. -/
theorem BankLaw.react (h : BankLaw s) (r : Refresh) (x : Reaction) : BankLaw (react r x s) := by
  cases x with
  | webSequencer => exact h.webReaction r
  | lineInterface => unfold Machine.react; simp only []; split <;> simpa [BankLaw] using h
  | sampleBoard => simpa [Machine.react, BankLaw] using h
  | commandTable => simpa [Machine.react, BankLaw] using h
  | dryerSafety => simpa [Machine.react, BankLaw] using h
  | scheduleUnit => simpa [Machine.react, BankLaw] using h
  | solventUnit => simpa [Machine.react, BankLaw] using h
  | incidentLog => simpa [Machine.react, BankLaw] using h

theorem bankLaw_keptAtEnd : KeptAtEnd BankLaw := by
  constructor
  case leave => exact fun _ _ _ _ _ _ _ h => h.same rfl rfl
  case serviceReset => exact fun _ _ => bankLaw_reset _ _ _
  case react => exact fun r x _ _ h => h.react r x
  case outService => exact fun t s h => h.same rfl (by unfold settleTakings; simp only []; split <;> rfl)
  all_goals intros; simpa [BankLaw] using ‹BankLaw _›

theorem BankLaw.bankCheckEnd (h : BankLaw s) : BankLaw (bankCheckEnd s) := by
  unfold Machine.bankCheckEnd
  split
  · exact h
  · rename_i b hb
    have hs := bankLaw_iff.1 h
    rw [hb] at hs
    split
    · refine bankLaw_iff.2 ?_
      simp only [endCheck, offer_frame]
      refine hs.check_ended ?_
      show BankState.writable (stateAfterCheck _) = true
      unfold stateAfterCheck
      split <;> rfl
    all_goals exact h

theorem BankLaw.bringIntoForce (h : BankLaw s) : BankLaw (bringIntoForce s) := by
  unfold Machine.bringIntoForce
  simp only []
  split
  · exact h.same rfl rfl
  · exact BankLaw.of (bankLaw_iff.1 h).demoted (by simp [demoteAll]) (by simp)

theorem bankLaw_kept : Kept BankLaw := by
  have hr := bankLaw_reset
  constructor
  case frameEnd => exact fun n d us s h => bankLaw_keptAtEnd.frameEnd n d us s h
  case bankCheckEnd => exact fun s h => h.bankCheckEnd
  case startCheck => exact fun b s _ _ hn _ h => bankLaw_iff.2 ((bankLaw_iff.1 h).checked hn _ _)
  case clearBank =>
    intro b s _ hb h
    refine BankLaw.of ((bankLaw_iff.1 h).plain ?_ rfl) rfl rfl
    rcases hb with hb | hb | hb <;> rw [hb] <;> rfl
  case activate => exact fun b m s _ hb h => h.activate hb m
  case unqueue => exact fun s _ h => BankLaw.of (bankLaw_iff.1 h).unqueued rfl rfl
  case emptyList =>
    intro tb s _ _ _ hw h
    rcases emptyList_bank tb s with ⟨w, e⟩ | ⟨b, hb, r, e⟩ <;> rw [e]
    · exact h.same rfl rfl
    · exact BankLaw.of ((bankLaw_iff.1 h).edited (writeBar_bank hb hw) r) rfl rfl
  case writeItem =>
    intro w p s u _ _ hw _ hi h
    cases hb : w.table.bank? with
    | none => rw [writeItem_working hb hi]; exact h.same rfl rfl
    | some b =>
      obtain ⟨r, rfl⟩ := writeItem_bank hb hi
      exact BankLaw.of ((bankLaw_iff.1 h).edited (writeBar_bank hb hw) r) rfl rfl
  case storeWrite =>
    intro s h
    unfold storeWriteComplete
    split
    · have ht := h.bringIntoForce
      simpa [storeCompletion, BankLaw, flamesAtStore] using ht
    · exact h
  case silence =>
    intro s h
    unfold silenceTimerExpiry
    split
    · simpa [BankLaw] using h
    · exact h
  case waitExpiry => exact fun s h => waitExpiry_keeps hr h
  case powerOn => exact fun s h => powerOn_keeps hr h
  case supplyLoss => exact fun s _ => hr _ _ _
  case pinAssert => exact fun s h => pinAssert_keeps hr (h.same rfl rfl) h
  case pinRelease => intro s h; unfold resetPinRelease; simp only []; split <;> exact h
  case loadComplete => intro s h; unfold storeLoadComplete; split <;> simpa [BankLaw, openRelay] using h
  case clearCounter => intro s n _ h; unfold clearCounter; split <;> exact h
  case overrides => exact fun o s _ h => h.same (by simp) (by simp [withOverrides])
  all_goals intros; simpa [BankLaw] using ‹BankLaw _›

/-! ## A running STORE (R184) -/

/-- The dryer states in which a STORE may run. -/
def Rest (d : DryerState) : Prop := d = .unpurged ∨ d = .tripped

theorem StoreLaw.same (h : StoreLaw s) (hr : t.agent.storeRunning = s.agent.storeRunning)
    (hc : t.comm.stored = s.comm.stored) (hd : Rest s.dryer.state → Rest t.dryer.state) : StoreLaw t := by
  intro a
  obtain ⟨h1, h2⟩ := h (hr ▸ a)
  exact ⟨hc.trans h1, hd h2⟩

theorem onset_rest (c : SafetyCondition) (sub : Subject) (v : Option Int) (s : State) : Rest (onset c sub v s).dryer.state :=
  .inr (onset_tripped s c sub v)

theorem dryerReaction_rest (r : Refresh) (s : State) (h : Rest s.dryer.state) : Rest (dryerReaction r s).dryer.state := by
  by_cases hk : s.commissioned = true
  · obtain ⟨w, hc⟩ := commissioned_scalars hk
    obtain ⟨trip, hj⟩ := conditionsJudged_any r s
    have hr : Rest (conditionsJudged r s).dryer.state := by
      by_cases ht : trip
      · exact .inr (hj.state ht)
      · rw [(hj.quiet ht).1]; exact h
    have idle : purgeAndFlames r (conditionsJudged r s) = conditionsJudged r s := by
      rcases hr with e | e <;> exact purgeAndFlames_idle (by simp [e]) (by simp [e]) (by simp [e])
    rw [dryerReaction_steps hc, idle]
    exact hr
  · rw [dryerReaction, if_neg hk]; exact h

/-- Every other reaction that reaches the dryer leaves its state or trips it. -/
theorem commandReaction_rest (r : Refresh) (s : State) (h : Rest s.dryer.state) : Rest (commandReaction r s).dryer.state := by
  have he : ∀ c (u : State) x, Rest u.dryer.state → Rest (judgeEcho c u x).dryer.state := fun c u x hu => by
    unfold judgeEcho echoMatch echoMiss becameUnresponsive exhaustResponsiveReport exhaustUnresponsiveReport
    simp only []
    repeat' split
    all_goals first | exact hu | exact onset_rest _ _ _ _ | simpa using hu
  have hf : ∀ c (l : List Role) (u : State), Rest u.dryer.state → Rest (l.foldl (judgeEcho c) u).dryer.state := by
    intro c l
    induction l with
    | nil => exact fun u hu => hu
    | cons x l ih => exact fun u hu => ih _ (he c u x hu)
  unfold commandReaction judgeEchoes
  repeat' split
  all_goals first | exact h | exact hf _ _ _ h

theorem solvent_rest (n : Nat) (s : State) (h : Rest s.dryer.state) : Rest (solventEvaluationComplete n s).dryer.state := by
  have hp : ∀ (q : SolvPub) (u : State), Rest u.dryer.state → Rest (judgePredicted q u).dryer.state := fun q u hu => by
    unfold judgePredicted
    simp only []
    repeat' split
    all_goals first | exact hu | exact onset_rest _ _ _ _
  unfold solventEvaluationComplete publishSolvent
  split
  · simp only []
    split
    · simp only [judgePublication_frame]
      exact hp _ _ h
    · exact hp _ _ (by simpa using h)
  · exact h

theorem silence_rest (s : State) (h : Rest s.dryer.state) : Rest (silenceTimerExpiry s).dryer.state := by
  have he : ∀ u : State, Rest u.dryer.state → Rest (silentEntry u).dryer.state := fun u hu => by
    unfold silentEntry
    repeat' split
    all_goals first | exact hu | exact onset_rest _ _ _ _ | (simp only [setDryer_dryer]; exact .inl rfl)
  unfold silenceTimerExpiry enterSilent
  split
  · exact he _ h
  · exact h

theorem purgeHold_rest (s : State) (h : Rest s.dryer.state) : Rest (purgeHoldExpiry s).dryer.state := by
  unfold purgeHoldExpiry
  split
  · simp only [offer_frame, setDryer_dryer]
    exact .inl rfl
  · exact h

theorem StoreLaw.react (h : StoreLaw s) (r : Refresh) (x : Reaction) : StoreLaw (react r x s) := by
  cases x with
  | dryerSafety => exact h.same (by simp [Machine.react]) (by simp [Machine.react]) (dryerReaction_rest r s)
  | commandTable => exact h.same (by simp [Machine.react]) (by simp [Machine.react]) (commandReaction_rest r s)
  | lineInterface => unfold Machine.react; simp only []; split <;> simpa [StoreLaw] using h
  | sampleBoard => simpa [Machine.react, StoreLaw] using h
  | webSequencer => simpa [Machine.react, StoreLaw] using h
  | scheduleUnit => simpa [Machine.react, StoreLaw] using h
  | solventUnit => simpa [Machine.react, StoreLaw] using h
  | incidentLog => simpa [Machine.react, StoreLaw] using h

theorem storeLaw_reset (p : Phase) (c : ResetCauses) (s : State) : StoreLaw (enterReset p c s) := fun a => by cases a

theorem settleTakings_store (g : Bool) (a : Agent) :
    (settleTakings g a).storeRunning = a.storeRunning ∧ (settleTakings g a).checking = a.checking := by
  unfold settleTakings
  split <;> exact ⟨rfl, rfl⟩

theorem storeLaw_keptAtEnd : KeptAtEnd StoreLaw := by
  constructor
  case leave => exact fun _ _ _ _ _ _ _ h => h.same rfl rfl id
  case serviceReset => exact fun _ _ => storeLaw_reset _ _ _
  case react => exact fun r x _ _ h => h.react r x
  case outService => exact fun t s h => h.same (settleTakings_store _ _).1 rfl id
  all_goals intros; simpa [StoreLaw] using ‹StoreLaw _›

theorem storeLaw_kept : Kept StoreLaw := by
  have hr := storeLaw_reset
  constructor
  case frameEnd => exact fun n d us s h => storeLaw_keptAtEnd.frameEnd n d us s h
  case solvent => exact fun n s h => h.same (by simp) (by simp) (solvent_rest n s)
  case silence =>
    refine fun s h => h.same ?_ ?_ (silence_rest s) <;> unfold silenceTimerExpiry <;> split <;> simp
  case purgeHold => exact fun s h => h.same (by simp) (by simp) (purgeHold_rest s)
  case startStore => exact fun s _ _ hd _ _ _ => ⟨rfl, hd⟩
  case startPurge => exact fun s _ _ hn _ _ _ a => by rw [hn] at a; cases a
  case abortPurge => exact fun s _ _ h => h.same rfl rfl fun _ => .inl rfl
  case acceptReset =>
    refine fun s _ _ _ _ h => h.same ?_ ?_ fun _ => ?_
    · simp [acceptReset]
    · simp [acceptReset]
    · simp only [acceptReset, offer_frame, setDryer_dryer]
      exact .inl rfl
  case storeWrite =>
    intro s h
    unfold storeWriteComplete
    split
    · have hb : (bringIntoForce s).agent.storeRunning = false := by
        unfold bringIntoForce; simp only []; split <;> simp
      have hs : (storeCompletion s).agent.storeRunning = false := by
        simpa [storeCompletion, flamesAtStore, boardAtStore] using hb
      exact fun a => by rw [hs] at a; cases a
    · exact h
  case emptyList =>
    intro tb s _ _ _ _ h
    obtain ⟨_, _, e⟩ := emptyList_moves tb s
    rw [e]
    exact h
  case writeItem =>
    intro w p s u _ _ _ _ hi h
    obtain ⟨_, _, rfl⟩ := writeItem_moves hi
    exact h
  case waitExpiry => exact fun s h => waitExpiry_keeps hr h
  case powerOn => exact fun s h => powerOn_keeps hr h
  case supplyLoss => exact fun s _ => hr _ _ _
  case pinAssert => exact fun s h => pinAssert_keeps hr (h.same rfl rfl id) h
  case pinRelease => intro s h; unfold resetPinRelease; simp only []; split <;> exact h
  case loadComplete => intro s h; unfold storeLoadComplete; split <;> simpa [StoreLaw, openRelay, takeLoaded] using h
  case clearCounter => intro s n _ h; unfold clearCounter; split <;> exact h
  case overrides => exact fun o s _ h => h.same (by simp [withOverrides]) (by simp) (by simp)
  case bankCheckEnd =>
    intro s h
    unfold bankCheckEnd endCheck
    repeat' split
    all_goals first | exact h | simpa [StoreLaw] using h
  case reloadWorking => exact fun s _ _ h => h
  case startCheck => exact fun b s _ _ _ _ h => h
  all_goals intros; simpa [StoreLaw] using ‹StoreLaw _›

end Sys2Proof.Machine
end

section
/-! PROOF. Where the dryer state changes, and what a change that is announced does to the resume record (R108, R117). -/

namespace Sys2Proof.Machine

variable {s t u : State}

/-- The Web Sequencer, the banks and the dryer state stand. -/
def SameWeb (s t : State) : Prop := t.web = s.web ∧ t.banks = s.banks ∧ t.dryer.state = s.dryer.state

/-- `t` comes from `s` by changes of the dryer state through its announcement, and by changes that leave the Web
Sequencer, the banks and the dryer state (R117). -/
inductive Announced (s : State) : State → Prop
  | refl : Announced s s
  | touch {u t : State} : Announced s u → SameWeb u t → Announced s t
  | setDryer {u : State} (n : DryerState) (hn : n ≠ .purging) : Announced s u → Announced s (setDryer n u)

theorem Announced.trans (h : Announced s t) (g : Announced t u) : Announced s u := by
  induction g with
  | refl => exact h
  | touch _ hs ih => exact .touch ih hs
  | setDryer n hn _ ih => exact .setDryer n hn ih

/-- A change of other blocks. -/
theorem Announced.still (h : SameWeb s t) : Announced s t := .touch .refl h

theorem Announced.after (h : Announced u t) (hs : SameWeb s u) : Announced s t := (still hs).trans h

theorem Announced.foldl {α : Type} (f : State → α → State) (h : ∀ s x, Announced s (f s x)) (l : List α) (s : State) :
    Announced s (l.foldl f s) := by
  induction l generalizing s with
  | nil => exact .refl
  | cons x l ih => exact (h s x).trans (ih _)

theorem onset_announced (c : SafetyCondition) (sub : Subject) (v : Option Int) (s : State) :
    Announced s (onset c sub v s) := by
  have hf : ∀ (k : Capture) (d : DryerUnit), (fillCapture k d).state = d.state := fun k d => by
    unfold fillCapture; split <;> rfl
  unfold onset
  split
  · exact .still (by simp [SameWeb])
  · exact .touch (.setDryer .tripped (by decide) .refl) (by simp [SameWeb, hf])

theorem dryerReaction_announced (r : Refresh) (s : State) : Announced s (dryerReaction r s) := by
  have h1 : ∀ u : State, Announced u (judgeLelMeasured u) := fun u => by
    unfold judgeLelMeasured
    repeat' split
    all_goals first | exact .refl | exact .still ⟨rfl, rfl, rfl⟩ | exact .after (onset_announced _ _ _ _) ⟨rfl, rfl, rfl⟩
  have h2 : ∀ u : State, Announced u (judgeExhaustLow r u) := fun u => by
    unfold judgeExhaustLow
    simp only []
    repeat' split
    all_goals first | exact .refl | exact .still ⟨rfl, rfl, rfl⟩ | exact .after (onset_announced _ _ _ _) ⟨rfl, rfl, rfl⟩
  have h3 : ∀ (u : State) k, Announced u (judgeFlame r u k) := fun u k => by
    unfold judgeFlame
    simp only []
    repeat' split
    all_goals first | exact .still ⟨rfl, rfl, rfl⟩ | exact .after (onset_announced _ _ _ _) ⟨rfl, rfl, rfl⟩
  have hd : ∀ c (u : State), Announced u (purgeDone c u) := fun c u => by
    unfold purgeDone
    exact .touch (.setDryer .purged (by decide) .refl) (by simp [SameWeb])
  have h4 : ∀ u : State, Announced u (purgeStep r u) := fun u => by
    unfold purgeStep judgePurge
    simp only []
    repeat' split
    all_goals first
      | exact .refl
      | exact .still ⟨rfl, rfl, rfl⟩
      | exact .after (hd _ _) ⟨rfl, rfl, rfl⟩
  have h5 : ∀ u : State, Announced u (judgeFlameChange u) := fun u => by
    unfold judgeFlameChange
    simp only []
    repeat' split
    all_goals first
      | exact .refl
      | exact .setDryer _ (by decide) .refl
      | exact .touch (.setDryer _ (by decide) .refl) ⟨rfl, rfl, rfl⟩
  have h0 : Announced s (cleared r s) := .still (by
    unfold cleared clearPredicted clearLineSilent
    repeat' split
    all_goals exact ⟨rfl, rfl, rfl⟩)
  unfold dryerReaction
  split
  · exact (((h0.trans (h1 _)).trans (h2 _)).trans (.foldl _ h3 _ _)).trans ((h4 _).trans (h5 _))
  · exact .refl

theorem judgePredicted_announced (q : SolvPub) (s : State) : Announced s (judgePredicted q s) := by
  unfold judgePredicted
  simp only []
  repeat' split
  all_goals first | exact .refl | exact .still ⟨rfl, rfl, rfl⟩ | exact .after (onset_announced _ _ _ _) ⟨rfl, rfl, rfl⟩

theorem solventEvaluationComplete_announced (n : Nat) (s : State) : Announced s (solventEvaluationComplete n s) := by
  have hj : ∀ k q (u : State), Announced u (judgePublication k q u) := fun k q u => .still (by simp [SameWeb])
  unfold solventEvaluationComplete publishSolvent
  split
  · simp only []
    split
    · exact .after (.trans (judgePredicted_announced _ _) (hj _ _ _)) ⟨rfl, rfl, rfl⟩
    · exact .after (.trans (hj _ _ _) (judgePredicted_announced _ _)) ⟨rfl, rfl, rfl⟩
  · exact .still ⟨rfl, rfl, rfl⟩

theorem silentEntry_announced (s : State) : Announced s (silentEntry s) := by
  unfold silentEntry
  simp only []
  repeat' split
  all_goals first
    | exact .refl
    | exact .after (onset_announced _ _ _ _) ⟨rfl, rfl, rfl⟩
    | exact .touch (.setDryer _ (by decide) .refl) ⟨rfl, rfl, rfl⟩

theorem silenceTimerExpiry_announced (s : State) : Announced s (silenceTimerExpiry s) := by
  unfold silenceTimerExpiry enterSilent
  split
  · exact .after (silentEntry_announced _) ⟨rfl, rfl, rfl⟩
  · exact .refl

theorem purgeHoldExpiry_announced (s : State) : Announced s (purgeHoldExpiry s) := by
  unfold purgeHoldExpiry
  split
  · rename_i d _ _
    exact .touch (.setDryer .unpurged (by decide) (.still (t := { reachDeadline d s with dryer.hold := none }) ⟨rfl, rfl, rfl⟩))
      (by simp [SameWeb])
  · exact .refl

theorem acceptReset_announced (s : State) : Announced s (acceptReset s) :=
  .touch (.setDryer .unpurged (by decide) .refl) (by simp [acceptReset, SameWeb, clearCounters])

theorem exhaustUnresponsiveReport_announced (s : State) : Announced s (exhaustUnresponsiveReport s) := by
  unfold exhaustUnresponsiveReport
  split
  · exact .refl
  · exact .after (onset_announced _ _ _ _) ⟨rfl, rfl, rfl⟩

theorem commandReaction_announced (r : Refresh) (s : State) : Announced s (commandReaction r s) := by
  have he : ∀ c (u : State) x, Announced u (judgeEcho c u x) := fun c u x => by
    unfold judgeEcho echoMatch echoMiss becameUnresponsive exhaustResponsiveReport
    simp only []
    repeat' split
    all_goals first
      | exact .refl
      | exact .still ⟨rfl, rfl, rfl⟩
      | exact .after (exhaustUnresponsiveReport_announced _) ⟨rfl, rfl, rfl⟩
      | exact .still (by simp [SameWeb])
  unfold commandReaction judgeEchoes
  repeat' split
  all_goals first | exact .refl | exact .after (.foldl _ (he _) _ _) ⟨rfl, rfl, rfl⟩ | exact .still ⟨rfl, rfl, rfl⟩

end Sys2Proof.Machine
end

section
/-! PROOF. The resume record, the RESUMING web and its timer (R106 to R110), and O54. -/

namespace Sys2Proof.Machine

variable {s t u : State} {b : BankNo}

/-- The resume record's own part of `ResumeLaw` (R106, R107, R108, R109). -/
structure ResumeSound (s : State) : Prop where
  record : ∀ r, s.web.record = some r → s.dryer.state.burning = true ∧ activeBank s.banks = some r.bank
  resuming : s.web.state = .resuming → s.web.record.isSome = true
  timer : s.web.timer.isSome = true ↔ s.web.state = .resuming

theorem resumeLaw_iff : ResumeLaw s ↔ BankLaw s ∧ StoreLaw s ∧ ResumeSound s :=
  ⟨fun ⟨h1, h2, h3, h4, h5⟩ => ⟨h1, h2, h3, h4, h5⟩, fun ⟨h1, h2, h3, h4, h5⟩ => ⟨h1, h2, h3, h4, h5⟩⟩

theorem ResumeLaw.sound (h : ResumeLaw s) : ResumeSound s := (resumeLaw_iff.1 h).2.2

/-- Record, state and timer of the web stand, the ACTIVE bank stands, and a burning dryer still burns. -/
theorem ResumeSound.same (h : ResumeSound s) (hr : t.web.record = s.web.record) (hs : t.web.state = s.web.state)
    (ht : t.web.timer = s.web.timer) (hb : activeBank t.banks = activeBank s.banks)
    (hd : t.dryer.state = s.dryer.state) : ResumeSound t where
  record := by rw [hr, hd, hb]; exact h.record
  resuming := by rw [hr, hs]; exact h.resuming
  timer := by rw [hs, ht]; exact h.timer

theorem ResumeSound.still (h : ResumeSound s) (hs : SameWeb s t) : ResumeSound t := by
  obtain ⟨h1, h2, h3⟩ := hs
  exact h.same (by rw [h1]) (by rw [h1]) (by rw [h1]) (by rw [h2]) h3

/-- With no record standing and no RESUMING web. -/
theorem resumeSound_of_none (hr : s.web.record = none) (hs : s.web.state ≠ .resuming) (ht : s.web.timer = none) :
    ResumeSound s where
  record r e := by rw [hr] at e; cases e
  resuming e := absurd e hs
  timer := by simp [ht, hs]

/-- A discard leaves no record, and no RESUMING web (R107). -/
theorem discard_sound (c : DiscardCause) (hs : s.web.state = .resuming → s.web.record.isSome = true)
    (ht : s.web.timer.isSome = true ↔ s.web.state = .resuming) : ResumeSound (discardResume c s) := by
  have hw := discardResume_web s c
  cases hr : s.web.record with
  | none =>
    have hn : s.web.state ≠ .resuming := fun a => by have := hs a; simp [hr] at this
    rw [discardResume_none s c hr]
    exact resumeSound_of_none hr hn (by simpa [hn] using ht)
  | some r =>
    rw [hr, if_pos (by rfl)] at hw
    by_cases hn : s.web.state = .resuming
    · rw [if_pos hn] at hw
      exact resumeSound_of_none (by rw [hw]) (by rw [hw]; simp) (by rw [hw])
    · rw [if_neg hn] at hw
      exact resumeSound_of_none (by rw [hw]) (by rw [hw]; exact hn) (by rw [hw]; simpa [hn] using ht)

/-- Where the dryer stops burning the record is discarded (R108). -/
theorem ResumeSound.setDryer (h : ResumeSound s) (n : DryerState) (hn : n ≠ .purging) : ResumeSound (setDryer n s) := by
  cases ha : announced s.dryer.state n with
  | true =>
    rw [setDryer_announced s ha]
    exact discard_sound _ h.resuming h.timer
  | false =>
    rw [setDryer_silent s ha]
    refine ⟨fun r e => ?_, h.resuming, h.timer⟩
    obtain ⟨hb, hk⟩ := h.record r e
    refine ⟨?_, hk⟩
    show n.burning = true
    simp only [announced, hb, Bool.true_and] at ha
    cases n <;> simp_all [DryerState.burning]

theorem ResumeSound.announced (h : ResumeSound s) (ha : Announced s t) : ResumeSound t := by
  induction ha with
  | refl => exact h
  | touch _ hs ih => exact ih.still hs
  | setDryer n hn _ ih => exact ih.setDryer n hn

/-! ## The ACTIVE bank and changeovers (R53, R113) -/

theorem activeBank_congr {q r : Four Bank} (h : ∀ c, (r.get c).state = .active ↔ (q.get c).state = .active) :
    activeBank r = activeBank q := by
  unfold activeBank
  congr 1
  funext c
  exact decide_eq_decide.2 (h c)

theorem activeBank_set {q : Four Bank} {x : Bank} (hb : (q.get b).state ≠ .active) (hx : x.state ≠ .active) :
    activeBank (q.set b x) = activeBank q := by
  refine activeBank_congr fun c => ?_
  rw [Four.get_set]
  split
  · rename_i hc
    rw [hc]
    exact ⟨fun a => absurd a hx, fun a => absurd a hb⟩
  · exact .rfl

theorem activeBank_unqueue (q : Four Bank) : activeBank (unqueue q) = activeBank q := by
  cases hq : pendingBank q with
  | none => rw [unqueue_of_none hq]
  | some b =>
    have hp := pendingBank_spec hq
    rw [unqueue_of_some hq]
    exact activeBank_set (fun a => by rw [a] at hp; cases hp) (by simp)

theorem ResumeSound.changeover (h : ResumeSound s) (hl : BankLaw s) (hb : (s.banks.get b).state.isChecking = false) :
    ResumeSound (changeover b s) := by
  have ha := (bankLaw_iff.1 hl).found_after hb
  have hc : ∀ u : State, u.web = s.web → u.dryer = s.dryer → u.banks = changeoverBanks b s.banks →
      ResumeSound (notifyChangeover b u) := fun u hw hd hk => by
    have hres : u.web.state = .resuming → u.web.record.isSome = true := by rw [hw]; exact h.resuming
    have htim : u.web.timer.isSome = true ↔ u.web.state = .resuming := by rw [hw]; exact h.timer
    unfold notifyChangeover
    split
    · rename_i r hr
      split
      · rename_i he
        refine ⟨fun r' e => ?_, hres, htim⟩
        rw [hr] at e
        cases e
        rw [hd, hk, ha, he]
        exact ⟨(h.record r (hw ▸ hr)).1, rfl⟩
      · exact discard_sound _ hres htim
    · rename_i hr
      exact ⟨fun r e => (by rw [hr] at e; cases e), hres, htim⟩
  exact hc _ (by simp) (by simp) (by simp)

theorem ResumeSound.changeoverEvent (h : ResumeSound s) (hl : BankLaw s) (m : PendingMode) :
    ResumeSound (changeoverEvent m s) := by
  unfold Machine.changeoverEvent
  split
  · rename_i b hb
    split
    · exact h.changeover hl (BankState.pending_not_checking (pendingBank_spec hb))
    · exact h
  · exact h

theorem ResumeSound.activate (h : ResumeSound s) (hl : BankLaw s) (hb : (s.banks.get b).state = .sealed)
    (m : ActivationMode) : ResumeSound (activate b m s) := by
  have hu : ((unqueue s.banks).get b).state = .sealed := by
    unfold unqueue
    split
    · rw [setBankState_get, hb]
      split <;> rfl
    · exact hb
  have ht : BankLaw { s with banks := unqueue s.banks } := bankLaw_iff.2 (bankLaw_iff.1 hl).unqueued
  have h1 : ResumeSound { s with banks := unqueue s.banks } := h.same rfl rfl rfl (activeBank_unqueue _) rfl
  have hs : ((unqueue s.banks).get b).state.isChecking = false := by rw [hu]; rfl
  have hq : ∀ m, ResumeSound (enqueue b m { s with banks := unqueue s.banks }) := fun m =>
    h1.same rfl rfl rfl (activeBank_set (by rw [hu]; simp) (by simp)) rfl
  unfold Machine.activate
  simp only []
  split
  · exact h1.changeover ht hs
  · split
    · exact h1.changeover ht hs
    · exact hq _
  · exact hq _

/-! ## The web's own moves (R94 to R104, R109, R112) -/

/-- A record after a break is the one before it, or a new one under the burning dryer, of the ACTIVE bank. -/
theorem ResumeSound.breakEntry (h : ResumeSound s) (src : BreakSource) : ResumeSound (breakEntry src s) := by
  have hw : (Machine.breakEntry src s).web = breakWeb src s := by
    unfold Machine.breakEntry offerSecond
    simp only []
    split <;> simp
  have hb := breakEntry_banks src s
  have hd : (Machine.breakEntry src s).dryer = s.dryer := by simp
  refine ⟨?_, ?_, ?_⟩ <;> rw [hw]
  · rw [hd, hb]
    intro r e
    simp only [breakWeb, recordAtBreak] at e
    split at e
    · split at e
      · rename_i hk
        split at e
        · rename_i hburn
          cases e
          exact ⟨hburn, hk⟩
        · exact h.record r e
      · exact h.record r e
    · obtain ⟨r', e', rfl⟩ := Option.map_eq_some_iff.1 e
      exact h.record r' e'
    all_goals exact h.record r e
  · exact fun a => by cases a
  · have ht := h.timer
    by_cases hs : s.web.state = .resuming <;> simp_all [breakWeb]

/-- A web that leaves its state for one other than RESUMING, its record standing or gone. -/
theorem ResumeSound.moved (h : ResumeSound s) (hr : t.web.record = s.web.record) (hs : t.web.state ≠ .resuming)
    (ht : t.web.timer = none) (hb : t.banks = s.banks) (hd : t.dryer.state = s.dryer.state) : ResumeSound t where
  record := by rw [hr, hd, hb]; exact h.record
  resuming a := absurd a hs
  timer := by simp [hs, ht]

theorem ResumeSound.timer_none (h : ResumeSound s) (hs : s.web.state ≠ .resuming) : s.web.timer = none := by
  simpa [hs] using h.timer

theorem ResumeSound.stoppedEntry (h : ResumeSound s) (hl : BankLaw s) : ResumeSound (stoppedEntry s) := by
  unfold Machine.stoppedEntry
  refine ResumeSound.changeoverEvent ?_ (by exact hl) _
  exact h.moved rfl (by simp) rfl rfl rfl

theorem ResumeSound.resumeExpiry (h : ResumeSound s) : ResumeSound (resumeExpiry s) := by
  have hd := discard_sound (s := s) .timeout h.resuming h.timer
  exact hd.moved rfl (by simp [Machine.resumeExpiry]) rfl rfl rfl

theorem ResumeSound.transition (h : ResumeSound s) (hl : BankLaw s) (src : Option BreakSource) :
    ResumeSound (transition src s) := by
  unfold Machine.transition
  cases hs : s.web.state with
  | stopped =>
    simp only []
    split
    · split
      · rename_i r hr
        exact ⟨h.record, fun _ => by simp [resumingEntry, hr], by simp [resumingEntry]⟩
      · exact h.moved rfl (by simp) (h.timer_none (by simp [hs])) rfl rfl
    · exact h
  | threading =>
    simp only []
    repeat' split
    · exact h.breakEntry _
    · exact h.stoppedEntry hl
    · exact resumeSound_of_none rfl (by simp [runningEntry]) rfl
    · exact h
  | running =>
    simp only []
    repeat' split
    · exact h.breakEntry _
    · exact h.stoppedEntry hl
    · exact h.moved rfl (by simp) (h.timer_none (by simp [hs])) rfl rfl
    · exact h
  | resuming =>
    simp only []
    repeat' split
    · exact h.breakEntry _
    · exact h.stoppedEntry hl
    · exact resumeSound_of_none rfl (by simp [runningEntry]) rfl
    · exact h.resumeExpiry
    · exact h
  | _ => -- BREAK
    simp only []
    split
    · exact h.stoppedEntry hl
    · exact h

theorem ResumeSound.webReaction (h : ResumeSound s) (hl : BankLaw s) (r : Refresh) : ResumeSound (webReaction r s) := by
  have splice : ∀ u, BankLaw u → ResumeSound u → ResumeSound (handSplice u) := fun u hk hu => by
    unfold handSplice
    split
    · exact hu.changeoverEvent hk _
    · exact hu
  have back : BankLaw (lineReturn s) ∧ ResumeSound (lineReturn s) := by
    unfold lineReturn
    simp only []
    split
    · refine ⟨BankLaw.changeoverEvent (by exact hl) _, ResumeSound.changeoverEvent ?_ (by exact hl) _⟩
      exact h.moved rfl (by simp) rfl rfl rfl
    · exact ⟨hl, h.moved rfl (by simp) rfl rfl rfl⟩
  have judge : ∀ n, BankLaw (judgeWeb n s) ∧ ResumeSound (judgeWeb n s) := fun n => by
    unfold judgeWeb
    refine ⟨BankLaw.transition (by exact hl) _, ResumeSound.transition ?_ (by exact hl) _⟩
    have hc : ∀ w : WebSeq, (countDown n w).record = w.record ∧ (countDown n w).state = w.state
        ∧ (countDown n w).timer.isSome = w.timer.isSome := fun w => by
      unfold countDown
      split <;> simp
    refine ⟨?_, ?_, ?_⟩ <;> simp only [(hc _).1, (hc _).2.1, (hc _).2.2]
    · exact h.record
    · exact h.resuming
    · exact h.timer
  unfold Machine.webReaction
  split
  · split
    · exact splice _ back.1 back.2
    · exact splice _ (judge _).1 (judge _).2
  · exact splice _ hl h

theorem ResumeSound.breakInChange (h : ResumeSound s) (l : Level) : ResumeSound (breakInChange l s) := by
  unfold Machine.breakInChange
  simp only []
  repeat' split
  · unfold takeEdge
    simp only []
    split
    all_goals first
      | (refine ResumeSound.breakEntry ?_ _; exact h.same rfl rfl rfl rfl rfl)
      | exact h.same rfl rfl rfl rfl rfl
  all_goals exact h.same rfl rfl rfl rfl rfl

/-! ## Every operation -/

theorem ResumeSound.react (h : ResumeSound s) (hl : BankLaw s) (r : Refresh) (x : Reaction) :
    ResumeSound (react r x s) := by
  cases x with
  | webSequencer => exact h.webReaction hl r
  | dryerSafety => exact h.announced (dryerReaction_announced r s)
  | commandTable => exact h.announced (commandReaction_announced r s)
  | lineInterface => exact h.still (by unfold Machine.react; simp only []; split <;> simp [SameWeb])
  | sampleBoard => exact h.still (by simp [Machine.react, SameWeb])
  | scheduleUnit => exact h.still (by simp [Machine.react, SameWeb])
  | solventUnit => exact h.still (by simp [Machine.react, SameWeb])
  | incidentLog => exact h.still (by simp [Machine.react, SameWeb])

theorem resumeSound_reset (p : Phase) (c : ResetCauses) (s : State) : ResumeSound (enterReset p c s) :=
  resumeSound_of_none rfl (by intro a; cases a) rfl

/-- Banks' laws and the resume record's, as a frame end keeps them together. -/
theorem resumeSound_keptAtEnd : KeptAtEnd fun s => BankLaw s ∧ ResumeSound s := by
  have hb := bankLaw_keptAtEnd
  have same : ∀ {s t : State}, BankLaw s ∧ ResumeSound s → BankLaw t → SameWeb s t → BankLaw t ∧ ResumeSound t :=
    fun h ht hw => ⟨ht, h.2.still hw⟩
  constructor
  case leave => exact fun d us t rest s h1 h2 h => same h (hb.leave d us t rest s h1 h2 h.1) ⟨rfl, rfl, rfl⟩
  case outCycle => exact fun t s h => same h (hb.outCycle t s h.1) ⟨rfl, rfl, rfl⟩
  case outService => exact fun t s h => same h (hb.outService t s h.1) ⟨rfl, rfl, rfl⟩
  case repeated => exact fun t s h => same h (hb.repeated t s h.1) ⟨rfl, rfl, rfl⟩
  case good => exact fun t c n s h1 h => same h (hb.good t c n s h1 h.1) (by simp [SameWeb])
  case poisoned => exact fun t s h => same h (hb.poisoned t s h.1) ⟨rfl, rfl, rfl⟩
  case backService => exact fun t s h => same h (hb.backService t s h.1) ⟨rfl, rfl, rfl⟩
  case serviceReset => exact fun s _ => ⟨bankLaw_reset _ _ _, resumeSound_reset _ _ _⟩
  case errors => exact fun s h => same h (hb.errors s h.1) (by simp [SameWeb])
  case choice => exact fun s h => same h (hb.choice s h.1) ⟨rfl, rfl, rfl⟩
  case interval => exact fun reg c s h => same h (hb.interval reg c s h.1) (by simp [SameWeb])
  case samples => exact fun r s hr h => same h (hb.samples r s hr h.1) (by simp [SameWeb])
  case react => exact fun r x s hr h => ⟨hb.react r x s hr h.1, h.2.react h.1 r x⟩

/-- Where the dryer does not burn there is no record, and so no RESUMING web (R106, R108). -/
theorem ResumeSound.unlit (h : ResumeSound s) (hd : s.dryer.state.burning = false) :
    s.web.record = none ∧ s.web.state ≠ .resuming ∧ s.web.timer = none := by
  have hr : s.web.record = none := by
    refine Classical.byContradiction fun hn => ?_
    obtain ⟨r, hr⟩ := Option.ne_none_iff_exists'.1 hn
    rw [(h.record r hr).1] at hd
    cases hd
  have hs : s.web.state ≠ .resuming := fun a => by have := h.resuming a; simp [hr] at this
  exact ⟨hr, hs, h.timer_none hs⟩

theorem resumeSound_of_unlit (h : ResumeSound s) (hd : s.dryer.state.burning = false)
    (hr : t.web.record = s.web.record) (hs : t.web.state = s.web.state) (ht : t.web.timer = s.web.timer) :
    ResumeSound t := by
  obtain ⟨h1, h2, h3⟩ := h.unlit hd
  exact resumeSound_of_none (hr.trans h1) (hs ▸ h2) (ht.trans h3)

theorem webAtStore_standing (o : Option Scalars) (n : Scalars) (s : State) :
    (webAtStore o n s).web.record = s.web.record ∧ (webAtStore o n s).web.state = s.web.state
      ∧ (webAtStore o n s).web.timer = s.web.timer := by
  unfold webAtStore
  repeat' split
  all_goals exact ⟨rfl, rfl, rfl⟩

theorem ResumeSound.storeWrite (h : ResumeSound s) (hs : StoreLaw s) : ResumeSound (storeWriteComplete s) := by
  unfold storeWriteComplete
  split
  · rename_i hr
    have hd : s.dryer.state.burning = false := by rcases (hs hr).2 with e | e <;> rw [e] <;> rfl
    have hw : ∃ u, (storeCompletion s).web = (webAtStore s.scalars? s.comm.working.scalars u).web ∧ u.web = s.web :=
      ⟨commandsAtStore (boardAtStore (bringIntoForce s)), by simp [storeCompletion, flamesAtStore], by simp⟩
    obtain ⟨u, hu, he⟩ := hw
    obtain ⟨h1, h2, h3⟩ := webAtStore_standing s.scalars? s.comm.working.scalars u
    exact resumeSound_of_unlit h hd (by rw [hu, h1, he]) (by rw [hu, h2, he]) (by rw [hu, h3, he])
  · exact h

theorem BankState.writable_not_active {st : BankState} (h : st.writable = true) : st ≠ .active := by
  rintro rfl
  cases h

theorem ResumeSound.edited (h : ResumeSound s) (hb : (s.banks.get b).state.writable = true) (r : Recipe) :
    ResumeSound (editBank b r s) :=
  h.same rfl rfl rfl (activeBank_set (BankState.writable_not_active hb) (by simp)) rfl

theorem ResumeSound.bankCheckEnd (h : ResumeSound s) : ResumeSound (bankCheckEnd s) := by
  unfold Machine.bankCheckEnd
  repeat' split
  · exact h
  · rename_i hk
    refine h.same (by simp [endCheck]) (by simp [endCheck]) (by simp [endCheck]) ?_ (by simp [endCheck])
    simp only [endCheck, offer_frame]
    refine activeBank_set (by rw [hk]; simp) ?_
    simp only [stateAfterCheck]
    split <;> simp
  all_goals exact h

theorem resumeLaw_kept : Kept ResumeLaw := by
  have bank := bankLaw_kept
  have store := storeLaw_kept
  have hr : ∀ p c s, ResumeLaw (enterReset p c s) := fun _ _ _ =>
    resumeLaw_iff.2 ⟨bankLaw_reset _ _ _, storeLaw_reset _ _ _, resumeSound_reset _ _ _⟩
  have still : ∀ {s t : State}, ResumeLaw s → BankLaw t → StoreLaw t → SameWeb s t → ResumeLaw t := fun h h1 h2 hw =>
    resumeLaw_iff.2 ⟨h1, h2, h.sound.still hw⟩
  have announced : ∀ {s t : State}, ResumeLaw s → BankLaw t → StoreLaw t → Announced s t → ResumeLaw t :=
    fun h h1 h2 ha => resumeLaw_iff.2 ⟨h1, h2, h.sound.announced ha⟩
  have sound : ∀ {t : State}, BankLaw t → StoreLaw t → ResumeSound t → ResumeLaw t :=
    fun h1 h2 h3 => resumeLaw_iff.2 ⟨h1, h2, h3⟩
  constructor
  case queue => exact fun s l h => still h (bank.queue s l h.1) (store.queue s l h.2.1) ⟨rfl, rfl, rfl⟩
  case reply => exact fun r s h => still h (bank.reply r s h.1) (store.reply r s h.2.1) (by simp [SameWeb])
  case frameArrival =>
    exact fun d b l s h =>
      still h (bank.frameArrival d b l s h.1) (store.frameArrival d b l s h.2.1) (by simp [SameWeb])
  case commandPassage =>
    exact fun i s h => still h (bank.commandPassage i s h.1) (store.commandPassage i s h.2.1) (by simp [SameWeb])
  case statusSlotWrite =>
    exact fun i s h => still h (bank.statusSlotWrite i s h.1) (store.statusSlotWrite i s h.2.1) (by simp [SameWeb])
  case requestTaking =>
    exact fun i s h => still h (bank.requestTaking i s h.1) (store.requestTaking i s h.2.1) (by simp [SameWeb])
  case replyPlaceFill =>
    exact fun i s h => still h (bank.replyPlaceFill i s h.1) (store.replyPlaceFill i s h.2.1) (by simp [SameWeb])
  case frameEnd =>
    exact fun n d us s h =>
      sound (bank.frameEnd n d us s h.1) (store.frameEnd n d us s h.2.1)
        (resumeSound_keptAtEnd.frameEnd n d us s ⟨h.1, h.sound⟩).2
  case resumeTimer =>
    exact fun s h =>
      sound (bank.resumeTimer s h.1) (store.resumeTimer s h.2.1) (by
        have hs := h.sound
        unfold resumeTimerExpiry
        split
        · exact hs.resumeExpiry
        · exact hs)
  case schedule => exact fun s h => still h (bank.schedule s h.1) (store.schedule s h.2.1) (by simp [SameWeb])
  case solvent =>
    exact fun n s h =>
      announced h (bank.solvent n s h.1) (store.solvent n s h.2.1) (solventEvaluationComplete_announced n s)
  case silence =>
    exact fun s h => announced h (bank.silence s h.1) (store.silence s h.2.1) (silenceTimerExpiry_announced s)
  case breakIn =>
    exact fun l s h =>
      sound (bank.breakIn l s h.1) (store.breakIn l s h.2.1) (h.sound.breakInChange l)
  case purgeHold =>
    exact fun s h => announced h (bank.purgeHold s h.1) (store.purgeHold s h.2.1) (purgeHoldExpiry_announced s)
  case alertGap => exact fun s h => still h (bank.alertGap s h.1) (store.alertGap s h.2.1) (by simp [SameWeb])
  case causes => exact fun s e0 h => still h (bank.causes s e0 h.1) (store.causes s e0 h.2.1) ⟨rfl, rfl, rfl⟩
  case window => exact fun w s e0 h => still h (bank.window w s e0 h.1) (store.window w s e0 h.2.1) ⟨rfl, rfl, rfl⟩
  case emptyList =>
    exact fun tb s e0 e1 e2 e3 h =>
      sound (bank.emptyList tb s e0 e1 e2 e3 h.1) (store.emptyList tb s e0 e1 e2 e3 h.2.1) (by
        rcases emptyList_bank tb s with ⟨w, e⟩ | ⟨b, hb, r, e⟩ <;> rw [e]
        · exact h.sound.still ⟨rfl, rfl, rfl⟩
        · exact h.sound.edited (writeBar_bank hb e3) r)
  case writeItem =>
    exact fun w p s u e0 e1 e2 e3 e4 h =>
      sound (bank.writeItem w p s u e0 e1 e2 e3 e4 h.1) (store.writeItem w p s u e0 e1 e2 e3 e4 h.2.1) (by
        cases hb : w.table.bank? with
        | none => rw [writeItem_working hb e4]; exact h.sound.still ⟨rfl, rfl, rfl⟩
        | some b =>
          obtain ⟨r, rfl⟩ := writeItem_bank hb e4
          exact h.sound.edited (writeBar_bank hb e2) r)
  case startCheck =>
    exact fun b s e0 e1 e2 e3 h =>
      sound (bank.startCheck b s e0 e1 e2 e3 h.1) (store.startCheck b s e0 e1 e2 e3 h.2.1)
        (h.sound.same rfl rfl rfl
        (activeBank_set (by rw [e3]; simp) (by simp)) rfl)
  case bankCheckEnd =>
    exact fun s h =>
      sound (bank.bankCheckEnd s h.1) (store.bankCheckEnd s h.2.1) (h.sound.bankCheckEnd)
  case clearBank =>
    exact fun b s e0 e1 h =>
      sound (bank.clearBank b s e0 e1 h.1) (store.clearBank b s e0 e1 h.2.1) (h.sound.same rfl rfl rfl
        (activeBank_set (by rcases e1 with e | e | e <;> rw [e] <;> simp) (by simp [Bank.cleared])) rfl)
  case activate =>
    exact fun b m s e0 e1 h =>
      sound (bank.activate b m s e0 e1 h.1) (store.activate b m s e0 e1 h.2.1)
        (h.sound.activate h.1 e1 m)
  case unqueue =>
    exact fun s e0 h =>
      sound (bank.unqueue s e0 h.1) (store.unqueue s e0 h.2.1)
        (h.sound.same rfl rfl rfl (activeBank_unqueue _) rfl)
  case startStore =>
    exact fun s e0 e1 e2 e3 h =>
      still h (bank.startStore s e0 e1 e2 e3 h.1) (store.startStore s e0 e1 e2 e3 h.2.1) ⟨rfl, rfl, rfl⟩
  case storeWrite =>
    exact fun s h =>
      sound (bank.storeWrite s h.1) (store.storeWrite s h.2.1) (h.sound.storeWrite h.2.1)
  case reloadWorking =>
    exact fun s e0 e1 h =>
      still h (bank.reloadWorking s e0 e1 h.1) (store.reloadWorking s e0 e1 h.2.1) ⟨rfl, rfl, rfl⟩
  case startPurge =>
    exact fun s e0 e1 e2 e3 e4 h =>
      sound (bank.startPurge s e0 e1 e2 e3 e4 h.1) (store.startPurge s e0 e1 e2 e3 e4 h.2.1)
        (resumeSound_of_unlit h.sound (by rw [e3]; rfl) rfl rfl rfl)
  case abortPurge =>
    exact fun s e0 e1 h =>
      sound (bank.abortPurge s e0 e1 h.1) (store.abortPurge s e0 e1 h.2.1)
        (resumeSound_of_unlit h.sound (by rw [e1]; rfl) rfl rfl rfl)
  case acceptReset =>
    exact fun s e0 e1 e2 e3 h =>
      announced h (bank.acceptReset s e0 e1 e2 e3 h.1) (store.acceptReset s e0 e1 e2 e3 h.2.1)
        (acceptReset_announced s)
  case discard =>
    exact fun s e0 h =>
      sound (bank.discard s e0 h.1) (store.discard s e0 h.2.1)
        (discard_sound _ h.sound.resuming h.sound.timer)
  case released =>
    exact fun r b s e0 e1 e2 h =>
      still h (bank.released r b s e0 e1 e2 h.1) (store.released r b s e0 e1 e2 h.2.1) ⟨rfl, rfl, rfl⟩
  case removeOldest =>
    exact fun n s e0 h => still h (bank.removeOldest n s e0 h.1) (store.removeOldest n s e0 h.2.1) (by simp [SameWeb])
  case overrides =>
    exact fun o s e0 h => still h (bank.overrides o s e0 h.1) (store.overrides o s e0 h.2.1) (by simp [SameWeb])
  case clearCounter =>
    refine fun s n e0 h => sound (bank.clearCounter s n e0 h.1) (store.clearCounter s n e0 h.2.1) ?_
    have hs := h.sound
    unfold clearCounter
    split <;> exact hs.same rfl rfl rfl rfl rfl
  case resetWait =>
    exact fun d s e0 e1 h => still h (bank.resetWait d s e0 e1 h.1) (store.resetWait d s e0 e1 h.2.1) ⟨rfl, rfl, rfl⟩
  case preheat =>
    exact fun b s e0 h =>
      sound (bank.preheat b s e0 h.1) (store.preheat b s e0 h.2.1)
          (h.sound.same rfl rfl rfl rfl rfl)
  case waitExpiry => exact fun s h => waitExpiry_keeps hr h
  case powerOn => exact fun s h => powerOn_keeps hr h
  case supplyLoss => exact fun s _ => hr _ _ _
  case pinAssert => exact fun s h => pinAssert_keeps hr (still h h.1 h.2.1 ⟨rfl, rfl, rfl⟩) h
  case pinRelease =>
    exact fun s h =>
      still h (bank.pinRelease s h.1) (store.pinRelease s h.2.1)
        (by unfold resetPinRelease; simp only []; split <;> exact ⟨rfl, rfl, rfl⟩)
  case loadComplete =>
    refine fun s h => sound (bank.loadComplete s h.1) (store.loadComplete s h.2.1) ?_
    have hs := h.sound
    unfold storeLoadComplete
    split
    · exact hs.same (by simp [openRelay]) (by simp [openRelay]) (by simp [openRelay]) (by simp [openRelay]) (by simp [openRelay])
    all_goals exact hs

/-- Settles O54: banks and STORE by themselves; over them the resume record, which only an announced change of the
dryer state, a changeover, a STORE completion and the web's own moves can reach. -/
theorem resumeLawsKept : Obligations.ResumeLawsKept := by
  unfold Obligations.ResumeLawsKept
  exact ⟨bankLaw_kept.step, storeLaw_kept.step, resumeLaw_kept.step⟩

end Sys2Proof.Machine
end

section
/-! PROOF. The Sample Board's records (R25 to R31), the Solvent Unit's figures (R72, R84) and the effective parameters
(R72 to R74), as every step keeps them. -/

namespace Sys2Proof.Machine

variable {s t u : State} {k : RecKey} {x : BoardRec}

/-! ## Records -/

theorem satAdd_le (top n k : Nat) : satAdd top n k ≤ top := Nat.min_le_left _ _

/-- A record that a GOOD slot updates is GOOD, of age 0 and in range (R26). -/
theorem RecLaw.updated (w : Word) (h : RecLaw k x) : RecLaw k (updateRec k.role w x) := by
  obtain ⟨_, _, _, _, _, hc⟩ := h
  obtain ⟨hlo, hhi⟩ := readValue_range k.role w
  refine ⟨by simp [updateRec], fun _ => rfl, ?_, ?_, Nat.zero_le _, ?_⟩
  · simp only [updateRec, Option.some.injEq]
    rintro v rfl
    exact ⟨hlo, hhi, rfl⟩
  · simp only [updateRec, Option.some.injEq]
    rintro v rfl
    exact ⟨hlo, hhi⟩
  · simp only [updateRec]
    split
    · exact satAdd_le _ _ _
    · exact hc

/-- A record that ages is HELD on its last good value, or LOST and without one (R27). -/
theorem RecLaw.aged (limit step : Nat) (h : RecLaw k x) : RecLaw k (ageRec limit step x) := by
  obtain ⟨_, _, _, hg, _, hc⟩ := h
  unfold ageRec
  simp only []
  split
  · rename_i hn
    exact ⟨by simp, by simp, by simp, hg, satAdd_le _ _ _, hc⟩
  · rename_i v hv
    split
    · refine ⟨by simp, by simp, ?_, hg, satAdd_le _ _ _, hc⟩
      simp only [Option.some.injEq]
      rintro w rfl
      exact ⟨(hg v hv).1, (hg v hv).2, hv⟩
    · exact ⟨by simp, by simp, by simp, hg, satAdd_le _ _ _, hc⟩

theorem RecLaw.taken (r : Refresh) (h : RecLaw k x) : RecLaw k (takeRecord s r k x) := by
  unfold takeRecord
  split
  · exact h.updated _
  · exact h.aged _ _

theorem recLaw_fresh : RecLaw k BoardRec.fresh := by
  refine ⟨by simp [BoardRec.fresh], ?_, ?_, ?_, ?_, ?_⟩ <;> simp [BoardRec.fresh]

theorem mem_of_lookupKey {κ α : Type} [DecidableEq κ] {k : κ} {x : α} {l : List (κ × α)} (h : lookupKey k l = some x) :
    (k, x) ∈ l := by
  induction l with
  | nil => cases h
  | cons p l ih =>
    obtain ⟨k', y⟩ := p
    unfold lookupKey at h
    split at h
    · rename_i e
      cases h
      rw [e]
      exact .head _
    · exact .tail _ (ih h)

/-- A rebuilt board holds records it held and fresh ones (R31). -/
theorem rebuildRecords_law (m : List SlotEntry) {old : List (RecKey × BoardRec)} (h : ∀ p ∈ old, RecLaw p.1 p.2) :
    ∀ p ∈ rebuildRecords m old, RecLaw p.1 p.2 := by
  intro p hp
  obtain ⟨k, -, rfl⟩ := List.mem_map.1 hp
  cases hl : lookupKey k old with
  | none => exact recLaw_fresh
  | some x => exact h _ (mem_of_lookupKey hl)

theorem BoardLaw.same (h : BoardLaw s) (hr : t.board.records = s.board.records) : BoardLaw t := by
  unfold BoardLaw; rw [hr]; exact h

theorem boardLaw_keptAtEnd : KeptAtEnd BoardLaw := by
  constructor
  case leave => exact fun _ _ _ _ _ _ _ h => h.same rfl
  case react => exact fun r x s _ h => h.same (react_board_records r x s).1
  case serviceReset => exact fun s _ p hp => by cases hp
  case samples =>
    intro r s _ h p hp
    simp only [takeSamples, derive, List.mem_map] at hp
    obtain ⟨q, hq, rfl⟩ := hp
    exact (h q hq).taken r
  all_goals intros; simpa [BoardLaw] using ‹BoardLaw _›

theorem boardLaw_kept : Kept BoardLaw := by
  have hr : ∀ p c s, BoardLaw (enterReset p c s) := fun _ _ _ _ hp => by cases hp
  constructor
  case frameEnd => exact fun n d us s h => boardLaw_keptAtEnd.frameEnd n d us s h
  case silence =>
    intro s h
    unfold silenceTimerExpiry
    split
    · exact h.same (by simp)
    · exact h
  case writeItem =>
    intro w p s u _ _ _ _ hi h
    obtain ⟨_, _, rfl⟩ := writeItem_moves hi
    exact h
  case storeWrite =>
    intro s h
    unfold storeWriteComplete
    split
    · have hb : (storeCompletion s).board.records = rebuildRecords (bringIntoForce s).map (bringIntoForce s).board.records := by
        simp [storeCompletion, flamesAtStore, boardAtStore]
      unfold BoardLaw
      rw [hb, (bringIntoForce_frame s).2.2.2.2.2.2.1]
      exact rebuildRecords_law _ h
    · exact h
  case waitExpiry => exact fun s h => waitExpiry_keeps hr h
  case powerOn => exact fun s h => powerOn_keeps hr h
  case supplyLoss => exact fun s _ => hr _ _ _
  case pinAssert => exact fun s h => pinAssert_keeps hr (h.same rfl) h
  case pinRelease => intro s h; unfold resetPinRelease; simp only []; split <;> exact h
  case loadComplete =>
    intro s h
    unfold storeLoadComplete
    split
    · have hb : (offerInvalid (openRelay (takeLoaded s))).board.records
          = rebuildRecords ({ s with comm.inForce := s.comm.stored } : State).map [] := by
        simp [openRelay, takeLoaded, State.map]
      unfold BoardLaw
      rw [hb]
      exact rebuildRecords_law _ fun p hp => by cases hp
    all_goals exact h
  case clearCounter => intro s n _ h; unfold clearCounter; split <;> exact h
  all_goals intros; simpa [BoardLaw] using ‹BoardLaw _›

end Sys2Proof.Machine
end

section
/-! PROOF. The published figures (R72, R78 to R84) and the effective parameters (R73, R74). -/

namespace Sys2Proof.Machine

variable {s t u : State}

/-! ## The Solvent Unit's figures -/

/-- Cycles pending, the running evaluation and the publication stand. -/
def SameFigures (s t : State) : Prop :=
  t.solv.pendingCycles = s.solv.pendingCycles ∧ t.solv.job = s.solv.job ∧ t.solv.publication = s.solv.publication
    ∧ t.solv.eff = s.solv.eff

theorem SolventLaw.same (h : SolventLaw s) (hs : SameFigures s t) : SolventLaw t := by
  obtain ⟨h1, h2, h3, _⟩ := hs
  unfold SolventLaw
  rw [h1, h2, h3]
  exact h

theorem sameFigures_of_solv (h : t.solv = s.solv) : SameFigures s t := by
  unfold SameFigures; rw [h]; exact ⟨rfl, rfl, rfl, rfl⟩

theorem SameFigures.trans (h : SameFigures s t) (g : SameFigures t u) : SameFigures s u := by
  obtain ⟨h1, h2, h3, h4⟩ := h
  obtain ⟨g1, g2, g3, g4⟩ := g
  exact ⟨g1.trans h1, g2.trans h2, g3.trans h3, g4.trans h4⟩

theorem judgeDisagree_figures (s : State) : SameFigures s (judgeDisagree s) := by
  unfold judgeDisagree
  repeat' split
  all_goals simp [SameFigures]

theorem judgePublication_figures (q : Nat) (p : SolvPub) (s : State) : SameFigures s (judgePublication q p s) := by
  have h1 : ∀ u : State, SameFigures u (judgeLimited q p u) := fun u => by
    unfold judgeLimited
    repeat' split
    all_goals simp [SameFigures]
  have h2 : ∀ u : State, SameFigures u (judgeMismatch p u) := fun u => by
    unfold judgeMismatch
    simp only []
    repeat' split
    all_goals simp [SameFigures]
  have h3 : ∀ u : State, SameFigures u (judgeHistogram p u) := fun u => by
    unfold judgeHistogram
    split <;> simp [SameFigures]
  exact ((h1 s).trans (h2 _)).trans (h3 _)

/-- The figures of a publication stand in their ranges (R79, R81 to R83). -/
theorem solvResult_ranges (j : SolvJob) (n : Nat) (pub : Option SchedPub) :
    (solvResult j n pub).combined ≤ 1500 ∧ ∀ v, (solvResult j n pub).predicted = some v → v ≤ 1000 := by
  refine ⟨?_, fun v hv => ?_⟩
  · have hs : solventCeiling j.flow j.coverage j.width j.evap j.lg j.eff.fEff ≤ 1500 := by
      unfold solventCeiling
      repeat' split
      · exact Nat.le_refl _
      · exact Nat.zero_le _
      · exact Nat.min_le_left _ _
    exact Nat.le_trans (Nat.min_le_left _ _) hs
  · simp only [solvResult, predictedLel] at hv
    split at hv
    · cases hv
    · split at hv <;> cases hv
      · split <;> decide
      · exact Nat.min_le_left _ _

theorem SolventLaw.completed (h : SolventLaw s) (n : Nat) : SolventLaw (solventEvaluationComplete n s) := by
  have h0 : SolventLaw (takeChoice s) := h
  obtain ⟨h1, h2, -⟩ := h
  have hp : ∀ p (u : State), SameFigures u (judgePredicted p u) := fun p u => sameFigures_of_solv (by simp)
  unfold solventEvaluationComplete publishSolvent
  cases hj : s.solv.job with
  | none => simpa only [takeChoice, hj] using h0
  | some j =>
    obtain ⟨hc, hv⟩ := solvResult_ranges j s.solv.pendingCycles s.sched.publication
    have hpend : 1 ≤ s.solv.pendingCycles := h2 (by rw [hj]; rfl)
    have ht : SolventLaw { takeChoice s with
        solv.job := none, solv.pendingCycles := 0
        solv.publication := some (solvResult j s.solv.pendingCycles s.sched.publication) } :=
      ⟨Nat.zero_le _, fun a => (by cases a), fun p e => by cases e; exact ⟨hc, hv, hpend, h1⟩⟩
    simp only [takeChoice, hj] at ht ⊢
    split
    · exact ht.same ((hp _ _).trans (judgePublication_figures _ _ _))
    · exact ht.same ((judgePublication_figures _ _ _).trans (hp _ _))

theorem SolventLaw.started (h : SolventLaw s) (r : Refresh) (hr : SoundStep r) : SolventLaw (startSolvent r s) := by
  obtain ⟨h1, -, h3⟩ := h
  unfold startSolvent
  split
  · refine ⟨satAdd_le _ _ _, fun _ => ?_, h3⟩
    simp only [SoundStep] at hr
    simp only [satAdd]
    omega
  · exact ⟨h1, fun a => (by cases a), h3⟩

theorem SolventLaw.reacted (h : SolventLaw s) (r : Refresh) (hr : SoundStep r) : SolventLaw (solventReaction r s) := by
  have hf : SolventLaw (formParams s) := h
  unfold solventReaction
  simp only []
  split
  · exact (hf.same (judgeDisagree_figures _)).started r hr
  · exact hf.started r hr

theorem SolventLaw.react (h : SolventLaw s) (r : Refresh) (hr : SoundStep r) (x : Reaction) : SolventLaw (react r x s) := by
  cases x with
  | solventUnit => exact h.reacted r hr
  | lineInterface =>
    refine h.same (sameFigures_of_solv ?_)
    unfold Machine.react
    simp only []
    split <;> simp
  | sampleBoard => exact h.same (sameFigures_of_solv (by simp [Machine.react]))
  | commandTable => exact h.same (sameFigures_of_solv (by simp [Machine.react]))
  | webSequencer => exact h.same (sameFigures_of_solv (by simp [Machine.react]))
  | dryerSafety => exact h.same (sameFigures_of_solv (by simp [Machine.react]))
  | scheduleUnit => exact h.same (sameFigures_of_solv (by simp [Machine.react]))
  | incidentLog => exact h.same (sameFigures_of_solv (by simp [Machine.react]))

theorem solventLaw_reset (p : Phase) (c : ResetCauses) (s : State) : SolventLaw (enterReset p c s) :=
  ⟨Nat.zero_le _, fun a => (by cases a), fun _ e => by cases e⟩

theorem solventLaw_keptAtEnd : KeptAtEnd SolventLaw := by
  constructor
  case leave => exact fun _ _ _ _ _ _ _ h => h
  case serviceReset => exact fun s _ => solventLaw_reset _ _ _
  case react => exact fun r x _ hr h => h.react r hr x
  all_goals intros; simpa [SolventLaw] using ‹SolventLaw _›

/-- A changed count withdraws the figures (R55, R85). -/
theorem SolventLaw.inForce (h : SolventLaw s) : SolventLaw (bringIntoForce s) := by
  unfold bringIntoForce
  simp only []
  split
  · exact h
  · exact ⟨Nat.zero_le _, fun a => (by cases a), fun _ e => by cases e⟩

theorem solventLaw_kept : Kept SolventLaw := by
  have hr := solventLaw_reset
  constructor
  case frameEnd => exact fun n d us s h => solventLaw_keptAtEnd.frameEnd n d us s h
  case solvent => exact fun n s h => h.completed n
  case silence =>
    intro s h
    unfold silenceTimerExpiry
    split
    · exact h.same (sameFigures_of_solv (by simp))
    · exact h
  case emptyList =>
    intro tb s _ _ _ _ h
    obtain ⟨_, _, e⟩ := emptyList_moves tb s
    rw [e]
    exact h
  case writeItem =>
    intro w p s u _ _ _ _ hi h
    obtain ⟨_, _, rfl⟩ := writeItem_moves hi
    exact h
  case storeWrite =>
    intro s h
    unfold storeWriteComplete
    split
    · simpa [SolventLaw, storeCompletion, flamesAtStore, formParams, boardAtStore] using h.inForce
    · exact h
  case overrides => exact fun o s _ h => h
  case waitExpiry => exact fun s h => waitExpiry_keeps hr h
  case powerOn => exact fun s h => powerOn_keeps hr h
  case supplyLoss => exact fun s _ => hr _ _ _
  case pinAssert => exact fun s h => pinAssert_keeps hr (by exact h) h
  case pinRelease => intro s h; unfold resetPinRelease; simp only []; split <;> exact h
  case loadComplete =>
    intro s h
    unfold storeLoadComplete
    split
    · simpa [SolventLaw, openRelay, takeLoaded, formParams] using h
    all_goals exact h
  case clearCounter => intro s n _ h; unfold clearCounter; split <;> exact h
  all_goals intros; simpa [SolventLaw] using ‹SolventLaw _›

/-! ## The effective parameters -/

theorem effLaw_same (h : EffLaw s) (h1 : t.solv.eff = s.solv.eff) (h2 : t.comm.inForce = s.comm.inForce)
    (h3 : t.agent.overrides = s.agent.overrides) : EffLaw t := by
  obtain ⟨m, hm⟩ := h
  exact ⟨m, by rw [h1, hm, State.scalars?, State.scalars?, h2, h3]⟩

theorem effLaw_reset (p : Phase) (c : ResetCauses) (s : State) : EffLaw (enterReset p c s) := ⟨.monitored, rfl⟩

theorem settleTakings_overrides (g : Bool) (a : Agent) : (settleTakings g a).overrides = a.overrides := by
  unfold settleTakings; split <;> rfl

theorem effLaw_keptAtEnd : KeptAtEnd EffLaw := by
  constructor
  case leave => exact fun _ _ _ _ _ _ _ h => effLaw_same h rfl rfl rfl
  case outService => exact fun t s h => effLaw_same h rfl rfl (settleTakings_overrides _ _)
  case serviceReset => exact fun s _ => effLaw_reset _ _ _
  case react => exact fun r x _ _ h => react_effLaw r x h
  all_goals intros; exact effLaw_same ‹EffLaw _› (by simp) (by simp) (by simp)

theorem solventEvaluationComplete_eff (n : Nat) (s : State) : (solventEvaluationComplete n s).solv.eff = s.solv.eff := by
  have hj := fun q p (u : State) => (judgePublication_figures q p u).2.2.2
  have hp : ∀ p (u : State), (judgePredicted p u).solv = u.solv := fun p u => by simp
  unfold solventEvaluationComplete publishSolvent
  split
  · simp only []
    split
    · rw [hj, hp]; rfl
    · rw [hp, hj]
      rfl
  · rfl

theorem effLaw_kept : Kept EffLaw := by
  have hr := effLaw_reset
  constructor
  case frameEnd => exact fun n d us s h => effLaw_keptAtEnd.frameEnd n d us s h
  case solvent => exact fun n s h => effLaw_same h (solventEvaluationComplete_eff n s) (by simp) (by simp)
  case silence =>
    intro s h
    unfold silenceTimerExpiry
    split
    · exact effLaw_same h (by simp) (by simp) (by simp)
    · exact h
  case emptyList =>
    intro tb s _ _ _ _ h
    obtain ⟨_, _, e⟩ := emptyList_moves tb s
    rw [e]
    exact h
  case writeItem =>
    intro w p s u _ _ _ _ hi h
    obtain ⟨_, _, rfl⟩ := writeItem_moves hi
    exact h
  case storeWrite =>
    intro s h
    unfold storeWriteComplete
    split
    · unfold storeCompletion
      have judged : ∀ u, EffLaw u → EffLaw (judgeAlert u) := fun u hu => effLaw_of hu (by simp) (by simp) (by simp)
      have offered : ∀ u, EffLaw u → EffLaw (offer .storeFinished .none .written u) :=
        fun u hu => effLaw_of hu (by simp) (by simp) (by simp)
      exact offered _ (judged _ (formParams_effLaw _))
    · exact h
  case overrides => exact fun o s _ _ => formParams_effLaw _
  case waitExpiry => exact fun s h => waitExpiry_keeps hr h
  case powerOn => exact fun s h => powerOn_keeps hr h
  case supplyLoss => exact fun s _ => hr _ _ _
  case pinAssert => exact fun s h => pinAssert_keeps hr (by exact h) h
  case pinRelease => intro s h; unfold resetPinRelease; simp only []; split <;> exact h
  case loadComplete =>
    intro s h
    unfold storeLoadComplete
    split
    · exact effLaw_of (formParams_effLaw _) (by simp [openRelay, takeLoaded]; rfl) (by simp [openRelay, takeLoaded])
        (by simp [openRelay, takeLoaded])
    all_goals exact h
  case clearCounter => intro s n _ h; unfold clearCounter; split <;> exact h
  all_goals intros; exact effLaw_same ‹EffLaw _› (by simp) (by simp) (by simp)

end Sys2Proof.Machine
end

section
/-! PROOF. The eighteen counters (R177): what saturates and what stands; and O55. -/

namespace Sys2Proof.Machine

variable {s t u : State}

/-! ## What the blocks leave of the counters -/

/-- What of the Command Table no onset and no echo judgement touches: its roles in their order, the late count, the kept
values and SPEED_CAPPED (R29, R136, R147, R149). -/
def CmdTable.aside (t : CmdTable) : List Role × Nat × List (CycleNo × Word) × Bool :=
  (t.entries.map Prod.fst, t.late, t.kept, t.speedCapped)

theorem onset_aside (c : SafetyCondition) (sub : Subject) (v : Option Int) (s : State) :
    (onset c sub v s).cmds.aside = s.cmds.aside := by
  unfold onset
  split
  · simp
  · simp [CmdTable.aside, clearReleased, Function.comp_def]

theorem dryerReaction_aside (r : Refresh) (s : State) : (dryerReaction r s).cmds.aside = s.cmds.aside := by
  have h0 : (cleared r s).cmds = s.cmds := by simp
  have h1 : ∀ u : State, (judgeLelMeasured u).cmds.aside = u.cmds.aside := fun u => by
    unfold judgeLelMeasured
    repeat' split
    all_goals first | rfl | exact onset_aside _ _ _ _
  have h2 : ∀ u : State, (judgeExhaustLow r u).cmds.aside = u.cmds.aside := fun u => by
    unfold judgeExhaustLow
    simp only []
    repeat' split
    all_goals first | rfl | exact onset_aside _ _ _ _
  have h3 : ∀ (u : State) k, (judgeFlame r u k).cmds.aside = u.cmds.aside := fun u k => by
    unfold judgeFlame
    simp only []
    repeat' split
    all_goals first | rfl | exact onset_aside _ _ _ _
  have hd : ∀ n (u : State), (setDryer n u).cmds = u.cmds := fun n u => by simp
  have h4 : ∀ u : State, (purgeStep r u).cmds = u.cmds := fun u => by simp
  have h5 : ∀ u : State, (judgeFlameChange u).cmds = u.cmds := fun u => by simp
  unfold dryerReaction
  split
  · rw [h5, h4]
    unfold refreshConditions
    rw [foldl_keeps (judgeFlame r) (fun u => u.cmds.aside) h3, h2, h1]
    exact congrArg CmdTable.aside h0
  · rfl

theorem judgePredicted_aside (p : SolvPub) (s : State) : (judgePredicted p s).cmds.aside = s.cmds.aside := by
  unfold judgePredicted
  simp only []
  repeat' split
  all_goals first | rfl | exact onset_aside _ _ _ _

theorem judgeEcho_aside (c : CycleNo) (s : State) (x : Role) : (judgeEcho c s x).cmds.aside = s.cmds.aside := by
  have hb : ∀ u : State, (becameUnresponsive x u).cmds.aside = u.cmds.aside := fun u => by
    unfold becameUnresponsive exhaustUnresponsiveReport
    repeat' split
    all_goals first | rfl | exact onset_aside _ _ _ _ | simp
  have hu : ∀ f, CmdTable.aside { s.cmds with entries := updateKey x f s.cmds.entries } = s.cmds.aside := fun f => by
    simp [CmdTable.aside]
  unfold judgeEcho echoMatch echoMiss
  simp only []
  repeat' split
  all_goals first | rfl | exact hu _ | exact (hb _).trans (hu _)

theorem commandReaction_aside (r : Refresh) (s : State) : (commandReaction r s).cmds.aside = s.cmds.aside := by
  have hl : (loadHolds r s).cmds.aside = s.cmds.aside := by simp [loadHolds, CmdTable.aside, Function.comp_def]
  unfold commandReaction judgeEchoes
  repeat' split
  all_goals first
    | rfl
    | exact hl
    | exact (foldl_keeps (judgeEcho _) (fun u => u.cmds.aside) (judgeEcho_aside _) _ _).trans hl

theorem silenceTimerExpiry_aside (s : State) : (silenceTimerExpiry s).cmds.aside = s.cmds.aside := by
  have he : ∀ u : State, (silentEntry u).cmds.aside = u.cmds.aside := fun u => by
    unfold silentEntry
    repeat' split
    all_goals first | rfl | exact onset_aside _ _ _ _ | simp
  unfold silenceTimerExpiry enterSilent
  split
  · exact he _
  · rfl

theorem discardResume_ignored (c : DiscardCause) (s : State) : (discardResume c s).web.ignored = s.web.ignored := by
  rw [discardResume_web]
  repeat' split
  all_goals rfl

theorem changeover_ignored (b : BankNo) (s : State) : (changeover b s).web.ignored = s.web.ignored := by
  unfold changeover notifyChangeover
  repeat' split
  all_goals simp [discardResume_ignored]

theorem changeoverEvent_ignored (m : PendingMode) (s : State) : (changeoverEvent m s).web.ignored = s.web.ignored := by
  unfold changeoverEvent
  repeat' split
  · exact changeover_ignored _ _
  all_goals rfl

theorem breakEntry_ignored (b : BreakSource) (s : State) : (breakEntry b s).web.ignored = s.web.ignored := by
  unfold breakEntry offerSecond
  simp only []
  split <;> simp [breakWeb]

theorem transition_ignored (src : Option BreakSource) (s : State) : (transition src s).web.ignored = s.web.ignored := by
  unfold transition
  repeat' split
  all_goals first
    | rfl
    | exact breakEntry_ignored _ _
    | exact changeoverEvent_ignored _ _
    | exact discardResume_ignored _ _

/-- The ignored sources only ever saturate (R101). -/
theorem webReaction_ignored (r : Refresh) (s : State) (h : s.web.ignored ≤ top32) :
    (webReaction r s).web.ignored ≤ top32 := by
  have hs : ∀ u : State, (handSplice u).web.ignored = u.web.ignored := fun u => by
    unfold handSplice
    split
    · exact changeoverEvent_ignored _ _
    · rfl
  have hc : ∀ n (w : WebSeq), (countDown n w).ignored = w.ignored := fun n w => by unfold countDown; split <;> rfl
  unfold webReaction
  rw [hs]
  split
  · split
    · unfold lineReturn
      simp only []
      split
      · rw [changeoverEvent_ignored]; exact h
      · exact h
    · unfold judgeWeb
      simp only []
      rw [transition_ignored]
      exact le_of_eq_of_le (hc _ _) (satAdd_le _ _ _)
  · exact h

theorem breakInChange_ignored (l : Level) (s : State) (h : s.web.ignored ≤ top32) :
    (breakInChange l s).web.ignored ≤ top32 := by
  unfold breakInChange takeEdge
  simp only []
  repeat' split
  all_goals first | exact h | exact satAdd_le _ _ _ | (rw [breakEntry_ignored]; exact h)

theorem Announced.ignored (h : Announced s t) : t.web.ignored = s.web.ignored := by
  induction h with
  | refl => rfl
  | touch _ hs ih => rw [hs.1, ih]
  | @setDryer u n _ _ ih =>
    unfold Machine.setDryer
    simp only []
    split
    · rw [discardResume_ignored]; exact ih
    · exact ih

/-- Lost records only ever saturate (R158). -/
theorem Logged.dropped (hl : Logged s t) (h : s.log.dropped ≤ top32) : t.log.dropped ≤ top32 := by
  induction hl with
  | refl => exact h
  | touch _ hs ih => exact le_of_eq_of_le hs.2.2.2.1 ih
  | @offer u c sub v _ ih =>
    cases hr : rateLimited c u.log with
    | true => rw [offer_limited u sub v hr]; exact ih
    | false =>
      rw [offer_passed u sub v hr]
      unfold placeRecord
      repeat' split
      · simpa using ih
      · simp only [judgeAlert_log]
        exact satAdd_le _ _ _
      · exact satAdd_le _ _ _

theorem solventReaction_histogram (r : Refresh) (s : State) :
    (solventReaction r s).solv.histogram = s.solv.histogram := by
  have hd : ∀ u : State, (judgeDisagree u).solv.histogram = u.solv.histogram := fun u => by
    unfold judgeDisagree
    repeat' split
    all_goals simp
  have hs : ∀ u : State, (startSolvent r u).solv.histogram = u.solv.histogram := fun u => by
    unfold startSolvent
    split <;> rfl
  unfold solventReaction
  simp only []
  split
  · rw [hs, hd]; rfl
  · rw [hs]; rfl

/-! ## The counters of the line and of the histogram -/

/-- The seven counters of the line (R18). -/
structure LineCounted (l : LineIf) : Prop where
  goodOut : l.goodOut ≤ top32
  goodBack : l.goodBack ≤ top32
  poisoned : l.poisoned ≤ top32
  overruns : l.overruns ≤ top32
  longFrames : l.longFrames ≤ top32
  serviceFrames : l.serviceFrames ≤ top32
  irregular : l.irregular ≤ top32

theorem LineCounted.framed {l : LineIf} (h : LineCounted l) (d : Dir) (f : Transit) : LineCounted (countFrame d f l) := by
  obtain ⟨h1, h2, h3, h4, h5, h6, h7⟩ := h
  have hs := satAdd_le top32
  unfold countFrame
  simp only []
  repeat' split
  all_goals constructor
  all_goals first | assumption | exact hs _ _

theorem LineCounted.syncDropped {l : LineIf} (h : LineCounted l) : LineCounted (dropSync l) := by
  obtain ⟨h1, h2, h3, h4, h5, h6, h7⟩ := h
  unfold dropSync
  split <;> exact ⟨h1, h2, h3, h4, h5, h6, h7⟩

theorem LineCounted.repeated {l : LineIf} (h : LineCounted l) : LineCounted (repeatedLine l) := by
  obtain ⟨h1, h2, h3, h4, h5, h6, h7⟩ := h
  exact LineCounted.syncDropped ⟨h1, h2, h3, h4, h5, h6, satAdd_le _ _ _⟩

theorem LineCounted.good {l : LineIf} (h : LineCounted l) (c : CycleNo) (n : Nat) : LineCounted (goodBackLine c n l) := by
  obtain ⟨h1, h2, h3, h4, h5, h6, h7⟩ := h
  unfold goodBackLine moveSync leaveSilent enterOnline
  simp only []
  repeat' split
  all_goals exact ⟨h1, h2, h3, h4, h5, h6, h7⟩

/-- The six buckets of the histogram (R90). -/
structure HistCounted (h : Histogram) : Prop where
  b1 : h.b1 ≤ top32
  b2 : h.b2 ≤ top32
  b3 : h.b3 ≤ top32
  b4 : h.b4 ≤ top32
  b5 : h.b5 ≤ top32
  b6 : h.b6 ≤ top32

theorem HistCounted.counted {h : Histogram} (hh : HistCounted h) (v : Nat) : HistCounted (countBucket v h) := by
  obtain ⟨h1, h2, h3, h4, h5, h6⟩ := hh
  have hs := satAdd_le top32
  unfold countBucket
  repeat' split
  all_goals constructor
  all_goals first | assumption | exact hs _ _

theorem histCounted_zero : HistCounted Histogram.zero := by
  constructor <;> exact Nat.zero_le _

/-! ## All eighteen -/

/-- Every counter a 32-bit count, block by block (R177). -/
structure Counted (s : State) : Prop where
  line : LineCounted s.line
  busy : s.agent.busyRefusals ≤ top32
  late : s.cmds.late ≤ top32
  ignored : s.web.ignored ≤ top32
  clamped : s.board.clamped ≤ top32
  dropped : s.log.dropped ≤ top32
  hist : HistCounted s.solv.histogram

theorem counterLaw_iff : CounterLaw s ↔ Counted s := by
  constructor
  · intro h
    exact ⟨⟨h 0 (by omega), h 1 (by omega), h 2 (by omega), h 3 (by omega), h 4 (by omega), h 5 (by omega), h 6 (by omega)⟩,
      h 7 (by omega), h 8 (by omega), h 9 (by omega), h 10 (by omega), h 11 (by omega),
      ⟨h 12 (by omega), h 13 (by omega), h 14 (by omega), h 15 (by omega), h 16 (by omega), h 17 (by omega)⟩⟩
  · rintro ⟨⟨h1, h2, h3, h4, h5, h6, h7⟩, h8, h9, h10, h11, h12, ⟨h13, h14, h15, h16, h17, h18⟩⟩ n _
    unfold counterValue
    split <;> assumption

theorem late_of_aside {a b : CmdTable} (h : b.aside = a.aside) : b.late = a.late := congrArg (fun x => x.2.1) h

theorem roles_of_aside {a b : CmdTable} (h : b.aside = a.aside) : b.entries.map Prod.fst = a.entries.map Prod.fst :=
  congrArg Prod.fst h

/-- A change that offers incidents and leaves the other counters. -/
theorem Counted.logged (h : Counted s) (hl : Logged s t) (h1 : t.line = s.line)
    (h2 : t.agent.busyRefusals = s.agent.busyRefusals) (h3 : t.cmds.aside = s.cmds.aside)
    (h4 : t.web.ignored ≤ top32) (h5 : t.board.clamped = s.board.clamped)
    (h6 : t.solv.histogram = s.solv.histogram) : Counted t where
  line := h1 ▸ h.line
  busy := le_of_eq_of_le h2 h.busy
  late := le_of_eq_of_le (late_of_aside h3) h.late
  ignored := h4
  clamped := le_of_eq_of_le h5 h.clamped
  dropped := hl.dropped h.dropped
  hist := h6 ▸ h.hist

theorem Counted.withLine (h : Counted s) (hl : LineCounted t.line)
    (h2 : t.agent.busyRefusals = s.agent.busyRefusals) (h3 : t.cmds = s.cmds) (h4 : t.web = s.web)
    (h5 : t.board = s.board) (h6 : t.solv = s.solv) (h7 : t.log = s.log) : Counted t where
  line := hl
  busy := le_of_eq_of_le h2 h.busy
  late := by rw [h3]; exact h.late
  ignored := by rw [h4]; exact h.ignored
  clamped := by rw [h5]; exact h.clamped
  dropped := by rw [h7]; exact h.dropped
  hist := by rw [h6]; exact h.hist

theorem counted_reset (p : Phase) (c : ResetCauses) (s : State) : Counted (enterReset p c s) := by
  refine counterLaw_iff.1 fun n _ => ?_
  unfold counterValue
  split <;> exact Nat.zero_le _

theorem Counted.react (h : Counted s) (r : Refresh) (x : Reaction) : Counted (react r x s) := by
  have hl := react_logged r x s
  have hi := h.ignored
  cases x with
  | lineInterface =>
    refine h.logged hl ?_ ?_ ?_ ?_ ?_ ?_ <;> unfold Machine.react <;> simp only [] <;> split <;> simp [hi]
  | sampleBoard =>
    refine h.logged hl ?_ ?_ ?_ ?_ ?_ ?_ <;> simp [Machine.react, hi]
    unfold boardReaction judgeUnmonitored judgeSpeedLost
    repeat' split
    all_goals simp
  | commandTable =>
    exact h.logged hl (by simp [Machine.react]) (by simp [Machine.react]) (commandReaction_aside r s)
      (le_of_eq_of_le (commandReaction_announced r s).ignored hi) (by simp [Machine.react]) (by simp [Machine.react])
  | webSequencer =>
    exact h.logged hl (by simp [Machine.react]) (by simp [Machine.react]) (by simp [Machine.react])
      (webReaction_ignored r s hi) (by simp [Machine.react]) (by simp [Machine.react])
  | dryerSafety =>
    exact h.logged hl (by simp [Machine.react]) (by simp [Machine.react]) (dryerReaction_aside r s)
      (le_of_eq_of_le (dryerReaction_announced r s).ignored hi) (by simp [Machine.react]) (by simp [Machine.react])
  | scheduleUnit =>
    refine h.logged hl ?_ ?_ ?_ ?_ ?_ ?_ <;> simp [Machine.react, hi]
  | solventUnit =>
    refine h.logged hl ?_ ?_ ?_ ?_ ?_ ?_ <;> simp [Machine.react, hi]
    exact solventReaction_histogram r s
  | incidentLog => exact h.logged hl rfl rfl rfl hi rfl rfl

theorem settleTakings_busy (g : Bool) (a : Agent) : (settleTakings g a).busyRefusals = a.busyRefusals := by
  unfold settleTakings; split <;> rfl

theorem counted_keptAtEnd : KeptAtEnd Counted := by
  constructor
  case leave =>
    intro d us t rest s _ _ h
    obtain ⟨h1, h2, h3, h4, h5, h6, h7⟩ := h.line
    cases d <;> exact h.withLine ⟨h1, h2, h3, h4, h5, h6, h7⟩ rfl rfl rfl rfl rfl rfl
  case outCycle =>
    refine fun t s h => h.withLine ?_ rfl rfl rfl rfl rfl rfl
    have hc := h.line.framed .out t
    unfold outCycleLine
    split
    · obtain ⟨h1, h2, h3, h4, h5, h6, h7⟩ := hc
      exact ⟨h1, h2, h3, h4, h5, h6, h7⟩
    · exact hc.syncDropped
  case outService =>
    exact fun t s h => h.withLine (h.line.framed .out t) (settleTakings_busy _ _) rfl rfl rfl rfl rfl
  case repeated => exact fun t s h => h.withLine (h.line.framed .back t).repeated rfl rfl rfl rfl rfl rfl
  case good =>
    refine fun t c n s _ h => h.withLine ?_ rfl rfl rfl rfl rfl rfl
    obtain ⟨h1, h2, h3, h4, h5, h6, h7⟩ := (h.line.framed .back t).good c n
    exact ⟨h1, h2, h3, h4, h5, h6, h7⟩
  case poisoned =>
    refine fun t s h => h.withLine ?_ rfl rfl rfl rfl rfl rfl
    obtain ⟨h1, h2, h3, h4, h5, h6, h7⟩ := h.line.framed .back t
    exact LineCounted.syncDropped ⟨h1, h2, h3, h4, h5, h6, h7⟩
  case backService => exact fun t s h => h.withLine (h.line.framed .back t) rfl rfl rfl rfl rfl rfl
  case serviceReset => exact fun s _ => counted_reset _ _ _
  case errors => exact fun s h => h.logged (frameErrors_logged s) (by simp) (by simp) (by simp) (by simpa using h.ignored) (by simp) (by simp)
  case choice => exact fun s h => h.withLine h.line rfl rfl rfl rfl rfl rfl
  case interval =>
    refine fun reg c s h => h.withLine ?_ rfl rfl rfl rfl rfl rfl
    obtain ⟨h1, h2, h3, h4, h5, h6, h7⟩ := h.line
    refine ⟨h1, h2, h3, h4, h5, h6, ?_⟩
    simp only [measureInterval]
    split
    · exact satAdd_le _ _ _
    · exact h7
  case samples =>
    exact fun r s _ h => ⟨h.line, h.busy, h.late, h.ignored, satAdd_le _ _ _, h.dropped, h.hist⟩
  case react => exact fun r x s _ h => h.react r x

theorem Counted.arrived (h : Counted s) (d : Dir) (b : Byte) (l : List Byte) : Counted (frameArrival d b l s) := by
  have hb : ∀ u : State, (bindMarks d b u).agent.busyRefusals = u.agent.busyRefusals := fun u => by
    unfold bindMarks; split <;> rfl
  have hl : LineCounted (frameArrival d b l s).line ∧ (frameArrival d b l s).agent.busyRefusals = s.agent.busyRefusals := by
    have hn := h.line
    unfold frameArrival overrun
    repeat' split
    · exact ⟨hn, rfl⟩
    · obtain ⟨h1, h2, h3, h4, h5, h6, h7⟩ := hn
      refine ⟨?_, hb _⟩
      cases d <;> simp only [bindMarks] <;> split <;> exact ⟨h1, h2, h3, h4, h5, h6, h7⟩
    · refine ⟨?_, hb _⟩
      simp only [bindMarks]
      split <;> exact hn
    · obtain ⟨h1, h2, h3, h4, h5, h6, h7⟩ := hn
      refine ⟨?_, by simp only [frameErrors, offer_frame]; exact hb _⟩
      simp only [frameErrors, offer_frame, bindMarks]
      split <;> exact ⟨h1, h2, h3, satAdd_le _ _ _, h5, h6, h7⟩
    · obtain ⟨h1, h2, h3, h4, h5, h6, h7⟩ := hn
      refine ⟨?_, by simp only [frameErrors, offer_frame]; exact hb _⟩
      simp only [frameErrors, offer_frame, bindMarks]
      split <;> exact LineCounted.syncDropped ⟨h1, h2, h3, satAdd_le _ _ _, h5, h6, h7⟩
  exact ⟨hl.1, le_of_eq_of_le hl.2 h.busy, by simpa using h.late, by simpa using h.ignored, by simpa using h.clamped,
    (frameArrival_logged d b l s).dropped h.dropped, by simpa using h.hist⟩

/-- The line's counters stand at a passage: only the head of the OUT store moves. -/
theorem setOutHead_counted (t : Transit) (s : State) (h : LineCounted s.line) : LineCounted (setOutHead t s).line := by
  obtain ⟨h1, h2, h3, h4, h5, h6, h7⟩ := h
  exact ⟨h1, h2, h3, h4, h5, h6, h7⟩

theorem setBackHead_counted (t : Transit) (s : State) (h : LineCounted s.line) : LineCounted (setBackHead t s).line := by
  obtain ⟨h1, h2, h3, h4, h5, h6, h7⟩ := h
  exact ⟨h1, h2, h3, h4, h5, h6, h7⟩

theorem Counted.passed (h : Counted s) (i : Nat) : Counted (commandPassage i s) := by
  have hf : ∀ r p e w c (u : State), (forwardRole r p e w c u).line = u.line ∧ (forwardRole r p e w c u).cmds.late = u.cmds.late :=
    fun r p e w c u => by
      unfold forwardRole judgeCapped
      simp only []
      repeat' split
      all_goals simp
  have hp : ∀ t x (u : State), LineCounted u.line → u.cmds.late ≤ top32 →
      LineCounted (passSlot i t x u).line ∧ (passSlot i t x u).cmds.late ≤ top32 := fun t x u h1 h2 => by
    unfold passSlot
    simp only []
    repeat' split
    · exact ⟨setOutHead_counted _ _ h1, h2⟩
    · obtain ⟨e1, e2⟩ := hf _ _ _ _ _ u
      exact ⟨setOutHead_counted _ _ (by rw [e1]; exact h1), le_of_eq_of_le e2 h2⟩
    · exact ⟨setOutHead_counted _ _ h1, h2⟩
  have hl : (lateForward s).line = s.line ∧ (lateForward s).cmds.late ≤ top32 := by
    unfold lateForward
    split
    · exact ⟨by simp, by simp only [offer_frame]; exact satAdd_le _ _ _⟩
    · exact ⟨rfl, h.late⟩
  have hc : LineCounted (commandPassage i s).line ∧ (commandPassage i s).cmds.late ≤ top32 := by
    unfold commandPassage
    repeat' split
    all_goals first | exact ⟨h.line, h.late⟩ | exact hp _ _ _ (by rw [hl.1]; exact h.line) hl.2
  exact ⟨hc.1, by simpa using h.busy, hc.2, by simpa using h.ignored, by simpa using h.clamped,
    (commandPassage_logged i s).dropped h.dropped, by simpa using h.hist⟩

theorem Counted.taken (h : Counted s) (i : Nat) : Counted (requestTaking i s) := by
  have hr : ∀ rec (u : State), u.agent.busyRefusals ≤ top32 →
      (takeRequest rec u).line = u.line ∧ (takeRequest rec u).agent.busyRefusals ≤ top32 := fun rec u hu => by
    unfold takeRequest refuseTaking
    split
    · exact ⟨rfl, hu⟩
    · exact ⟨rfl, satAdd_le _ _ _⟩
  have hc : LineCounted (requestTaking i s).line ∧ (requestTaking i s).agent.busyRefusals ≤ top32 := by
    unfold requestTaking
    repeat' split
    all_goals first
      | exact ⟨h.line, h.busy⟩
      | exact ⟨setOutHead_counted _ _ (by rw [(hr _ s h.busy).1]; exact h.line), (hr _ s h.busy).2⟩
  exact ⟨hc.1, hc.2, by simpa using h.late, by simpa using h.ignored, by simpa using h.clamped, by simpa using h.dropped,
    by simpa using h.hist⟩

theorem judgePublication_histogram (q : Nat) (p : SolvPub) (s : State) (h : HistCounted s.solv.histogram) :
    HistCounted (judgePublication q p s).solv.histogram := by
  have h1 : ∀ u : State, (judgeLimited q p u).solv.histogram = u.solv.histogram := fun u => by
    unfold judgeLimited
    repeat' split
    all_goals simp
  have h2 : ∀ u : State, (judgeMismatch p u).solv.histogram = u.solv.histogram := fun u => by
    unfold judgeMismatch
    simp only []
    repeat' split
    all_goals simp
  have hh : HistCounted (judgeMismatch p (judgeLimited q p s)).solv.histogram := by rw [h2, h1]; exact h
  unfold judgePublication judgeHistogram
  split
  · exact hh.counted _
  · exact hh

theorem Counted.completed (h : Counted s) (n : Nat) : Counted (solventEvaluationComplete n s) := by
  have hc : (solventEvaluationComplete n s).cmds.aside = s.cmds.aside
      ∧ HistCounted (solventEvaluationComplete n s).solv.histogram := by
    unfold solventEvaluationComplete publishSolvent
    split
    · simp only []
      split
      · exact ⟨by rw [(judgePublication_frame _ _ _).2.2.2.2.2.2.2.2.2.2.2.2.1, judgePredicted_aside]; rfl,
          judgePublication_histogram _ _ _ (by simpa [takeChoice] using h.hist)⟩
      · refine ⟨by rw [judgePredicted_aside, (judgePublication_frame _ _ _).2.2.2.2.2.2.2.2.2.2.2.2.1]; rfl, ?_⟩
        simp only [judgePredicted_frame]
        exact judgePublication_histogram _ _ _ (by simpa [takeChoice] using h.hist)
    · exact ⟨rfl, h.hist⟩
  exact ⟨by simpa using h.line, by simpa using h.busy, le_of_eq_of_le (late_of_aside hc.1) h.late,
    le_of_eq_of_le (solventEvaluationComplete_announced n s).ignored h.ignored, by simpa using h.clamped,
    (solventEvaluationComplete_logged n s).dropped h.dropped, hc.2⟩

/-- A change that offers incidents or none and leaves every other counter. -/
theorem Counted.still (h : Counted s) (hl : Logged s t) (h1 : t.line = s.line)
    (h2 : t.agent.busyRefusals = s.agent.busyRefusals) (h3 : t.cmds.aside = s.cmds.aside)
    (h4 : t.web.ignored = s.web.ignored) (h5 : t.board = s.board) (h6 : t.solv = s.solv) : Counted t :=
  h.logged hl h1 h2 h3 (le_of_eq_of_le h4 h.ignored) (by rw [h5]) (by rw [h6])

theorem storeCompletion_counted (h : Counted s) : Counted (storeCompletion s) := by
  have hb : (bringIntoForce s).solv.histogram = s.solv.histogram ∧ (bringIntoForce s).agent.busyRefusals = s.agent.busyRefusals := by
    unfold bringIntoForce
    simp only []
    split
    · exact ⟨rfl, rfl⟩
    · exact ⟨rfl, rfl⟩
  have hw : ∀ o n (u : State), (webAtStore o n u).web.ignored = u.web.ignored := fun o n u => by
    unfold webAtStore; repeat' split
    all_goals rfl
  have hc : ∀ u : State, (commandsAtStore u).cmds.late = u.cmds.late := fun u => by
    unfold commandsAtStore
    simp only []
    split <;> rfl
  have hd : ∀ u : State, (judgeAlert u).log.dropped = u.log.dropped := fun u => by simp
  refine ⟨?_, ?_, ?_, ?_, ?_, ?_, ?_⟩
  · simpa [storeCompletion, flamesAtStore, boardAtStore] using h.line
  · simpa [storeCompletion, flamesAtStore, boardAtStore, hb.2] using h.busy
  · simpa [storeCompletion, flamesAtStore, boardAtStore, hc] using h.late
  · simpa [storeCompletion, flamesAtStore, boardAtStore, hw] using h.ignored
  · simpa [storeCompletion, flamesAtStore, boardAtStore] using h.clamped
  · unfold storeCompletion
    refine Logged.dropped (.once (u := judgeAlert _) .storeFinished .none .written rfl rfl) ?_
    rw [hd]
    simpa [flamesAtStore, boardAtStore] using h.dropped
  · simpa [storeCompletion, flamesAtStore, boardAtStore, formParams, hb.1] using h.hist

theorem counted_kept : Kept Counted := by
  have hr := counted_reset
  constructor
  case frameEnd => exact fun n d us s h => counted_keptAtEnd.frameEnd n d us s h
  case frameArrival => exact fun d b l s h => h.arrived d b l
  case commandPassage => exact fun i s h => h.passed i
  case requestTaking => exact fun i s h => h.taken i
  case solvent => exact fun n s h => h.completed n
  case statusSlotWrite =>
    refine fun i s h => h.withLine ?_ (by simp) (by simp) (by simp) (by simp) (by simp) (by simp)
    unfold statusSlotWrite
    repeat' split
    all_goals first | exact h.line | exact setBackHead_counted _ _ h.line
  case replyPlaceFill =>
    refine fun i s h => h.withLine ?_ ?_ (by simp) (by simp) (by simp) (by simp) (by simp) <;>
      unfold replyPlaceFill fillFree <;> repeat' split
    all_goals first | exact h.line | exact setBackHead_counted _ _ h.line | rfl
  case resumeTimer =>
    refine fun s h => h.still (resumeTimerExpiry_logged s) (by simp) (by simp) (by simp) ?_ (by simp) (by simp)
    unfold resumeTimerExpiry
    split
    · exact discardResume_ignored _ _
    · rfl
  case silence =>
    intro s h
    refine ⟨?_, ?_, le_of_eq_of_le (late_of_aside (silenceTimerExpiry_aside s)) h.late,
      le_of_eq_of_le (silenceTimerExpiry_announced s).ignored h.ignored, ?_, (silenceTimerExpiry_logged s).dropped h.dropped, ?_⟩
    · obtain ⟨h1, h2, h3, h4, h5, h6, h7⟩ := h.line
      unfold silenceTimerExpiry enterSilent
      split
      · simp only [silentEntry_frame]
        exact ⟨h1, h2, h3, h4, h5, h6, h7⟩
      · exact h.line
    all_goals unfold silenceTimerExpiry; split
    all_goals simp [h.busy, h.clamped, h.hist]
  case breakIn =>
    exact fun l s h => h.logged (breakInChange_logged l s) (by simp) (by simp) (by simp)
      (breakInChange_ignored l s h.ignored) (by simp) (by simp)
  case purgeHold =>
    exact fun s h => h.still (purgeHoldExpiry_logged s) (by simp) (by simp) (by simp)
      (purgeHoldExpiry_announced s).ignored (by simp) (by simp)
  case alertGap =>
    refine fun s h => ⟨by simpa using h.line, by simpa using h.busy, by simpa using h.late, by simpa using h.ignored,
      by simpa using h.clamped, ?_, by simpa using h.hist⟩
    unfold alertGapExpiry
    split
    · simpa using h.dropped
    · exact h.dropped
  case emptyList =>
    intro tb s _ _ _ _ h
    obtain ⟨_, _, e⟩ := emptyList_moves tb s
    rw [e]
    exact h.withLine h.line rfl rfl rfl rfl rfl rfl
  case writeItem =>
    intro w p s u _ _ _ _ hi h
    obtain ⟨_, _, rfl⟩ := writeItem_moves hi
    exact h.withLine h.line rfl rfl rfl rfl rfl rfl
  case bankCheckEnd =>
    refine fun s h => h.still (bankCheckEnd_logged s) (by simp) ?_ (by simp) (by simp) (by simp) (by simp)
    unfold bankCheckEnd endCheck
    repeat' split
    all_goals simp
  case activate =>
    refine fun b m s _ _ h => h.still (activate_logged b m s) (by simp) (by simp) (by simp) ?_ (by simp) (by simp)
    unfold activate
    simp only []
    repeat' split
    all_goals first | exact changeover_ignored _ _ | rfl
  case storeWrite =>
    intro s h
    unfold storeWriteComplete
    split
    · exact storeCompletion_counted h
    · exact h
  case discard =>
    exact fun s _ h => h.still (discardResume_logged _ s) (by simp) (by simp) (by simp) (discardResume_ignored _ _)
      (by simp) (by simp)
  case acceptReset =>
    exact fun s _ _ _ _ h => h.still (acceptReset_logged s) (by simp [acceptReset]) (by simp [acceptReset])
      (by simp [acceptReset]) (acceptReset_announced s).ignored (by simp [acceptReset]) (by simp [acceptReset])
  case removeOldest =>
    refine fun n s _ h => ⟨by simpa using h.line, by simpa using h.busy, by simpa using h.late, by simpa using h.ignored,
      by simpa using h.clamped, ?_, by simpa using h.hist⟩
    unfold removeOldest
    split
    · exact h.dropped
    · simpa using h.dropped
  case clearCounter =>
    intro s n _ h
    obtain ⟨⟨h1, h2, h3, h4, h5, h6, h7⟩, h8, h9, h10, h11, h12, h13⟩ := h
    have h0 : (0 : Nat) ≤ top32 := Nat.zero_le _
    unfold clearCounter
    split
    all_goals constructor
    all_goals first | assumption | exact histCounted_zero | exact ⟨by assumption, by assumption, by assumption, by assumption, by assumption, by assumption, by assumption⟩
  case waitExpiry => exact fun s h => waitExpiry_keeps hr h
  case powerOn => exact fun s h => powerOn_keeps hr h
  case supplyLoss => exact fun s _ => hr _ _ _
  case pinAssert => exact fun s h => pinAssert_keeps hr (h.withLine h.line rfl rfl rfl rfl rfl rfl) h
  case pinRelease =>
    refine fun s h => h.withLine ?_ ?_ ?_ ?_ ?_ ?_ ?_ <;> unfold resetPinRelease <;> simp only [] <;> split
    all_goals first | exact h.line | rfl
  case loadComplete =>
    intro s h
    unfold storeLoadComplete
    split
    · obtain ⟨h1, h2, h3, h4, h5, h6, h7⟩ := h.line
      have ho : Counted (openRelay (takeLoaded s)) :=
        ⟨⟨h1, h2, h3, h4, h5, h6, h7⟩, h.busy, h.late, h.ignored, h.clamped, h.dropped, h.hist⟩
      unfold offerInvalid
      split
      · exact ho
      · exact ho.still (.once _ _ _ rfl rfl) (by simp) (by simp) (by simp) (by simp) (by simp) (by simp)
    all_goals exact h
  case overrides => exact fun o s _ h => ⟨h.line, h.busy, h.late, h.ignored, h.clamped, h.dropped, h.hist⟩
  case preheat => exact fun o s _ h => ⟨h.line, h.busy, h.late, h.ignored, h.clamped, h.dropped, h.hist⟩
  case released => exact fun r b s _ _ _ h => ⟨h.line, h.busy, h.late, h.ignored, h.clamped, h.dropped, h.hist⟩
  all_goals
    intros
    rename_i h
    exact ⟨by simpa using h.line, by simpa using h.busy, by simpa using h.late, by simpa using h.ignored,
      by simpa using h.clamped, by simpa using h.dropped, by simpa using h.hist⟩

/-- Settles O55: records are taken from GOOD slots in their role's range or age, counts saturate, and the effective
parameters are formed wherever what they are formed from moves. -/
theorem figuresLawsKept : Obligations.FiguresLawsKept := by
  unfold Obligations.FiguresLawsKept
  refine ⟨boardLaw_kept.step, solventLaw_kept.step, fun s t h hs => ?_, effLaw_kept.step⟩
  exact counterLaw_iff.2 (counted_kept.step s t (counterLaw_iff.1 h) hs)

end Sys2Proof.Machine
end

section
/-! PROOF. Recipes in the ranges of their writes (R39, R40). -/

namespace Sys2Proof.Machine

variable {s t u : State} {p : Place} {x y : Recipe} {b : BankNo}

theorem inRange_eq_some {lo hi v : Nat} : inRange lo hi v x = some y ↔ (lo ≤ v ∧ v ≤ hi) ∧ x = y := by
  unfold inRange
  split <;> simp [*]

theorem byteAt_le (l : List Byte) (i : Nat) : byteAt l i ≤ 255 := by
  have := (l.getD i 0).isLt
  unfold byteAt
  omega

theorem Place.wordParam_le (p : Place) (i : Nat) : p.wordParam i ≤ 65535 := by
  have h1 := byteAt_le p.params i
  have h2 := byteAt_le p.params (i + 1)
  unfold Place.wordParam
  omega

/-- A scalar of a recipe written within its range (R39). -/
theorem writeRecipeItem_inRange {i : Nat} (h : RecipeInRange x) (hw : writeRecipeItem i p x = some y) :
    RecipeInRange y := by
  obtain ⟨htag, hwidth, ⟨hlen, hfilms⟩, hevap, hcrawl, hthread, hrun, hzt, hzf, hex, hch, hzp, hcp, hdwell, hres, hdb, hdc,
    htol⟩ := h
  unfold writeRecipeItem at hw
  simp only [] at hw
  split at hw
  case h_1 =>
    split at hw
    · rename_i hall
      cases hw
      exact ⟨⟨by simp, fun b hb => List.all_eq_true.1 hall b hb⟩, hwidth, ⟨hlen, hfilms⟩, hevap, hcrawl, hthread, hrun,
        hzt, hzf, hex, hch, hzp, hcp, hdwell, hres, hdb, hdc, htol⟩
    · cases hw
  case h_12 =>
    split at hw
    · obtain ⟨⟨-, hv⟩, rfl⟩ := inRange_eq_some.1 hw
      refine ⟨htag, hwidth, ⟨by simp [hlen], fun f hf => ?_⟩, hevap, hcrawl, hthread, hrun, hzt, hzf, hex, hch, hzp, hcp,
        hdwell, hres, hdb, hdc, htol⟩
      rcases List.mem_or_eq_of_mem_set hf with hf | rfl
      · exact hfilms f hf
      · exact hv
    · cases hw
  all_goals
    obtain ⟨hv, rfl⟩ := inRange_eq_some.1 hw
    refine ⟨htag, ?_, ⟨hlen, hfilms⟩, ?_, ?_, ?_, ?_, hzt, hzf, hex, hch, hzp, hcp, ?_, ?_, ?_, ?_, ?_⟩ <;>
      first | assumption | exact hv.2

theorem wordAs_nonneg (n : Nat) : 0 ≤ wordAs false n := by simp [wordAs]

/-- A profile field written within its range (R39). -/
theorem writeProfileItem_inRange {i : Nat} (h : RecipeInRange x) (hw : writeProfileItem i p x = some y) :
    RecipeInRange y := by
  obtain ⟨htag, hwidth, hfilms, hevap, hcrawl, hthread, hrun, hzt, hzf, hex, hch, hzp, hcp, hdwell, hres, hdb, hdc,
    htol⟩ := h
  unfold writeProfileItem at hw
  simp only [] at hw
  split at hw
  · rename_i hi
    obtain ⟨hv, hw⟩ := (Option.ite_none_right_eq_some).1 hw
    cases hw
    refine ⟨htag, hwidth, hfilms, hevap, hcrawl, hthread, hrun, hzt, hzf, hex, hch, fun k => ?_, hcp, hdwell, hres, hdb,
      hdc, htol⟩
    simp only [Four.get_set]
    split
    · have hk := hzp ⟨i / 4, by omega⟩
      obtain ⟨h1, h2, h3, h4, h5, h6⟩ := hk
      have hnn := wordAs_nonneg (p.wordParam 0)
      have hc : i % 4 = 0 ∨ i % 4 = 1 ∨ i % 4 = 2 ∨ i % 4 = 3 := by omega
      rcases hc with hc | hc | hc | hc <;> rw [hc]
      · have he : i % 2 = 0 := by omega
        simp only [he, decide_true, if_true] at hv ⊢
        exact ⟨hv, h2, h3, h4, h5, h6⟩
      · have he : i % 2 ≠ 0 := by omega
        simp only [he, decide_false, Bool.false_eq_true, if_false] at hv ⊢
        exact ⟨h1, h2, hnn, hv, h5, h6⟩
      · have he : i % 2 = 0 := by omega
        simp only [he, decide_true, if_true] at hv ⊢
        exact ⟨h1, hv, h3, h4, h5, h6⟩
      · have he : i % 2 ≠ 0 := by omega
        simp only [he, decide_false, Bool.false_eq_true, if_false] at hv ⊢
        exact ⟨h1, h2, h3, h4, hnn, hv⟩
    · exact hzp k
  · split at hw
    · rename_i hi
      split at hw
      · rename_i hv
        cases hw
        refine ⟨htag, hwidth, hfilms, hevap, hcrawl, hthread, hrun, hzt, hzf, hex, hch, hzp, fun j => ?_, hdwell, hres, hdb,
          hdc, htol⟩
        simp only [Three.get_set]
        split
        · obtain ⟨h1, h2, h3, h4⟩ := hcp ⟨(i - 16) / 2, by omega⟩
          rcases Nat.mod_two_eq_zero_or_one i with hc | hc <;> rw [hc]
          · exact ⟨hv.1, hv.2, h3, h4⟩
          · exact ⟨h1, h2, hv.1, hv.2⟩
        · exact hcp j
      · cases hw
    · cases hw

/-! ## Schedules (R40) -/

/-- A schedule written into a recipe in the place of its table's. -/
theorem setSchedule_inRange {tb : Table} {l : List Breakpoint} (h : RecipeInRange x)
    (hl : ScheduleInRange tb.valueRange.1 tb.valueRange.2 l) : RecipeInRange (setSchedule tb l x) := by
  obtain ⟨htag, hwidth, hfilms, hevap, hcrawl, hthread, hrun, hzt, hzf, hex, hch, hzp, hcp, hdwell, hres, hdb, hdc,
    htol⟩ := h
  cases tb with
  | zoneTemp b k =>
    refine ⟨htag, hwidth, hfilms, hevap, hcrawl, hthread, hrun, fun j => ?_, hzf, hex, hch, hzp, hcp, hdwell, hres, hdb,
      hdc, htol⟩
    simp only [setSchedule, Four.get_set]
    split
    · exact hl
    · exact hzt j
  | zoneFan b k =>
    refine ⟨htag, hwidth, hfilms, hevap, hcrawl, hthread, hrun, hzt, fun j => ?_, hex, hch, hzp, hcp, hdwell, hres, hdb,
      hdc, htol⟩
    simp only [setSchedule, Four.get_set]
    split
    · exact hl
    · exact hzf j
  | exhaust b =>
    exact ⟨htag, hwidth, hfilms, hevap, hcrawl, hthread, hrun, hzt, hzf, hl, hch, hzp, hcp, hdwell, hres, hdb, hdc, htol⟩
  | chill b i =>
    refine ⟨htag, hwidth, hfilms, hevap, hcrawl, hthread, hrun, hzt, hzf, hex, fun j => ?_, hzp, hcp, hdwell, hres, hdb,
      hdc, htol⟩
    simp only [setSchedule, Three.get_set]
    split
    · exact hl
    · exact hch j
  | _ =>
    exact ⟨htag, hwidth, hfilms, hevap, hcrawl, hthread, hrun, hzt, hzf, hex, hch, hzp, hcp, hdwell, hres, hdb, hdc, htol⟩

/-- The schedule a table of a bank is lies in the table's range. -/
theorem scheduleOf_inRange {tb : Table} {l : List Breakpoint} (h : RecipeLaw s) (hl : scheduleOf tb s.banks = some l) :
    ScheduleInRange tb.valueRange.1 tb.valueRange.2 l := by
  cases tb with
  | zoneTemp b k => cases hl; exact (h b).2.2.2.2.2.2.2.1 k
  | zoneFan b k => cases hl; exact (h b).2.2.2.2.2.2.2.2.1 k
  | exhaust b => cases hl; exact (h b).2.2.2.2.2.2.2.2.2.1
  | chill b j => cases hl; exact (h b).2.2.2.2.2.2.2.2.2.2.1 j
  | _ => cases hl

theorem breakpointParam_inRange {tb : Table} {q : Breakpoint} (h : breakpointParam tb p = some q) :
    tb.valueRange.1 ≤ q.value ∧ q.value ≤ tb.valueRange.2 ∧ q.speed ≤ 65535 := by
  unfold breakpointParam at h
  simp only [] at h
  split at h
  · rename_i hv
    cases h
    exact ⟨hv.1, hv.2, p.wordParam_le 0⟩
  · cases h

theorem putAt_length {α : Type} (i : Nat) (a : α) (l : List α) :
    (putAt i a l).length = if i < l.length then l.length else l.length + 1 := by
  unfold putAt; split <;> simp

theorem mem_putAt {α : Type} {i : Nat} {a c : α} {l : List α} (h : c ∈ putAt i a l) : c = a ∨ c ∈ l := by
  unfold putAt at h
  split at h
  · rcases List.mem_or_eq_of_mem_set h with h | h
    · exact .inr h
    · exact .inl h
  · simpa [or_comm] using h

/-- A breakpoint put into a schedule at a position below 8. -/
theorem ScheduleInRange.put {lo hi : Int} {l : List Breakpoint} {q : Breakpoint} {i : Nat} (h : ScheduleInRange lo hi l)
    (hq : lo ≤ q.value ∧ q.value ≤ hi ∧ q.speed ≤ 65535) (hi' : i < 8) : ScheduleInRange lo hi (putAt i q l) := by
  obtain ⟨hl, hm⟩ := h
  refine ⟨?_, fun c hc => ?_⟩
  · rw [putAt_length]
    split <;> omega
  · rcases mem_putAt hc with rfl | hc
    · exact hq
    · exact hm c hc

/-! ## Every operation -/

theorem RecipeLaw.same (h : RecipeLaw s) (hr : ∀ c, (t.banks.get c).recipe = (s.banks.get c).recipe) : RecipeLaw t :=
  fun c => by rw [hr]; exact h c

theorem RecipeLaw.edited (h : RecipeLaw s) (hx : RecipeInRange x) : RecipeLaw (editBank b x s) := fun c => by
  simp only [editBank_banks, Four.get_set]
  split
  · exact hx
  · exact h c

/-- The cursor of a window that is not beyond its schedule lies below 8 (R40, R174). -/
theorem cursor_lt_positions {w : Window} (h : beyondTable w s = false) (hl : w.table.isList = true) :
    0 ≤ w.cursor ∧ w.cursor.toNat < tablePositions w.table s ∧ w.cursor.toNat ≤ tableLength w.table s := by
  unfold beyondTable at h
  rw [hl] at h
  simp only [if_true, Bool.or_eq_false_iff, decide_eq_false_iff_not, Int.not_lt, Int.not_le] at h
  omega

theorem RecipeLaw.written {w : Window} (h : RecipeLaw s) (hb : beyondTable w s = false)
    (hw : writeItem w.table w.cursor.toNat p s = some u) : RecipeLaw u := by
  have schedule : ∀ tb, w.table = tb → tb.isList = true → tablePositions tb s = 8 → ∀ l, scheduleOf tb s.banks = some l →
      ∀ b q, breakpointParam tb p = some q →
        RecipeLaw (editBank b (setSchedule tb (putAt w.cursor.toNat q ((scheduleOf tb s.banks).getD []))
          (s.banks.get b).recipe) s) := by
    rintro tb rfl hl hp l hs b q hq
    rw [hs]
    refine h.edited (setSchedule_inRange (h b) ?_)
    exact (scheduleOf_inRange h hs).put (breakpointParam_inRange hq) (hp ▸ (cursor_lt_positions hb hl).2.1)
  cases ht : w.table with
  | commScalars => rw [ht] at hw; obtain ⟨_, _, rfl⟩ := Option.map_eq_some_iff.1 hw; exact h
  | slotMap => rw [ht] at hw; obtain ⟨_, _, rfl⟩ := Option.map_eq_some_iff.1 hw; exact h
  | recipeScalars b =>
    rw [ht] at hw
    obtain ⟨_, hx, rfl⟩ := Option.map_eq_some_iff.1 hw
    exact h.edited (writeRecipeItem_inRange (h b) hx)
  | profiles b =>
    rw [ht] at hw
    obtain ⟨_, hx, rfl⟩ := Option.map_eq_some_iff.1 hw
    exact h.edited (writeProfileItem_inRange (h b) hx)
  | zoneTemp b k =>
    rw [ht] at hw
    obtain ⟨_, hq, rfl⟩ := Option.map_eq_some_iff.1 hw
    exact schedule _ ht rfl rfl _ rfl b _ hq
  | zoneFan b k =>
    rw [ht] at hw
    obtain ⟨_, hq, rfl⟩ := Option.map_eq_some_iff.1 hw
    exact schedule _ ht rfl rfl _ rfl b _ hq
  | exhaust b =>
    rw [ht] at hw
    obtain ⟨_, hq, rfl⟩ := Option.map_eq_some_iff.1 hw
    exact schedule _ ht rfl rfl _ rfl b _ hq
  | chill b j =>
    rw [ht] at hw
    obtain ⟨_, hq, rfl⟩ := Option.map_eq_some_iff.1 hw
    exact schedule _ ht rfl rfl _ rfl b _ hq
  | _ => rw [ht] at hw; cases hw

theorem RecipeLaw.emptied (h : RecipeLaw s) (tb : Table) : RecipeLaw (emptyList tb s) := by
  have hn : ScheduleInRange tb.valueRange.1 tb.valueRange.2 [] := ⟨Nat.zero_le _, fun _ hc => by cases hc⟩
  cases tb with
  | zoneTemp b k => exact h.edited (setSchedule_inRange (h b) hn)
  | zoneFan b k => exact h.edited (setSchedule_inRange (h b) hn)
  | exhaust b => exact h.edited (setSchedule_inRange (h b) hn)
  | chill b j => exact h.edited (setSchedule_inRange (h b) hn)
  | _ => exact h

theorem recipeInRange_empty : RecipeInRange Recipe.empty := by
  have hs : ∀ lo hi, ScheduleInRange lo hi [] := fun _ _ => ⟨Nat.zero_le _, fun _ hc => by cases hc⟩
  refine ⟨by decide, by decide, by decide, by decide, by decide, by decide, by decide, fun k => ?_, fun k => ?_, hs _ _,
    fun j => ?_, fun k => ?_, fun j => ?_, by decide, by decide, by decide, by decide, by decide⟩
  · simpa [Recipe.empty] using hs _ _
  · simpa [Recipe.empty] using hs _ _
  · simpa [Recipe.empty] using hs _ _
  · simp [Recipe.empty, TempInRange]
  · simp [Recipe.empty]

end Sys2Proof.Machine
end

section
/-! PROOF. What leaves the recipes alone (R39), and the law of the recipes. -/

namespace Sys2Proof.Machine

variable {s t u : State} {b : BankNo}

/-- Every bank keeps its recipe. -/
def SameRecipes (q r : Four Bank) : Prop := ∀ c, (r.get c).recipe = (q.get c).recipe

theorem SameRecipes.trans {p q r : Four Bank} (h : SameRecipes p q) (g : SameRecipes q r) : SameRecipes p r :=
  fun c => (g c).trans (h c)

theorem sameRecipes_of_eq {q r : Four Bank} (h : r = q) : SameRecipes q r := fun _ => by rw [h]

theorem sameRecipes_set {q : Four Bank} {x : Bank} (h : x.recipe = (q.get b).recipe) : SameRecipes q (q.set b x) :=
  fun c => by
    rw [Four.get_set]
    split
    · rename_i e; rw [h, e]
    · rfl

theorem changeoverBanks_recipes (b : BankNo) (q : Four Bank) : SameRecipes q (changeoverBanks b q) := fun c => by
  unfold changeoverBanks
  simp only []
  split <;> simp

theorem unqueue_recipes (q : Four Bank) : SameRecipes q (unqueue q) := fun c => by
  unfold unqueue
  split <;> simp

theorem changeoverEvent_recipes (m : PendingMode) (s : State) : SameRecipes s.banks (changeoverEvent m s).banks := by
  unfold changeoverEvent
  repeat' split
  · rw [changeover_banks]; exact changeoverBanks_recipes _ _
  all_goals exact fun _ => rfl

theorem activate_recipes (b : BankNo) (m : ActivationMode) (s : State) : SameRecipes s.banks (activate b m s).banks := by
  have hc : SameRecipes s.banks (changeover b { s with banks := unqueue s.banks }).banks := by
    rw [changeover_banks]
    exact (unqueue_recipes _).trans (changeoverBanks_recipes _ _)
  have hq : ∀ m, SameRecipes s.banks (enqueue b m { s with banks := unqueue s.banks }).banks := fun m =>
    (unqueue_recipes s.banks).trans fun c => by simp [enqueue]
  unfold activate
  simp only []
  split
  · exact hc
  · split
    · exact hc
    · exact hq _
  · exact hq _

theorem transition_recipes (src : Option BreakSource) (s : State) : SameRecipes s.banks (transition src s).banks := by
  unfold transition
  repeat' split
  all_goals first
    | exact fun _ => rfl
    | exact sameRecipes_of_eq (breakEntry_banks _ _)
    | exact sameRecipes_of_eq (resumeExpiry_banks _)
    | exact changeoverEvent_recipes _ _

theorem webReaction_recipes (r : Refresh) (s : State) : SameRecipes s.banks (webReaction r s).banks := by
  have hs : ∀ u : State, SameRecipes u.banks (handSplice u).banks := fun u => by
    unfold handSplice
    split
    · exact changeoverEvent_recipes _ _
    · exact fun _ => rfl
  unfold webReaction
  refine SameRecipes.trans ?_ (hs _)
  split
  · split
    · unfold lineReturn
      simp only []
      split
      · exact changeoverEvent_recipes _ _
      · exact fun _ => rfl
    · exact transition_recipes _ _
  · exact fun _ => rfl

theorem RecipeLaw.kept (h : RecipeLaw s) (hr : SameRecipes s.banks t.banks) : RecipeLaw t := h.same hr

theorem RecipeLaw.react (h : RecipeLaw s) (r : Refresh) (x : Reaction) : RecipeLaw (react r x s) := by
  cases x with
  | webSequencer => exact h.kept (webReaction_recipes r s)
  | lineInterface => unfold Machine.react; simp only []; split <;> simpa [RecipeLaw] using h
  | sampleBoard => simpa [Machine.react, RecipeLaw] using h
  | commandTable => simpa [Machine.react, RecipeLaw] using h
  | dryerSafety => simpa [Machine.react, RecipeLaw] using h
  | scheduleUnit => simpa [Machine.react, RecipeLaw] using h
  | solventUnit => simpa [Machine.react, RecipeLaw] using h
  | incidentLog => simpa [Machine.react, RecipeLaw] using h

theorem recipeLaw_reset (p : Phase) (c : ResetCauses) (s : State) : RecipeLaw (enterReset p c s) := fun b => by
  simpa [enterReset, State.reset, Bank.cleared] using recipeInRange_empty

theorem recipeLaw_keptAtEnd : KeptAtEnd RecipeLaw := by
  constructor
  case leave => exact fun _ _ _ _ _ _ _ h => h
  case serviceReset => exact fun s _ => recipeLaw_reset _ _ _
  case react => exact fun r x _ _ h => h.react r x
  all_goals intros; simpa [RecipeLaw] using ‹RecipeLaw _›

theorem recipeLaw_kept : Kept RecipeLaw := by
  have hr := recipeLaw_reset
  constructor
  case frameEnd => exact fun n d us s h => recipeLaw_keptAtEnd.frameEnd n d us s h
  case silence =>
    intro s h
    unfold silenceTimerExpiry
    split
    · simpa [RecipeLaw] using h
    · exact h
  case emptyList => exact fun tb s _ _ _ _ h => h.emptied tb
  case writeItem => exact fun w p s u _ _ _ hb hi h => h.written hb hi
  case startCheck => exact fun b s _ _ _ _ h => h.kept fun c => by simp
  case bankCheckEnd =>
    intro s h
    unfold bankCheckEnd
    repeat' split
    · exact h
    · refine h.kept ?_
      simp only [endCheck, offer_frame]
      exact sameRecipes_set rfl
    all_goals exact h
  case clearBank =>
    intro b s _ _ h c
    simp only [Four.get_set]
    split
    · exact recipeInRange_empty
    · exact h c
  case activate => exact fun b m s _ _ h => h.kept (activate_recipes b m s)
  case unqueue => exact fun s _ h => h.kept (unqueue_recipes _)
  case storeWrite =>
    intro s h
    unfold storeWriteComplete
    split
    · have hb : SameRecipes s.banks (bringIntoForce s).banks := by
        unfold bringIntoForce
        simp only []
        split
        · exact fun _ => rfl
        · exact fun c => by simp [demoteAll, demoteBank]
      have ht := h.kept (t := bringIntoForce s) hb
      simpa [RecipeLaw, storeCompletion, flamesAtStore, boardAtStore] using ht
    · exact h
  case waitExpiry => exact fun s h => waitExpiry_keeps hr h
  case powerOn => exact fun s h => powerOn_keeps hr h
  case supplyLoss => exact fun s _ => hr _ _ _
  case pinAssert => exact fun s h => pinAssert_keeps hr (by exact h) h
  case pinRelease => intro s h; unfold resetPinRelease; simp only []; split <;> exact h
  case loadComplete =>
    intro s h
    unfold storeLoadComplete
    split
    · simpa [RecipeLaw, openRelay] using h
    all_goals exact h
  case clearCounter => intro s n _ h; unfold clearCounter; split <;> exact h
  all_goals intros; simpa [RecipeLaw] using ‹RecipeLaw _›

end Sys2Proof.Machine
end

section
/-! PROOF. The checks of STORE (R23, R183): each reason of the Slot Map as a predicate, the first that fails, and O20. -/

namespace Sys2Proof.Machine

variable {w : CommRecord} {m before after : List SlotEntry} {e : SlotEntry} {r : Role} {n : Nat}

/-! ## Kinds and entries -/

theorem kind_eq_sample : e.kind = .sample ↔ e.isSample = true := by
  obtain ⟨_, _, _, use⟩ := e
  cases use <;> simp [SlotEntry.kind, SlotEntry.isSample]

theorem kind_eq_command : e.kind = .command ↔ e.isCommand = true := by
  obtain ⟨_, _, _, use⟩ := e
  cases use <;> simp [SlotEntry.kind, SlotEntry.isCommand]

theorem kind_eq_echo : e.kind = .echo ↔ e.isEcho = true := by
  obtain ⟨_, _, _, use⟩ := e
  cases use <;> simp [SlotEntry.kind, SlotEntry.isEcho]

theorem kind_eq_hold : e.kind = .hold ↔ e.isHold = true := by
  obtain ⟨_, _, _, use⟩ := e
  cases use <;> simp [SlotEntry.kind, SlotEntry.isHold]

theorem sampleEntry_isNone : (sampleEntry m r).isNone = true ↔ ∀ c ∈ m, ¬ (c.role = r ∧ c.kind = .sample) := by
  simp [sampleEntry, kind_eq_sample]

theorem commandEntry_isNone : (commandEntry m r).isNone = true ↔ ∀ c ∈ m, ¬ (c.kind = .command ∧ c.role = r) := by
  simp only [commandEntry, Option.isNone_iff_eq_none, List.find?_eq_none, Bool.and_eq_true, decide_eq_true_eq,
    kind_eq_command, and_comm]

/-! ## The reasons of an entry (R23) -/

theorem fails_key : before.any (sameKey e) = true ↔ EntryFails w before e 0 := by
  simp only [List.any_eq_true, sameKey, Bool.and_eq_true, decide_eq_true_eq, EntryFails, and_assoc]
  exact exists_congr fun a => and_congr_right fun _ => by rw [eq_comm, @eq_comm _ e.channel, @eq_comm _ e.kind]

theorem fails_role : before.any (sameRole e) = true ↔ EntryFails w before e 1 := by
  simp only [List.any_eq_true, sameRole, Bool.and_eq_true, decide_eq_true_eq, EntryFails]
  exact exists_congr fun a => and_congr_right fun _ => by rw [eq_comm, @eq_comm _ e.kind]

theorem fails_node : e.node = w.scalars.node ↔ EntryFails w before e 2 := .rfl

theorem fails_index : e.role.withinCounts w.scalars = false ↔ EntryFails w before e 3 := .rfl

theorem fails_pairing : unpaired w.map e = true ↔ EntryFails w before e 4 := by
  simp only [unpaired, Bool.and_eq_true, Bool.or_eq_true, decide_eq_true_eq, EntryFails, commandEntry_isNone,
    ← kind_eq_echo, ← kind_eq_hold]
  constructor
  · rintro ⟨hk, hn | hs⟩
    · exact .inl ⟨hk, hn⟩
    · exact .inr hs
  · rintro (⟨hk, hn⟩ | hs)
    · exact ⟨hk, .inl hn⟩
    · exact ⟨.inr hs.1, .inr hs⟩

theorem fails_safe : lacksSafeValue e = true ↔ EntryFails w before e 5 := by
  obtain ⟨node, channel, role, use⟩ := e
  unfold lacksSafeValue EntryFails
  cases role <;> cases use <;> simp

theorem fails_authority : wrongAuthority e = true ↔ EntryFails w before e 6 := by
  obtain ⟨node, channel, role, use⟩ := e
  unfold wrongAuthority EntryFails
  cases role <;> cases use <;> simp

/-- The first reason an entry fails is the one its check gives (R23). -/
theorem entryFault_some (hn : EntryFails w before e n) (hfirst : ∀ k < n, ¬ EntryFails w before e k) :
    ∃ f : EntryFault, f.number = n ∧ entryFault w.scalars w.map before e = some f := by
  have earlier : ∀ {k} {b : Bool}, (b = true ↔ EntryFails w before e k) → k < n → b = false := fun hb hk =>
    Bool.eq_false_iff.2 (mt hb.1 (hfirst _ hk))
  match n with
  | 0 => exact ⟨.keyTwice, rfl, by simp [entryFault, fails_key.2 hn]⟩
  | 1 => exact ⟨.roleTwice, rfl, by simp [entryFault, earlier fails_key (by omega), fails_role.2 hn]⟩
  | 2 =>
    exact ⟨.ownNode, rfl, by
      simp [entryFault, earlier fails_key (by omega), earlier fails_role (by omega), fails_node.2 hn]⟩
  | 3 =>
    have hnode := mt fails_node.1 (hfirst 2 (by omega))
    exact ⟨.index, rfl, by
      simp [entryFault, earlier fails_key (by omega), earlier fails_role (by omega), hnode, fails_index.2 hn]⟩
  | 4 =>
    have hnode := mt fails_node.1 (hfirst 2 (by omega))
    have hidx := mt fails_index.1 (hfirst 3 (by omega))
    exact ⟨.pairing, rfl, by
      simp [entryFault, earlier fails_key (by omega), earlier fails_role (by omega), hnode, hidx, fails_pairing.2 hn]⟩
  | 5 =>
    have hnode := mt fails_node.1 (hfirst 2 (by omega))
    have hidx := mt fails_index.1 (hfirst 3 (by omega))
    exact ⟨.noSafeValue, rfl, by
      simp [entryFault, earlier fails_key (by omega), earlier fails_role (by omega), hnode, hidx,
        earlier fails_pairing (by omega), fails_safe.2 hn]⟩
  | 6 =>
    have hnode := mt fails_node.1 (hfirst 2 (by omega))
    have hidx := mt fails_index.1 (hfirst 3 (by omega))
    exact ⟨.speedRefAuthority, rfl, by
      simp [entryFault, earlier fails_key (by omega), earlier fails_role (by omega), hnode, hidx,
        earlier fails_pairing (by omega), earlier fails_safe (by omega), fails_authority.2 hn]⟩
  | _ + 7 => exact hn.elim

/-- What has no least number has no number. -/
theorem forall_not_of_least {p : Nat → Prop} (h : ∀ n, p n → (∀ m < n, ¬ p m) → False) (k : Nat) : ¬ p k := by
  induction k using Nat.strongRecOn with
  | ind k ih => exact fun hk => h k hk ih

theorem entryFault_none : entryFault w.scalars w.map before e = none ↔ ∀ k, ¬ EntryFails w before e k := by
  constructor
  · intro h
    refine forall_not_of_least fun n hn hless => ?_
    obtain ⟨f, -, hf⟩ := entryFault_some hn hless
    rw [h] at hf
    cases hf
  · intro h
    have no : ∀ {k} {b : Bool}, (b = true ↔ EntryFails w before e k) → b = false := fun hb =>
      Bool.eq_false_iff.2 (mt hb.1 (h _))
    have hnode := mt fails_node.1 (h 2)
    have hidx := mt fails_index.1 (h 3)
    simp [entryFault, no fails_key, no fails_role, hnode, hidx, no fails_pairing, no fails_safe, no fails_authority]

/-! ## The first entry that fails -/

theorem mapFault_eq (c : Scalars) (m : List SlotEntry) : mapFault c m = (List.range m.length).findSome? fun i =>
    (m[i]?).bind fun e => (entryFault c m (m.take i) e).map fun f => (f, i) := rfl

/-- No entry fails: none of the map's splits does. -/
theorem mapFault_none : mapFault w.scalars w.map = none ↔
    ∀ before e after, w.map = before ++ e :: after → ∀ k, ¬ EntryFails w before e k := by
  rw [mapFault_eq, List.findSome?_eq_none_iff]
  simp only [List.mem_range]
  constructor
  · intro h before e after hm
    have hi := h before.length (by rw [hm]; simp)
    rw [← entryFault_none]
    simpa [hm] using hi
  · intro h i hi
    have hm : w.map = w.map.take i ++ w.map[i] :: w.map.drop (i + 1) := by
      rw [← List.drop_eq_getElem_cons hi, List.take_append_drop]
    simp only [List.getElem?_eq_getElem hi, Option.bind_some, Option.map_eq_none_iff]
    exact entryFault_none.2 (h _ _ _ hm)

/-- The entry that fails after entries that do not is the one the check names, with its position. -/
theorem mapFault_some (hm : w.map = before ++ e :: after)
    (hb : ∀ ahead x behind, before = ahead ++ x :: behind → ∀ k, ¬ EntryFails w ahead x k)
    {f : EntryFault} (hf : entryFault w.scalars w.map before e = some f) :
    mapFault w.scalars w.map = some (f, before.length) := by
  have hl : w.map.length = before.length + (1 + after.length) := by rw [hm]; simp; omega
  rw [mapFault_eq, hl, List.range_add, List.findSome?_append, List.findSome?_eq_none_iff.2, Option.none_or]
  · rw [Nat.add_comm 1, List.range_succ_eq_map]
    simp only [List.map_cons, List.findSome?_cons, Nat.add_zero]
    rw [hm] at hf
    simp [hm, hf]
  · intro i hi
    simp only [List.mem_range] at hi
    have hs : before = before.take i ++ before[i] :: before.drop (i + 1) := by
      rw [← List.drop_eq_getElem_cons hi, List.take_append_drop]
    have hn := entryFault_none.2 (hb _ _ _ hs)
    have ht : w.map.take i = before.take i := by rw [hm, List.take_append_of_le_length (by omega)]
    have hg : w.map[i]? = some before[i] := by
      rw [hm, List.getElem?_append_left hi, List.getElem?_eq_getElem hi]
    simp [hg, ht, hn]

/-! ## The whole check -/

theorem scalarFault_none {c : Scalars} : scalarFault c = none ↔ 2 * c.period ≤ c.silence ∧ c.fUnmon ≤ c.fMon
    ∧ 10 * c.fMon < c.trip ∧ c.qFloor < c.qCap ∧ c.purgeMin ≤ c.qCap := by
  unfold scalarFault
  repeat' split
  all_goals simp; omega

theorem missingRole_none {c : Scalars} : missingRole c m = none ↔
    ∀ r : Role, (r = .webSpeed ∨ r = .exhaustFlow ∨ ∃ k : Zone, r = .zoneTemp k ∧ k.val < c.zones) →
      ∃ e ∈ m, e.role = r ∧ e.kind = .sample := by
  have hz : ∀ k : Zone, k ∈ zoneNumbers := by decide
  have hm : ∀ r : Role, r ∈ requiredRoles c ↔ (r = .webSpeed ∨ r = .exhaustFlow ∨ ∃ k : Zone, r = .zoneTemp k ∧ k.val < c.zones) := by
    intro r
    simp only [requiredRoles, List.mem_cons, List.mem_map, List.mem_filter, decide_eq_true_eq]
    refine or_congr_right (or_congr_right (exists_congr fun k => ?_))
    exact ⟨fun ⟨⟨_, h⟩, e⟩ => ⟨e.symm, h⟩, fun ⟨e, h⟩ => ⟨⟨hz k, h⟩, e.symm⟩⟩
  rw [missingRole, List.find?_eq_none]
  refine forall_congr' fun r => ?_
  rw [hm]
  refine imp_congr_right fun _ => ?_
  rw [sampleEntry_isNone]
  simp only [Classical.not_forall, Classical.not_not, exists_prop]

theorem checkData_none : checkData w = none ↔
    scalarFault w.scalars = none ∧ mapFault w.scalars w.map = none ∧ missingRole w.scalars w.map = none := by
  unfold checkData
  repeat' split
  all_goals simp_all

/-- No entry ahead of another shares its key, or its role and kind (R23). -/
theorem pairwise_iff_splits {α : Type} {R : α → α → Prop} {l : List α} :
    l.Pairwise R ↔ ∀ before e after, l = before ++ e :: after → ∀ a ∈ before, R a e := by
  constructor
  · rintro h before e after rfl a ha
    exact (List.pairwise_append.1 h).2.2 a ha e (.head _)
  · intro h
    rw [List.pairwise_iff_getElem]
    intro i j hi hj hij
    have hs : l = l.take j ++ l[j] :: l.drop (j + 1) := by rw [← List.drop_eq_getElem_cons hj, List.take_append_drop]
    refine h _ _ _ hs _ ?_
    rw [List.mem_take_iff_getElem]
    exact ⟨i, by omega, rfl⟩

/-- Every entry sound by itself: the reasons that do not look at the entries ahead of it (R23). -/
theorem entries_sound : (∀ before e after, w.map = before ++ e :: after → ∀ k, ¬ EntryFails w before e k) ↔
    w.map.Pairwise (fun a e => ¬ (a.node = e.node ∧ a.channel = e.channel ∧ a.kind = e.kind)
        ∧ ¬ (a.role = e.role ∧ a.kind = e.kind))
      ∧ ∀ e ∈ w.map, e.node ≠ w.scalars.node ∧ e.role.withinCounts w.scalars = true
        ∧ (e.kind = .echo ∨ e.kind = .hold → ∃ c ∈ w.map, c.kind = .command ∧ c.role = e.role)
        ∧ (e.kind = .hold → e.role ≠ .speedRef)
        ∧ (∀ k a v t m, e.role = .zoneTempSp k → e.use = .command a v t m → v ≠ none)
        ∧ ∀ a v t m, e.role = .speedRef → e.use = .command a v t m → a = .observe := by
  constructor
  · intro h
    refine ⟨pairwise_iff_splits.2 fun before e after hm a ha => ?_, fun e he => ?_⟩
    · exact ⟨fun hk => h _ _ _ hm 0 ⟨a, ha, hk⟩, fun hr => h _ _ _ hm 1 ⟨a, ha, hr⟩⟩
    · obtain ⟨before, after, hm⟩ := List.append_of_mem he
      have hf := h _ _ _ hm
      refine ⟨hf 2, by simpa [EntryFails] using hf 3, fun hk => ?_, fun hk hs => hf 4 (.inr ⟨hk, hs⟩), ?_, ?_⟩
      · refine Classical.byContradiction fun hn => ?_
        exact hf 4 (.inl ⟨hk, fun c hc hcc => hn ⟨c, hc, hcc⟩⟩)
      · rintro k a v t m hr hu rfl
        exact hf 5 ⟨k, a, t, m, hr, hu⟩
      · intro a v t m hr hu
        refine Classical.byContradiction fun ha => ?_
        exact hf 6 ⟨a, v, t, m, hr, hu, ha⟩
  · rintro ⟨hp, hs⟩ before e after hm k
    have hd := pairwise_iff_splits.1 hp _ _ _ hm
    obtain ⟨hnode, hidx, hpair, hhold, hsafe, hauth⟩ := hs e (by rw [hm]; simp)
    match k with
    | 0 => rintro ⟨a, ha, hk⟩; exact (hd a ha).1 hk
    | 1 => rintro ⟨a, ha, hr⟩; exact (hd a ha).2 hr
    | 2 => exact hnode
    | 3 => simp [EntryFails, hidx]
    | 4 =>
      rintro (⟨hk, hn⟩ | ⟨hk, hr⟩)
      · obtain ⟨c, hc, hcc⟩ := hpair hk
        exact hn c hc hcc
      · exact hhold hk hr
    | 5 => rintro ⟨k, a, t, m, hr, hu⟩; exact hsafe k a none t m hr hu rfl
    | 6 => rintro ⟨a, v, t, m, hr, hu, ha⟩; exact ha (hauth a v t m hr hu)
    | _ + 7 => exact id

/-- The bytes of a refused scalar cross-check (R183; log 16). -/
theorem checkData_scalar {f : ScalarFault} (h : scalarFault w.scalars = some f) :
    checkData w = some [0, 0, 0, byte f.number, byte f.scalar] := by
  simp only [checkData, h]
  rfl

/-- Settles O20: the scalar cross-checks in their order; each entry's check is the first of its reasons that holds, and
the map's check the first entry's that has one. -/
theorem storeChecksDecide : Obligations.StoreChecksDecide := by
  unfold Obligations.StoreChecksDecide
  refine ⟨fun w => ?_, fun w => ⟨fun h1 => ?_, fun h1 => ⟨fun h2 => ?_, fun h2 => ⟨fun h3 => ?_, fun h3 => ⟨fun h4 => ?_,
    fun h4 => ⟨fun h5 => ?_, fun h5 => ⟨fun before e after n hm hb hn hfirst => ?_,
      fun hs required before after r hr hreq hb hmiss => ?_⟩⟩⟩⟩⟩⟩⟩
  · rw [checkData_none, scalarFault_none, mapFault_none, entries_sound, missingRole_none]
    exact and_congr_right fun _ => and_assoc
  · exact checkData_scalar (f := .silencePeriod) (by simp [scalarFault, h1])
  · exact checkData_scalar (f := .unmonAboveMon) (by simp [scalarFault, Nat.not_lt.2 h1, h2])
  · exact checkData_scalar (f := .tripBelowAllowed) (by simp [scalarFault, Nat.not_lt.2 h1, Nat.not_lt.2 h2, h3])
  · exact checkData_scalar (f := .floorAboveCapacity) (by simp [scalarFault, Nat.not_lt.2 h1, Nat.not_lt.2 h2, Nat.not_le.2 h3, h4])
  · exact checkData_scalar (f := .purgeAboveCapacity) (by simp [scalarFault, Nat.not_lt.2 h1, Nat.not_lt.2 h2, Nat.not_le.2 h3, Nat.not_le.2 h4, h5])
  · obtain ⟨f, rfl, hf⟩ := entryFault_some hn hfirst
    simp only [checkData, scalarFault_none.2 ⟨h1, h2, h3, h4, h5⟩, mapFault_some hm hb hf]
    rfl
  · have hfind : missingRole w.scalars w.map = some r := by
      rw [missingRole, List.find?_eq_some_iff_append]
      refine ⟨sampleEntry_isNone.2 hmiss, before, after, ?_, fun q hq => ?_⟩
      · rw [← hreq, hr]; rfl
      · obtain ⟨c, hc, hcr⟩ := hb q hq
        rw [Bool.not_eq_true', Bool.eq_false_iff]
        exact fun hn => sampleEntry_isNone.1 hn c hc hcr
    simp only [checkData, scalarFault_none.2 ⟨h1, h2, h3, h4, h5⟩, mapFault_none.2 hs, hfind]
    rfl

end Sys2Proof.Machine
end

section
/-! PROOF. Commissioning records in the ranges of their writes (R22, R182), what is in force passing the checks of STORE
(R183), and the tables holding what the map in force asks for (R25, R135). -/

namespace Sys2Proof.Machine

variable {s t u : State} {p : Place} {c d : Scalars} {e : SlotEntry} {r : CommRecord}

/-! ## Scalars and entries from a request (R22, R182) -/

theorem ranged_eq_some {lo hi v : Nat} : ranged lo hi v c = some d ↔ (lo ≤ v ∧ v ≤ hi) ∧ c = d := by
  unfold ranged
  split <;> simp [*]

theorem writeScalar_inRange {i v : Nat} (h : ScalarsInRange c) (hw : writeScalar i v c = some d) : ScalarsInRange d := by
  obtain ⟨h1, h2, h3, h4, h5, h6, h7, h8, h9, h10, h11, h12, h13, h14, h15, h16, h17, h18, h19, h20⟩ := h
  unfold writeScalar at hw
  split at hw
  case h_25 => cases hw
  all_goals
    obtain ⟨hv, rfl⟩ := ranged_eq_some.1 hw
    refine ⟨?_, ?_, ?_, ?_, ?_, ?_, ?_, ?_, ?_, ?_, ?_, ?_, ?_, ?_, ?_, ?_, ?_, ?_, ?_, ?_⟩ <;>
      first | assumption | exact hv.2

theorem bounded_eq_some {lo hi n k : Nat} : bounded lo hi n = some k ↔ (lo ≤ n ∧ n ≤ hi) ∧ n = k := by
  unfold bounded
  split <;> simp [*]

theorem safeParam_inRange {x : Role} {n : Nat} {v : Option Int} (h : safeParam x n = some v) : SafeInRange x v := by
  unfold safeParam at h
  unfold SafeInRange
  split at h
  · rename_i hb
    rw [if_pos hb]
    split at h <;> simp_all
  · rename_i hb
    rw [if_neg hb]
    split at h
    · cases h; exact fun _ hx => by cases hx
    · split at h <;> cases h
      rintro y hy
      cases hy
      assumption

/-- An entry read from a request's parameters lies in its ranges (R20, R22). -/
theorem entryParam_inRange (h : entryParam p = some e) : EntryInRange e := by
  unfold entryParam at h
  split at h
  · rename_i n c x hn hc hx
    obtain ⟨use, hu, rfl⟩ := Option.map_eq_some_iff.1 h
    obtain ⟨bn, rfl⟩ := bounded_eq_some.1 hn
    obtain ⟨bc, rfl⟩ := bounded_eq_some.1 hc
    refine ⟨bn.1, bn.2, bc.2, ?_⟩
    unfold useParam at hu
    split at hu
    · split at hu
      · cases hu
      · rename_i hk
        obtain ⟨_, hb, rfl⟩ := Option.map_eq_some_iff.1 hu
        obtain ⟨bb, rfl⟩ := bounded_eq_some.1 hb
        exact ⟨by simpa using hk, bb.1, bb.2⟩
    · split at hu
      · rename_i hk
        split at hu
        · rename_i a v t m _ hv ht hm
          cases hu
          obtain ⟨bt, rfl⟩ := bounded_eq_some.1 ht
          obtain ⟨bm, rfl⟩ := bounded_eq_some.1 hm
          exact ⟨hk, safeParam_inRange hv, bt.2, bm.1, bm.2⟩
        · cases hu
      · cases hu
    · split at hu
      · rename_i hk
        obtain ⟨_, hb, rfl⟩ := Option.map_eq_some_iff.1 hu
        obtain ⟨bb, rfl⟩ := bounded_eq_some.1 hb
        exact ⟨hk, bb.1, bb.2⟩
      · cases hu
    · split at hu
      · rename_i hk
        cases hu
        exact hk
      · cases hu
    · cases hu
  · cases h

theorem commInRange_uncommissioned : CommInRange CommRecord.uncommissioned := by
  refine ⟨?_, Nat.zero_le _, fun _ he => by cases he⟩
  simp [ScalarsInRange, CommRecord.uncommissioned, Scalars.uncommissioned]

/-! ## The three versions of the record -/

/-- A write to the working copy of a part in which no STORE runs. -/
theorem RecordLaw.working {w : CommRecord} (h : RecordLaw s) (hw : CommInRange w) (hr : s.agent.storeRunning = false) :
    RecordLaw { s with comm.working := w } := by
  obtain ⟨-, h2, h3, -, h5⟩ := h
  exact ⟨hw, h2, h3, fun a => (by rw [hr] at a; cases a), h5⟩

/-- What the law reads stands. -/
theorem RecordLaw.same (h : RecordLaw s) (hc : t.comm = s.comm) (hr : t.agent.storeRunning = s.agent.storeRunning)
    (hp : t.phase = .running ∨ t.phase = s.phase ∨ t.agent.storeRunning = false) : RecordLaw t := by
  obtain ⟨h1, h2, h3, h4, h5⟩ := h
  unfold RecordLaw
  rw [hc, hr]
  refine ⟨h1, h2, h3, h4, fun a => ?_⟩
  rcases hp with hp | hp | hp
  · exact absurd hp a
  · exact h5 (hp ▸ a)
  · exact hr ▸ hp

/-- A commissioning table that may be written is written while no STORE runs (R183, R184). -/
theorem writeBar_commissioning {tb : Table} (hc : tb.isCommissioning = true) (hb : tb.bank? = none)
    (h : writeBar tb s = none) : s.agent.storeRunning = false := by
  unfold writeBar at h
  simp only [hb, hc, Bool.true_and] at h
  refine Classical.byContradiction fun hn => ?_
  simp [hn] at h

theorem RecordLaw.written {w : Window} (h : RecordLaw s) (hw : writeBar w.table s = none)
    (hb : beyondTable w s = false) (hi : writeItem w.table w.cursor.toNat p s = some u) : RecordLaw u := by
  obtain ⟨⟨hsc, hlen, hent⟩, -⟩ := id h
  cases hk : w.table.bank? with
  | some b =>
    obtain ⟨x, rfl⟩ := writeItem_bank hk hi
    exact h.same rfl rfl (.inr (.inl rfl))
  | none =>
    cases ht : w.table <;> simp [ht, Table.bank?] at hk <;> rw [ht] at hi hw <;>
      simp only [writeItem, Option.map_eq_some_iff, reduceCtorEq] at hi
    · obtain ⟨c, hc, rfl⟩ := hi
      exact h.working (w := { s.comm.working with scalars := c }) ⟨writeScalar_inRange hsc hc, hlen, hent⟩
        (writeBar_commissioning rfl rfl hw)
    · obtain ⟨e, he, rfl⟩ := hi
      have hcur := (cursor_lt_positions hb (by rw [ht]; rfl)).2.1
      rw [ht] at hcur
      simp only [tablePositions] at hcur
      refine h.working (w := { s.comm.working with map := putAt w.cursor.toNat e s.comm.working.map })
        ⟨hsc, ?_, fun x hx => ?_⟩ (writeBar_commissioning rfl rfl hw)
      · rw [putAt_length]
        split <;> omega
      · rcases mem_putAt hx with rfl | hx
        · exact entryParam_inRange he
        · exact hent x hx

theorem RecordLaw.emptied {tb : Table} (h : RecordLaw s) (hw : writeBar tb s = none) : RecordLaw (emptyList tb s) := by
  obtain ⟨⟨hsc, -, -⟩, -⟩ := id h
  cases tb with
  | slotMap =>
    exact h.working (w := { s.comm.working with map := [] }) ⟨hsc, Nat.zero_le _, fun _ he => by cases he⟩
      (writeBar_commissioning rfl rfl hw)
  | _ => exact h

theorem recordLaw_reset (h : RecordLaw s) (p : Phase) (c : ResetCauses) : RecordLaw (enterReset p c s) := by
  obtain ⟨-, h2, -⟩ := h
  exact ⟨commInRange_uncommissioned, h2, fun _ e => (by cases e), fun a => (by cases a), fun _ => rfl⟩

/-- The completion of a STORE puts the working copy, which has passed, in force (R185). -/
theorem RecordLaw.stored (h : RecordLaw s) (hr : s.agent.storeRunning = true) :
    RecordLaw { s with
      comm := ⟨some s.comm.working, some s.comm.working, s.comm.working⟩, agent.storeRunning := false } := by
  obtain ⟨h1, -, -, h4, -⟩ := h
  have hw : ∀ r, some s.comm.working = some r → CommInRange r ∧ checkData r = none := by
    rintro r e
    cases e
    exact ⟨h1, h4 hr⟩
  exact ⟨h1, hw, hw, fun a => (by cases a), fun _ => rfl⟩

/-- The load at start puts the stored record in force (R187). -/
theorem RecordLaw.loaded (h : RecordLaw s) (hp : s.phase = .loading) : RecordLaw { s with
    comm := ⟨s.comm.stored, s.comm.stored, loadedWorking s.comm.stored⟩, phase := .running } := by
  obtain ⟨-, h2, -, -, h5⟩ := h
  have hr := h5 (by rw [hp]; decide)
  refine ⟨?_, h2, h2, fun a => (by rw [hr] at a; cases a), fun a => absurd rfl a⟩
  unfold loadedWorking
  cases hs : s.comm.stored with
  | none => exact commInRange_uncommissioned
  | some r => exact (h2 r hs).1

end Sys2Proof.Machine
end

section
/-! PROOF. Every operation keeps the commissioning records and the tables of the map in force; O56. -/

namespace Sys2Proof.Machine

variable {s t u : State} {p : Place} {m : List SlotEntry}

/-! ## The records (R181 to R188) -/

theorem react_comm (r : Refresh) (x : Reaction) (s : State) :
    (react r x s).comm = s.comm ∧ (react r x s).agent = s.agent ∧ (react r x s).phase = s.phase := by
  cases x with
  | lineInterface => unfold react; simp only []; split <;> simp
  | _ => simp [react]

theorem recordLaw_keptAtEnd : KeptAtEnd RecordLaw := by
  constructor
  case leave => exact fun _ _ _ _ _ _ _ h => h.same rfl rfl (.inr (.inl rfl))
  case outService => exact fun t s h => h.same rfl (settleTakings_store _ _).1 (.inr (.inl rfl))
  case serviceReset => exact fun s h => recordLaw_reset h _ _
  case react =>
    intro r x s _ h
    obtain ⟨h1, h2, h3⟩ := react_comm r x s
    exact h.same h1 (by rw [h2]) (.inr (.inl h3))
  all_goals
    intros
    rename_i h
    exact h.same (by simp) (by simp) (.inr (.inl (by simp)))

theorem storeWriteComplete_record (h : RecordLaw s) : RecordLaw (storeWriteComplete s) := by
  unfold storeWriteComplete
  split
  · rename_i hr
    have hb : (bringIntoForce s).comm = ⟨some s.comm.working, some s.comm.working, s.comm.working⟩
        ∧ (bringIntoForce s).agent.storeRunning = false := by
      unfold bringIntoForce
      simp only []
      split <;> exact ⟨by simp, by simp⟩
    refine (h.stored hr).same ?_ ?_ (.inr (.inl ?_))
    · simp [storeCompletion, flamesAtStore, boardAtStore, hb.1]
    · simp [storeCompletion, flamesAtStore, boardAtStore, hb.2]
    · simp [storeCompletion, flamesAtStore, boardAtStore]
  · exact h

theorem storeLoadComplete_record (h : RecordLaw s) : RecordLaw (storeLoadComplete s) := by
  unfold storeLoadComplete
  split
  · rename_i hp
    refine (h.loaded hp).same ?_ ?_ (.inl ?_) <;> simp only [offerInvalid_frame] <;> rfl
  all_goals exact h

theorem recordLaw_kept : Kept RecordLaw := by
  have hr : ∀ {s}, RecordLaw s → ∀ p c, RecordLaw (enterReset p c s) := fun h p c => recordLaw_reset h p c
  constructor
  case frameEnd => exact fun n d us s h => recordLaw_keptAtEnd.frameEnd n d us s h
  case silence =>
    intro s h
    unfold silenceTimerExpiry
    split
    · exact h.same (by simp) (by simp) (.inr (.inl (by simp)))
    · exact h
  case emptyList => exact fun tb s _ _ _ hw h => h.emptied hw
  case writeItem => exact fun w p s u _ _ hw hb hi h => h.written hw hb hi
  case bankCheckEnd =>
    refine fun s h => h.same (by simp) ?_ (.inr (.inl (by simp)))
    unfold bankCheckEnd endCheck
    repeat' split
    all_goals simp
  case startStore =>
    intro s hp _ _ hc h
    obtain ⟨h1, -, h3, -, -⟩ := h
    exact ⟨h1, fun _ e => (by cases e), h3, fun _ => hc, fun a => absurd hp a⟩
  case storeWrite => exact fun s h => storeWriteComplete_record h
  case reloadWorking =>
    intro s _ hn h
    refine h.working ?_ hn
    obtain ⟨-, -, h3, -, -⟩ := h
    unfold loadedWorking
    cases hf : s.comm.inForce with
    | none => exact commInRange_uncommissioned
    | some r => exact (h3 r hf).1
  case waitExpiry =>
    intro s h
    unfold serviceResetWaitExpiry
    split
    · exact hr h _ _
    · exact h
  case powerOn =>
    intro s h
    unfold powerOn
    repeat' split
    all_goals first | exact hr h _ _ | exact h
  case supplyLoss => exact fun s h => hr h _ _
  case pinAssert =>
    intro s h
    unfold resetPinAssert
    simp only []
    repeat' split
    all_goals first | exact hr (s := { s with pins.resetAsserted := true }) h _ _ | exact h
  case pinRelease =>
    intro s h
    obtain ⟨h1, h2, h3, h4, h5⟩ := h
    unfold resetPinRelease
    simp only []
    split
    · rename_i hp
      exact ⟨h1, h2, h3, h4, fun _ => h5 (by rw [hp]; decide)⟩
    all_goals exact ⟨h1, h2, h3, h4, h5⟩
  case loadComplete => exact fun s h => storeLoadComplete_record h
  case clearCounter => intro s n _ h; unfold clearCounter; split <;> exact h.same rfl rfl (.inr (.inl rfl))
  case overrides => exact fun o s _ h => h.same (by simp) (by simp [withOverrides]) (.inr (.inl (by simp)))
  all_goals
    intros
    rename_i h
    exact h.same (by simp) (by simp) (.inr (.inl (by simp)))

/-! ## The tables (R25, R31, R135, R136) -/

/-- Command Table and Sample Board hold what the map in force asks for, in its order. -/
def TableSound (s : State) : Prop :=
  s.cmds.entries.map Prod.fst = commandRoles s.map ∧ s.board.records.map Prod.fst = recordKeys s.map

/-- No role has two COMMAND entries in a map that has passed the checks of STORE (R23). -/
theorem commandRoles_nodup {r : CommRecord} (h : checkData r = none) : (commandRoles r.map).Nodup := by
  obtain ⟨-, hm, -⟩ := checkData_none.1 h
  obtain ⟨hp, -⟩ := entries_sound.1 (mapFault_none.1 hm)
  unfold commandRoles List.Nodup
  rw [List.pairwise_map]
  refine (hp.filter SlotEntry.isCommand).imp_of_mem ?_
  intro a e ha he hn hr
  have hk : ∀ {x}, x ∈ r.map.filter SlotEntry.isCommand → x.kind = .command := fun hx =>
    kind_eq_command.2 (List.mem_filter.1 hx).2
  exact hn.2 ⟨hr, (hk ha).trans (hk he).symm⟩

theorem map_nodup (h : RecordLaw s) : (commandRoles s.map).Nodup := by
  unfold State.map
  split
  · rename_i r hr
    obtain ⟨-, -, h3, -⟩ := h
    exact commandRoles_nodup (h3 r hr).2
  · exact List.nodup_nil

theorem tableLaw_iff : TableLaw s ↔ RecordLaw s ∧ TableSound s :=
  ⟨fun ⟨h1, h2, _, h4⟩ => ⟨h1, h2, h4⟩, fun ⟨h1, h2, h4⟩ => ⟨h1, h2, h2 ▸ map_nodup h1, h4⟩⟩

theorem TableSound.same (h : TableSound s) (hm : t.map = s.map)
    (hc : t.cmds.entries.map Prod.fst = s.cmds.entries.map Prod.fst)
    (hb : t.board.records.map Prod.fst = s.board.records.map Prod.fst) : TableSound t := by
  unfold TableSound
  rw [hm, hc, hb]
  exact h

theorem TableSound.react (h : TableSound s) (r : Refresh) (x : Reaction) : TableSound (react r x s) := by
  have hm := map_of_comm (react_comm r x s).1
  have hb := congrArg (List.map Prod.fst) (react_board_records r x s).1
  cases x with
  | commandTable => exact h.same hm (roles_of_aside (commandReaction_aside r s)) hb
  | dryerSafety => exact h.same hm (roles_of_aside (dryerReaction_aside r s)) hb
  | lineInterface => exact h.same hm (by unfold Machine.react; simp only []; split <;> simp) hb
  | _ => exact h.same hm (by simp [Machine.react]) hb

theorem tableSound_reset (p : Phase) (c : ResetCauses) (s : State) : TableSound (enterReset p c s) := ⟨rfl, rfl⟩

theorem tableSound_keptAtEnd : KeptAtEnd TableSound := by
  constructor
  case leave => exact fun _ _ _ _ _ _ _ h => h.same rfl rfl rfl
  case serviceReset => exact fun s _ => tableSound_reset _ _ _
  case react => exact fun r x s _ h => h.react r x
  case samples => exact fun r s _ h => h.same (map_of_comm (by simp)) rfl (by simp [takeSamples, derive, Function.comp_def])
  all_goals
    intros
    rename_i h
    exact h.same (map_of_comm (by simp)) (by simp) (by simp)

theorem forwardRole_roles (r : Role) (q : CommandParams) (e : CmdEntry) (w : Word) (c : CycleNo) (s : State) :
    (forwardRole r q e w c s).cmds.entries.map Prod.fst = s.cmds.entries.map Prod.fst := by
  unfold forwardRole judgeCapped
  simp only []
  repeat' split
  all_goals simp

theorem commandPassage_roles (i : Nat) (s : State) :
    (commandPassage i s).cmds.entries.map Prod.fst = s.cmds.entries.map Prod.fst := by
  have hl : (lateForward s).cmds.entries = s.cmds.entries := by
    unfold lateForward; split <;> simp
  have hp : ∀ f x (u : State), (passSlot i f x u).cmds.entries.map Prod.fst = u.cmds.entries.map Prod.fst := fun f x u => by
    unfold passSlot
    simp only []
    repeat' split
    · rfl
    · exact forwardRole_roles _ _ _ _ _ _
    · rfl
  unfold commandPassage
  repeat' split
  all_goals first | rfl | rw [hp, hl]

theorem solventEvaluationComplete_aside (n : Nat) (s : State) :
    (solventEvaluationComplete n s).cmds.aside = s.cmds.aside := by
  have hj : ∀ q p (u : State), (judgePublication q p u).cmds = u.cmds := fun q p u => by simp
  unfold solventEvaluationComplete publishSolvent
  split
  · simp only []
    split
    · rw [hj, judgePredicted_aside]; rfl
    · rw [judgePredicted_aside, hj]; rfl
  · rfl

theorem rebuildRecords_keys (m : List SlotEntry) (old : List (RecKey × BoardRec)) :
    (rebuildRecords m old).map Prod.fst = recordKeys m := by
  simp [rebuildRecords, Function.comp_def]

theorem rebuildEntries_roles (m : List SlotEntry) (old : List (Role × CmdEntry)) :
    (rebuildEntries m old).map Prod.fst = commandRoles m := by
  simp [rebuildEntries, Function.comp_def]

theorem commandsAtStore_roles (s : State) : (commandsAtStore s).cmds.entries.map Prod.fst = commandRoles s.map := by
  unfold commandsAtStore
  simp only []
  split <;> exact rebuildEntries_roles _ _

theorem storeCompletion_tables (s : State) : TableSound (storeCompletion s) := by
  have hm : (storeCompletion s).map = (bringIntoForce s).map :=
    map_of_comm (by simp [storeCompletion, flamesAtStore, boardAtStore])
  refine ⟨?_, ?_⟩ <;> rw [hm]
  · have hc : (storeCompletion s).cmds = (commandsAtStore (boardAtStore (bringIntoForce s))).cmds := by
      simp [storeCompletion, flamesAtStore]
    rw [hc, commandsAtStore_roles]
    rfl
  · have hb : (storeCompletion s).board.records = (boardAtStore (bringIntoForce s)).board.records := by
      simp [storeCompletion, flamesAtStore]
    rw [hb]
    exact rebuildRecords_keys _ _

theorem tableSound_kept : Kept TableSound := by
  have hr := tableSound_reset
  constructor
  case frameEnd => exact fun n d us s h => tableSound_keptAtEnd.frameEnd n d us s h
  case commandPassage => exact fun i s h => h.same (map_of_comm (by simp)) (commandPassage_roles i s) (by simp)
  case solvent =>
    exact fun n s h =>
      h.same (map_of_comm (by simp)) (roles_of_aside (solventEvaluationComplete_aside n s)) (by simp)
  case silence =>
    refine fun s h => h.same (map_of_comm ?_) (roles_of_aside (silenceTimerExpiry_aside s)) ?_ <;>
      unfold silenceTimerExpiry <;> split <;> simp
  case emptyList =>
    intro tb s _ _ _ _ h
    obtain ⟨_, _, e⟩ := emptyList_moves tb s
    rw [e]
    exact h.same rfl rfl rfl
  case writeItem =>
    intro w p s u _ _ _ _ hi h
    obtain ⟨_, _, rfl⟩ := writeItem_moves hi
    exact h.same rfl rfl rfl
  case acceptReset => exact fun s _ _ _ _ h => h.same (map_of_comm (by simp [acceptReset])) (by simp [acceptReset]) (by simp [acceptReset])
  case startStore => exact fun s _ _ _ _ h => h.same rfl rfl rfl
  case reloadWorking => exact fun s _ _ h => h.same rfl rfl rfl
  case storeWrite =>
    intro s h
    unfold storeWriteComplete
    split
    · exact storeCompletion_tables s
    · exact h
  case waitExpiry => exact fun s h => waitExpiry_keeps hr h
  case powerOn => exact fun s h => powerOn_keeps hr h
  case supplyLoss => exact fun s _ => hr _ _ _
  case pinAssert => exact fun s h => pinAssert_keeps hr (h.same rfl rfl rfl) h
  case pinRelease => intro s h; unfold resetPinRelease; simp only []; split <;> exact h.same rfl rfl rfl
  case loadComplete =>
    intro s h
    unfold storeLoadComplete
    split
    · refine TableSound.same (s := takeLoaded s) ⟨rebuildEntries_roles _ _, rebuildRecords_keys _ _⟩ (map_of_comm ?_) ?_ ?_ <;>
        simp only [offerInvalid_frame] <;> rfl
    all_goals exact h
  case clearCounter => intro s n _ h; unfold clearCounter; split <;> exact h.same rfl rfl rfl
  all_goals
    intros
    rename_i h
    exact h.same (map_of_comm (by simp)) (by simp) (by simp)

/-- Settles O56: a write is checked against its range as it is made, what a STORE lets through has passed the checks of
R183, and the tables are rebuilt from the map that comes into force. -/
theorem recordLawsKept : Obligations.RecordLawsKept := by
  unfold Obligations.RecordLawsKept
  refine ⟨recipeLaw_kept.step, recordLaw_kept.step, fun s t h hs => ?_⟩
  obtain ⟨h1, h2⟩ := tableLaw_iff.1 h
  exact tableLaw_iff.2 ⟨recordLaw_kept.step s t h1 hs, tableSound_kept.step s t h2 hs⟩

end Sys2Proof.Machine
end

section
/-! PROOF. Requests in general: how a row answers the request at the head, what is refused at once, and when no request
executes (sections 10.1 and 10.2). -/

namespace Sys2Proof.Machine

open Sys2Proof Sys2Proof.Machine

variable {c : Instr} {code need : Nat} {p : Place} {s t : State} {r : Reply}
  {body : Place → State → State × Reply}

/-- Settles O1: both parts are the two cases of `step` on the queue. -/
theorem stepRunsFrontCommand : Obligations.StepRunsFrontCommand := by
  unfold Obligations.StepRunsFrontCommand
  refine ⟨fun c rest s h => ?_, fun s h => ?_⟩
  · simp only [step, h]
  · simp only [step, h]

/-! ## The place of the head request (R169) -/

theorem Place.isWaiting_iff {p : Place} : p.isWaiting = true ↔ p.stage = .waiting := by
  simp [Place.isWaiting]

theorem Place.not_isWaiting {q : Place} (h : q.stage ≠ .waiting) : q.isWaiting = false := by
  simp [Place.isWaiting, h]

/-- The places ahead of the first WAITING one are passed over. -/
theorem answerHead_append {ahead behind : List Place} (hp : p.stage = .waiting)
    (h : ∀ q ∈ ahead, q.stage ≠ .waiting) :
    answerHead r (ahead ++ p :: behind) = ahead ++ answeredPlace r p :: behind := by
  induction ahead with
  | nil => simp [answerHead, Place.isWaiting_iff.2 hp, answeredPlace]
  | cons q rest ih =>
    have hq := Place.not_isWaiting (h q (by simp))
    simp [answerHead, hq, ih fun x hx => h x (by simp [hx])]

theorem find?_isWaiting_append {ahead behind : List Place} (hp : p.stage = .waiting)
    (h : ∀ q ∈ ahead, q.stage ≠ .waiting) : (ahead ++ p :: behind).find? Place.isWaiting = some p := by
  have hnone : ahead.find? Place.isWaiting = none :=
    List.find?_eq_none.2 fun q hq => by simp [Place.not_isWaiting (h q hq)]
  simp [List.find?_append, hnone, Place.isWaiting_iff.2 hp]

/-- Settles O3: the search for a WAITING place and the entry of the reply pass over the same places. -/
theorem replyEntersHeadPlace : Obligations.ReplyEntersHeadPlace := by
  unfold Obligations.ReplyEntersHeadPlace
  intro s r p ahead behind hs h hp
  refine ⟨?_, ?_⟩
  · rw [Agent.head, hs, find?_isWaiting_append hp h]
  · rw [reply, hs, answerHead_append hp h]

/-! ## The row of a request -/

/-- A request with parameters enough is answered as its body judges it. -/
theorem Executes.answers (h : Executes code need p s)
    (row : exec c s = .next (serve (isCode code) (needing need body) s)) (hb : body p s = (t, r)) :
    exec c s = .next (reply r t) := by
  rw [row, h.needing_eq, hb]

/-- The same of a row whose body judges the parameter length itself. -/
theorem Executes.answersWhole (h : Executes code need p s)
    (row : exec c s = .next (serve (isCode code) body s)) (hb : body p s = (t, r)) :
    exec c s = .next (reply r t) := by
  rw [row, h.serve_eq, hb]

/-- The row of a request that is not a window request: its body behind the check of the parameter length. -/
theorem plainRequest_row (h : plainRequest c = some (code, need)) :
    ∃ body, ∀ s, exec c s = .next (serve (isCode code) (needing need body) s) := by
  cases c <;> simp only [plainRequest, Option.some.injEq, Prod.mk.injEq, reduceCtorEq] at h <;>
    obtain ⟨rfl, rfl⟩ := h <;> exact ⟨_, fun _ => rfl⟩

theorem lengthServes_false (h : p.length < need ∨ 12 < p.length) : p.lengthServes need = false := by
  simp only [Place.lengthServes, Bool.and_eq_false_iff, decide_eq_false_iff_not]
  omega

/-- The least length that serves WRITE_NEXT is one byte, whatever item stands at the cursor. -/
theorem one_le_writeNeed (w : Option Window) : 1 ≤ writeNeed w := by
  cases w with
  | none => simp [writeNeed]
  | some w =>
    simp only [writeNeed, itemWidth, scalarWidth, recipeWidth]
    split <;> (try split) <;> (try split) <;> omega

/-- The row of a window request: a parameter length that does not serve is answered RANGE, and the window closes. -/
theorem windowRequest_row (h : windowRequest c = some (code, need)) :
    ∃ body, (∀ s, exec c s = .next (serve (isCode code) body s)) ∧
      ∀ p s, p.lengthServes need = false → body p s = (shutWindow s, plain .range) := by
  cases c <;> simp only [windowRequest, Option.some.injEq, Prod.mk.injEq, reduceCtorEq] at h <;>
    obtain ⟨rfl, rfl⟩ := h
  case openWindow => exact ⟨openWindow, fun _ => rfl, fun p s hl => needing_short _ hl⟩
  case writeNext =>
    refine ⟨writeNext, fun _ => rfl, fun p s hl => ?_⟩
    have hshort : p.lengthServes (writeNeed s.agent.window) = false := by
      have h1 := one_le_writeNeed s.agent.window
      simp only [Place.lengthServes, Bool.and_eq_false_iff, decide_eq_false_iff_not] at hl ⊢
      omega
    simp [writeNext, hshort, closeWith]
  case readNext => exact ⟨readNext, fun _ => rfl, fun p s hl => by simp [readNext, hl, closeWith]⟩
  case closeWindow => exact ⟨closeWindow, fun _ => rfl, fun p s hl => by simp [closeWindow, hl, closeWith]⟩

theorem executing_of (hrun : s.phase = .running) (hwait : s.agent.resetWait = none) : executing s = true := by
  simp [executing, hrun, hwait]

/-- Settles O4: every row refuses a length that does not serve before its body judges anything. -/
theorem requestsRefusedAtOnce : Obligations.RequestsRefusedAtOnce := by
  unfold Obligations.RequestsRefusedAtOnce
  refine ⟨fun p s hrun hwait hhead hcode => ?_, fun c code need p s hrun hwait hhead hcode hlen => ⟨fun hc => ?_, fun hc => ?_⟩⟩
  · have hout : outsideCatalogue p.code = true := by
      simp only [outsideCatalogue, Bool.or_eq_true, decide_eq_true_eq]; omega
    exact congrArg Host.Outcome.next (serve_head s (body := unknownRequest) (executing_of hrun hwait) hhead hout)
  · obtain ⟨body, hrow⟩ := plainRequest_row hc
    rw [hrow, serve_head s (executing_of hrun hwait) hhead (by simp [isCode, hcode]),
      needing_short s (lengthServes_false hlen)]
  · obtain ⟨body, hrow, hshort⟩ := windowRequest_row hc
    rw [hrow, serve_head s (executing_of hrun hwait) hhead (by simp [isCode, hcode]),
      hshort p s (lengthServes_false hlen)]
    rfl

/-- A row whose request is not at the head, or with requests suspended, does nothing (log 3). -/
theorem serve_idle {want : Nat → Bool}
    (h : executing s = false ∨ s.agent.head = none ∨ ∃ p, s.agent.head = some p ∧ want p.code = false) :
    serve want body s = s := by
  unfold serve
  obtain h | h | ⟨p, h, hw⟩ := h
  · simp [h]
  · simp [h]
  · simp [h, hw]

/-- No request is a window request and another one. -/
theorem plainRequest_none_or_windowRequest_none (c : Instr) : plainRequest c = none ∨ windowRequest c = none := by
  cases c <;> simp [plainRequest, windowRequest]

/-- Every request is the row of a code, or of the codes outside the catalogue. -/
theorem executesRequest_row (h : executesRequest c = true) :
    ∃ want body, (∀ s, exec c s = .next (serve want body s)) ∧
      ∀ code need, plainRequest c = some (code, need) ∨ windowRequest c = some (code, need) →
        want = isCode code := by
  simp only [executesRequest, Bool.or_eq_true, decide_eq_true_eq, Option.isSome_iff_exists] at h
  obtain (⟨⟨code, need⟩, hc⟩ | ⟨⟨code, need⟩, hc⟩) | rfl := h
  · obtain ⟨body, hrow⟩ := plainRequest_row hc
    refine ⟨_, _, hrow, fun code' need' h' => ?_⟩
    have hw : windowRequest c = none := (plainRequest_none_or_windowRequest_none c).resolve_left (by simp [hc])
    simp only [hc, hw, Option.some.injEq, Prod.mk.injEq, reduceCtorEq, or_false] at h'
    rw [h'.1]
  · obtain ⟨body, hrow, -⟩ := windowRequest_row hc
    refine ⟨_, _, hrow, fun code' need' h' => ?_⟩
    have hw : plainRequest c = none := (plainRequest_none_or_windowRequest_none c).resolve_right (by simp [hc])
    simp only [hc, hw, Option.some.injEq, Prod.mk.injEq, reduceCtorEq, false_or] at h'
    rw [h'.1]
  · exact ⟨_, _, fun _ => rfl, fun code need h' => by simp [plainRequest, windowRequest] at h'⟩

/-- Settles O5: a row serves its own code only, and only while requests execute. -/
theorem requestsThatDoNotExecute : Obligations.RequestsThatDoNotExecute := by
  unfold Obligations.RequestsThatDoNotExecute
  intro c s hc h
  obtain ⟨want, body, hrow, hwant⟩ := executesRequest_row hc
  rw [hrow, serve_idle]
  obtain h | h | h | ⟨p, code, need, hhead, hcode, hreq⟩ := h
  · exact .inl (by simp [executing, h])
  · exact .inl (by simp [executing, Option.isNone_eq_false_iff, Option.isSome_iff_ne_none, h])
  · exact .inr (.inl h)
  · exact .inr (.inr ⟨p, hhead, by simp [hwant code need hreq, isCode, hcode]⟩)

end Sys2Proof.Machine
end

section
/-! PROOF. The requests to the Service Agent, the Recipe Banks and the Commissioning Store, case by case in the order
of their rules; resets and the supply. -/

namespace Sys2Proof.Machine

open Sys2Proof Sys2Proof.Machine

variable {p : Place} {s : State} {b : BankNo}

/-! ## Resets (R179, R188) -/

theorem powerOn_of_unpowered (h : s.phase = .unpowered) (hpin : s.pins.resetAsserted = false) :
    powerOn s = enterReset .loading ⟨true, false, false⟩ s := by
  simp [powerOn, h, hpin]

theorem powerOn_held (h : s.phase = .unpowered) (hpin : s.pins.resetAsserted = true) :
    powerOn s = enterReset .heldByPin ⟨true, true, false⟩ s := by
  simp [powerOn, h, hpin]

theorem resetPinAssert_of_powered (h : s.phase ≠ .unpowered) (hpin : s.pins.resetAsserted = false) :
    resetPinAssert s =
      enterReset .heldByPin { s.agent.causes with pin := true } { s with pins.resetAsserted := true } := by
  cases hp : s.phase <;> simp_all [resetPinAssert]

theorem serviceResetWaitExpiry_of_some {d : Nat} (h : s.agent.resetWait = some d) :
    serviceResetWaitExpiry s =
      enterReset .loading { s.agent.causes with service := true } { s with now := max s.now d } := by
  simp [serviceResetWaitExpiry, h, serviceReset, reachDeadline]

/-! ## IDENTIFY and CLEAR_RESET_CAUSE (R178) -/

/-- The three bits of the reset cause byte. -/
theorem causeBits (x y z : Bool) :
    bit x 1 + bit y 2 + bit z 4 < 8 ∧ (bit x 1 + bit y 2 + bit z 4).testBit 0 = x
      ∧ (bit x 1 + bit y 2 + bit z 4).testBit 1 = y ∧ (bit x 1 + bit y 2 + bit z 4).testBit 2 = z := by
  revert x y z; decide

/-- Settles O6: the two requests by their bodies, the three resets by the causes each one enters with. -/
theorem identifyAndResetCause : Obligations.IdentifyAndResetCause := by
  unfold Obligations.IdentifyAndResetCause
  intro p s
  refine ⟨fun h => ?_, fun h => h.answers rfl rfl, fun hp hpin => ?_, fun hp hpin => ?_, fun d hd => ?_⟩
  · obtain ⟨hlt, h0, h1, h2⟩ := causeBits s.agent.causes.powerOn s.agent.causes.pin s.agent.causes.service
    refine ⟨_, hlt, h0, h1, h2, h.answers rfl ?_⟩
    cases hc : s.commissioned <;> simp [identify, be16, encFlag, encCauses, hc, byte]
  · exact ⟨_, congrArg Host.Outcome.next (powerOn_of_unpowered hp hpin), rfl⟩
  · exact ⟨_, congrArg Host.Outcome.next (resetPinAssert_of_powered hp hpin), rfl⟩
  · exact ⟨_, congrArg Host.Outcome.next (serviceResetWaitExpiry_of_some hd), rfl⟩

/-- Settles O39: every reset is `enterReset`, and that is the state after a power-on with what the rule lets stand. -/
theorem resetsAndSupply : Obligations.ResetsAndSupply := by
  unfold Obligations.ResetsAndSupply
  intro s fresh hfresh
  have hreset : ∀ ph c u, enterReset ph c u = fresh ph c u := fun ph c u => by rw [hfresh]; rfl
  refine ⟨fun p h => ⟨fun hr => h.answers rfl ?_, fun hr => h.answers rfl ?_⟩, fun d hd => ?_, ?_,
    fun hp => ⟨fun hpin => ?_, fun hpin => ?_⟩, fun hpin hp => ?_, fun hp => ?_⟩
  · simp [resetPart, hr, refuse]
  · simp [resetPart, hr, State.after]
  · exact congrArg Host.Outcome.next ((serviceResetWaitExpiry_of_some hd).trans (hreset _ _ _))
  · exact congrArg Host.Outcome.next (hreset _ _ _)
  · exact congrArg Host.Outcome.next ((powerOn_of_unpowered hp hpin).trans (hreset _ _ _))
  · exact congrArg Host.Outcome.next ((powerOn_held hp hpin).trans (hreset _ _ _))
  · exact congrArg Host.Outcome.next ((resetPinAssert_of_powered hp hpin).trans (hreset _ _ _))
  · have hrelease : resetPinRelease s = { s with pins.resetAsserted := false, phase := .loading } := by
      simp [resetPinRelease, hp]
    exact congrArg Host.Outcome.next hrelease

/-! ## The bank a request names (R169) -/

theorem bankOf_val (b : BankNo) : bankOf b.val = some b := by simp [bankOf]

theorem bankOf_beyond {n : Nat} (h : 4 ≤ n) : bankOf n = none := by simp [bankOf]; omega

theorem BankState.isChecking_iff {x : BankState} : x.isChecking = true ↔ ∃ z c, x = .checking z c := by
  cases x <;> simp [BankState.isChecking]

theorem BankState.isPending_iff {x : BankState} : x.isPending = true ↔ ∃ m, x = .pending m := by
  cases x <;> simp [BankState.isPending]

theorem anyChecking_iff {q : Four Bank} : anyChecking q = true ↔ ∃ c, (q.get c).state.isChecking = true := by
  simp only [anyChecking, List.any_eq_true]
  exact ⟨fun ⟨c, _, h⟩ => ⟨c, h⟩, fun ⟨c, h⟩ => ⟨c, mem_bankNumbers c, h⟩⟩

/-! ## SEAL_BANK and the end of its check (R45, R47) -/

/-- Settles O12: the cases of R45 in their order. -/
theorem sealBankJudged : Obligations.SealBankJudged := by
  unfold Obligations.SealBankJudged
  intro p s h
  refine ⟨fun hb => h.answers rfl ?_, fun b hb => ⟨fun hc => h.answers rfl ?_, fun hc => ⟨fun hany => h.answers rfl ?_,
    fun hnone => ⟨fun hst => h.answers rfl ?_, fun hst => h.answers rfl ?_⟩⟩⟩⟩
  · simp [sealBank, bankOf_beyond hb, refuse]
  · simp [sealBank, hb, bankOf_val, hc, refuse]
  · simp [sealBank, hb, bankOf_val, hc, anyChecking_iff.2 hany, refuse]
  all_goals
    have hfree : anyChecking s.banks = false := by simp [anyChecking, hnone]
    simp [sealBank, hb, bankOf_val, hc, hfree, hst, refuse, startCheck, setBankState]

theorem bankCheckEnd_of_checking {zones circuits : Nat} (hb : s.agent.checking = some b)
    (hst : (s.banks.get b).state = .checking zones circuits) :
    bankCheckEnd s = endCheck b (checkOutcome b zones circuits s) s := by
  simp [bankCheckEnd, hb, hst]

/-- Settles O14: the outcome decides the state the bank is left in. -/
theorem bankCheckEnds : Obligations.BankCheckEnds := by
  unfold Obligations.BankCheckEnds
  intro s b zones circuits hb hst
  have hend := bankCheckEnd_of_checking hb hst
  refine ⟨fun hz hc => ⟨fun hpass => ?_, fun r t i hrej => ?_⟩, fun hne => ?_⟩
  · have ho : checkOutcome b zones circuits s = .passed := by simp [checkOutcome, hz, hc, hpass]
    exact congrArg Host.Outcome.next (by rw [hend, ho]; rfl)
  · have ho : checkOutcome b zones circuits s = .rejected r t i := by simp [checkOutcome, hz, hc, hrej]
    exact congrArg Host.Outcome.next (by rw [hend, ho]; rfl)
  · have ho : checkOutcome b zones circuits s = .rejected .countsChanged none none := if_neg hne
    exact congrArg Host.Outcome.next (by rw [hend, ho]; rfl)

/-! ## CLEAR_BANK and ACTIVATE_BANK (R49, R50) -/

/-- Settles O15: the bank's state alone decides. -/
theorem clearBankExecutes : Obligations.ClearBankExecutes := by
  unfold Obligations.ClearBankExecutes
  intro p s b h hb
  refine ⟨fun hst => h.answers rfl ?_, fun hst => h.answers rfl ?_, fun hst => h.answers rfl ?_⟩
  · obtain hst | hst | hst := hst <;> simp [clearBank, hb, bankOf_val, hst, Bank.cleared]
  · obtain ⟨z, c, hst⟩ := BankState.isChecking_iff.1 hst
    simp [clearBank, hb, bankOf_val, hst, refuse]
  · rw [BankState.isPending_iff] at hst
    obtain ⟨m, hst⟩ | hst := hst <;> simp [clearBank, hb, bankOf_val, hst, refuse]

theorem activationModeOf_beyond {n : Nat} (h : 3 ≤ n) : activationModeOf n = none := by
  match n, h with
  | n + 3, _ => rfl

theorem activationModeOf_isSome {n : Nat} (h : n < 3) : ∃ m, activationModeOf n = some m := by
  match n, h with
  | 0, _ => exact ⟨_, rfl⟩
  | 1, _ => exact ⟨_, rfl⟩
  | 2, _ => exact ⟨_, rfl⟩

/-- ACTIVATE_BANK of a SEALED bank. -/
theorem activateBank_sealed {m : ActivationMode} (hb : p.byteParam 0 = b.val)
    (hm : activationModeOf (p.byteParam 1) = some m) (hst : (s.banks.get b).state = .sealed) :
    activateBank p s = (activate b m s, doneWith (s.banks.get b).recipe.tag) := by
  simp [activateBank, hb, bankOf_val, hm, hst]

/-- Settles O16: bank and mode first, then the bank's state, then the mode of activation. -/
theorem activateBankExecutes : Obligations.ActivateBankExecutes := by
  unfold Obligations.ActivateBankExecutes
  intro p s h
  refine ⟨fun hr => h.answers rfl ?_, fun b hb hmode => ?_⟩
  · obtain hr | hr := hr
    · simp [activateBank, bankOf_beyond hr, refuse]
    · simp [activateBank, activationModeOf_beyond hr, refuse]
  obtain ⟨m, hm⟩ := activationModeOf_isSome hmode
  refine ⟨fun hst => h.answers rfl ?_, fun hst => h.answers rfl ?_, fun hst => ⟨fun hnow => h.answers rfl ?_,
    fun hsplice => h.answers rfl ?_, fun hstop hweb => h.answers rfl ?_⟩⟩
  · obtain ⟨z, c, hst⟩ := BankState.isChecking_iff.1 hst
    simp [activateBank, hb, bankOf_val, hm, hst, refuse]
  · rw [BankState.isPending_iff] at hst
    obtain hst | hst | ⟨_, hst⟩ | hst := hst <;> simp [activateBank, hb, bankOf_val, hm, hst, refuse]
  · obtain h0 | ⟨h2, hweb⟩ := hnow
    · exact activateBank_sealed hb (by rw [h0]; rfl) hst
    · rw [activateBank_sealed hb (by rw [h2]; rfl) hst]
      simp [activate, hweb]
  · exact activateBank_sealed hb (by rw [hsplice]; rfl) hst
  · rw [activateBank_sealed hb (by rw [hstop]; rfl) hst]
    simp [activate, hweb, enqueue, setBankState]

/-! ## STORE and RELOAD (R183, R186) -/

theorem reload_open (h : s.agent.storeRunning = false) :
    reload p s = ({ s with
      comm.working := loadedWorking s.comm.inForce
      agent.window := closeCommissioningWindow s.agent.window }, plain .done) := by
  simp [reload, h]

theorem Table.isCommissioning_iff {t : Table} : t.isCommissioning = true ↔ t = .commScalars ∨ t = .slotMap := by
  cases t <;> simp [Table.isCommissioning]

/-- RELOAD closes the window of a commissioning table. -/
theorem closeCommissioningWindow_closes {x : Window} (h : x.table = .commScalars ∨ x.table = .slotMap) :
    closeCommissioningWindow (some x) = none := by
  simp [closeCommissioningWindow, Table.isCommissioning_iff.2 h]

/-- RELOAD leaves a window on any other table open. -/
theorem closeCommissioningWindow_keeps {x : Window} (h1 : x.table ≠ .commScalars) (h2 : x.table ≠ .slotMap) :
    closeCommissioningWindow (some x) = some x := by
  have h : x.table.isCommissioning = false := by
    rw [Bool.eq_false_iff, ne_eq, Table.isCommissioning_iff]; exact not_or.2 ⟨h1, h2⟩
  simp [closeCommissioningWindow, h]

theorem readNext_closed {code : Nat} (h : Executes code 0 p s) (hw : s.agent.window = none) :
    readNext p s = (s, plain .noWindow) := by
  simp [readNext, h.serves, hw, refuse]

theorem writeNext_closed {code : Nat} (h : Executes code 1 p s) (hw : s.agent.window = none) :
    writeNext p s = (s, plain .noWindow) := by
  simp [writeNext, hw, writeNeed, h.serves, refuse]

/-- Settles O19: STORE by the cases of R183, RELOAD by what becomes of the open window. -/
theorem storeAndReloadJudged : Obligations.StoreAndReloadJudged := by
  unfold Obligations.StoreAndReloadJudged
  refine ⟨fun p s h => ⟨fun hr => h.answers rfl ?_, fun hr => ⟨fun hst => h.answers rfl ?_, fun hst =>
    ⟨fun d hd => h.answers rfl ?_, fun hd => h.answers rfl ?_⟩⟩⟩,
    fun p s h => ⟨fun hr => h.answers rfl ?_, fun hr => ⟨closeCommissioningWindow s.agent.window, ?_⟩⟩⟩
  · simp [storeRequest, hr, refuse]
  · obtain hst | hst | hst := hst <;> simp [storeRequest, hr, hst, refuse]
  · obtain hst | hst := hst <;> simp [storeRequest, hr, hst, hd]
  · obtain hst | hst := hst <;> simp [storeRequest, hr, hst, hd, startStore]
  · simp [reload, hr, refuse]
  have hload := h.answers (c := .reload) rfl (reload_open hr)
  refine ⟨?_, fun x hx ht => ?_, fun x hx h1 h2 => ?_, fun hx => by rw [hx]; rfl, fun x q u hx ht hu => ?_⟩
  · rw [hload]
    cases s.comm.inForce <;> rfl
  · rw [hx, closeCommissioningWindow_closes ht]
  · rw [hx, closeCommissioningWindow_keeps h1 h2]
  · have hclosed : u.agent.window = none := by
      rw [hload] at hu
      cases hu
      exact (congrArg closeCommissioningWindow hx).trans (closeCommissioningWindow_closes ht)
    exact ⟨fun hq => hq.answersWhole rfl (readNext_closed hq hclosed),
      fun hq => hq.answersWhole rfl (writeNext_closed hq hclosed)⟩

/-! ## The load at start (R187) -/

/-- Settles O22: a stored record is loaded or found failing. -/
theorem storeLoadCompletes : Obligations.StoreLoadCompletes := by
  unfold Obligations.StoreLoadCompletes
  intro s hp
  have hload : storeLoadComplete s = offerInvalid (openRelay (takeLoaded s)) := by simp [storeLoadComplete, hp]
  refine ⟨fun w hw => congrArg Host.Outcome.next (hload.trans ?_), fun hw => congrArg Host.Outcome.next (hload.trans ?_)⟩
  · simp only [takeLoaded, hw]; rfl
  · simp only [takeLoaded, hw]; rfl

end Sys2Proof.Machine
end

section
/-! PROOF. Offers to the Incident Log, and the events that several blocks share: the discard of the resume record, a
changeover, the onset of a safety condition, a break (sections 3.6, 6.5, 6.8, 7.4 and 9.2). -/

namespace Sys2Proof.Machine

open Sys2Proof Sys2Proof.Machine

variable {c : IncidentCode} {sub : Subject} {v : IncidentValue} {s : State} {b : BankNo} {r : ResumeRecord}

/-! ## Offers (R155 to R159) -/

theorem rateLimited_iff {l : IncidentLog} : rateLimited c l = true ↔
    (c = .frameErrors ∧ 0 < l.quietErrors) ∨ (c = .lateForward ∧ 0 < l.quietLate) := by
  cases c <;> simp [rateLimited]

/-- The count of lost and displaced records at an admission, a displacement or a loss (R158, R159). -/
theorem placeRecord_dropped (r : Incident) (s : State) : (placeRecord r s).log.dropped =
    if s.log.queue.length < queueLimit then s.log.dropped else bump32 s.log.dropped := by
  unfold placeRecord; repeat' split
  all_goals simp_all

/-- Nothing but the queue, the count of lost records and ALERT moves as a record is placed. -/
theorem placeRecord_rest (r : Incident) (s : State) : (placeRecord r s).log.nextSeq = s.log.nextSeq
    ∧ (placeRecord r s).log.quietErrors = s.log.quietErrors ∧ (placeRecord r s).log.quietLate = s.log.quietLate := by
  unfold placeRecord; repeat' split
  all_goals simp

section Passed
variable (sub : Subject) (v : IncidentValue) (h : rateLimited c s.log = false)
include h

theorem offer_nextSeq : (offer c sub v s).log.nextSeq = s.log.nextSeq + 1 := by
  rw [offer_passed s sub v h, (placeRecord_rest _ _).1]

theorem offer_queue : (offer c sub v s).log.queue =
    if s.log.queue.length < 32 then s.log.queue ++ [incidentOf c sub v s]
    else match displaced c.cls s.log.queue with
      | some d => dropOldest d s.log.queue ++ [incidentOf c sub v s]
      | none => s.log.queue := by
  rw [offer_passed s sub v h, placeRecord_queue]
  simp only [startQuiet_queue, queueLimit]
  rfl

theorem offer_dropped : (offer c sub v s).log.dropped =
    if s.log.queue.length < 32 then s.log.dropped else bump32 s.log.dropped := by
  rw [offer_passed s sub v h, placeRecord_dropped]
  simp only [startQuiet_queue, queueLimit]

theorem offer_quiet : (offer c sub v s).log.quietErrors = (startQuiet c s.log).quietErrors
    ∧ (offer c sub v s).log.quietLate = (startQuiet c s.log).quietLate := by
  rw [offer_passed s sub v h]
  exact (placeRecord_rest _ _).2

end Passed

/-- A class is displaced by none of its own rank or a lower one (R158). -/
theorem displaced_eq_none {k : IncidentClass} {q : List Incident} (h : ∀ x ∈ q, k.rank ≤ x.code.cls.rank) :
    displaced k q = none := by
  have hfree : ∀ d : IncidentClass, d.rank < k.rank → holdsClass d q = false := fun d hd => by
    simp only [holdsClass, List.any_eq_false, decide_eq_true_eq]
    intro x hx hxd
    have hle := h x hx
    rw [hxd] at hle
    omega
  cases k with
  | advisory => rfl
  | process => simp [displaced, hfree .advisory (by decide)]
  | safety => simp [displaced, hfree .advisory (by decide), hfree .process (by decide)]

/-- The lowest class held, when it is below the class offered, is the one displaced (R158). -/
theorem displaced_eq_some {k d : IncidentClass} {q : List Incident} (hd : holdsClass d q = true)
    (hlt : d.rank < k.rank) (h : ∀ x ∈ q, d.rank ≤ x.code.cls.rank) : displaced k q = some d := by
  have hfree : ∀ e : IncidentClass, e.rank < d.rank → holdsClass e q = false := fun e he => by
    simp only [holdsClass, List.any_eq_false, decide_eq_true_eq]
    intro x hx hxe
    have hle := h x hx
    rw [hxe] at hle
    omega
  cases k <;> cases d <;> simp only [IncidentClass.rank] at hlt <;> try omega
  case process.advisory => simp [displaced, hd]
  case safety.advisory => simp [displaced, hd]
  case safety.process => simp [displaced, hd, hfree .advisory (by decide)]

/-- The oldest record of a class is the first one of that class. -/
theorem dropOldest_append {d : IncidentClass} {before after : List Incident} {x : Incident} (hx : x.code.cls = d)
    (h : ∀ y ∈ before, y.code.cls ≠ d) : dropOldest d (before ++ x :: after) = before ++ after := by
  induction before with
  | nil => simp [dropOldest, hx]
  | cons y rest ih =>
    simp [dropOldest, h y (by simp), ih fun z hz => h z (by simp [hz])]

/-- Settles O35: the rate limit, then the three cases of admission. -/
theorem offerAdmitted : Obligations.OfferAdmitted := by
  unfold Obligations.OfferAdmitted
  refine ⟨fun c sub v s t r ht hr => ⟨fun hl => ?_, fun h1 h2 => ?_, ?_⟩, fun r s => rfl⟩
  · rw [ht, offer_limited s sub v (rateLimited_iff.2 hl)]
  · have hpass : rateLimited c s.log = false := by
      rw [Bool.eq_false_iff, ne_eq, rateLimited_iff]; exact not_or.2 ⟨h1, h2⟩
    have hrec : r = incidentOf c sub v s := hr
    have hqueue := offer_queue sub v hpass
    have hdropped := offer_dropped sub v hpass
    rw [← ht] at hqueue hdropped
    rw [← hrec] at hqueue
    refine ⟨by rw [ht, offer_nextSeq sub v hpass], fun hc => ?_, fun hc => ?_, fun hlen => ?_, fun hlen => ⟨?_, fun hlow => ?_,
      fun d before after x hq hx hbefore hlt hd => ?_⟩⟩
    · rw [ht, (offer_quiet sub v hpass).1, hc]; rfl
    · rw [ht, (offer_quiet sub v hpass).2, hc]; rfl
    · rw [hqueue, hdropped, if_pos hlen, if_pos hlen]; exact ⟨rfl, rfl⟩
    · rw [hdropped, if_neg (by omega)]; rfl
    · rw [hqueue, if_neg (by omega), displaced_eq_none hlow]
    · have hheld : holdsClass d s.log.queue = true := by simp [holdsClass, hq, hx]
      rw [hqueue, if_neg (by omega), displaced_eq_some hheld hlt hd]
      simp [hq, dropOldest_append hx hbefore]
  · rw [ht, offer_eq_log]

/-! ## The resume record (R107) -/

/-- The web as a discard leaves it. -/
def withoutRecord (w : WebSeq) : WebSeq :=
  { w with
    record := none
    state := if w.state = .resuming then .threading else w.state
    timer := if w.state = .resuming then none else w.timer }

/-- A discard takes the record away and reports its bank and the cause. -/
theorem discardResume_some (k : DiscardCause) (h : s.web.record = some r) : discardResume k s =
    offer .resumeDiscarded (.bank r.bank) (.cause k) { s with web := withoutRecord s.web } := by
  unfold discardResume withoutRecord
  rw [h]
  by_cases hs : s.web.state = .resuming <;> simp [hs]

theorem discardResume_moves (k : DiscardCause) (s : State) :
    { discardResume k s with web := s.web, log := s.log } = s := by
  cases h : s.web.record with
  | none => rw [discardResume_none s k h]
  | some r => rw [discardResume_some k h, offer_eq_log]

/-! ## A changeover (R53, R113) -/

@[simp] theorem setBankState_lastCheck (q : Four Bank) (b x : BankNo) (st : BankState) :
    ((setBankState q b st).get x).lastCheck = (q.get x).lastCheck := by
  simp only [setBankState, Four.get_set]; split <;> simp [*]

theorem changeoverBanks_content (b x : BankNo) (q : Four Bank) :
    ((changeoverBanks b q).get x).recipe = (q.get x).recipe
      ∧ ((changeoverBanks b q).get x).lastCheck = (q.get x).lastCheck := by
  unfold changeoverBanks
  split <;> simp

/-- The state in which the Web Sequencer is notified of a changeover. -/
def changedOver (b : BankNo) (s : State) : State :=
  offer .bankActivated (.bank b) (bankValue (activeBank s.banks)) { s with banks := changeoverBanks b s.banks }

theorem changedOver_web (b : BankNo) (s : State) : (changedOver b s).web = s.web := by simp [changedOver]

/-- With no resume record of another bank a changeover is no more than its banks and its report. -/
theorem changeover_same (h : ∀ r, s.web.record = some r → r.bank = b) : changeover b s = changedOver b s := by
  have hweb := changedOver_web b s
  unfold changeover notifyChangeover
  rw [← changedOver, hweb]
  cases hr : s.web.record with
  | none => rfl
  | some r => simp [h r hr]

/-- A resume record of another bank is discarded as the web is notified. -/
theorem changeover_other (h : s.web.record = some r) (hr : r.bank ≠ b) :
    changeover b s = discardResume .changeover (changedOver b s) := by
  have hweb := changedOver_web b s
  unfold changeover notifyChangeover
  rw [← changedOver, hweb, h]
  simp [hr]

theorem changeover_moves (b : BankNo) (s : State) :
    { changeover b s with banks := s.banks, web := s.web, log := s.log } = s := by
  have hmid : { changedOver b s with banks := s.banks, web := s.web, log := s.log } = s := by
    rw [changedOver, offer_eq_log]
  by_cases h : ∀ r, s.web.record = some r → r.bank = b
  · rw [changeover_same h, hmid]
  · simp only [Classical.not_forall] at h
    obtain ⟨r, hr, hb⟩ := h
    rw [changeover_other hr hb]
    have hdiscard := discardResume_moves .changeover (changedOver b s)
    have hagain := congrArg (fun t : State => ({ t with banks := s.banks, web := s.web, log := s.log } : State)) hdiscard
    exact hagain.trans hmid

theorem bankValue_eq (o : Option BankNo) : bankValue o = o.elim .absent fun a => .num (a.val : Int) := by
  cases o <;> rfl

/-- Settles O18: the banks by the rule, the web and the records by whether a record of another bank stands. -/
theorem changeoverEffect : Obligations.ChangeoverEffect := by
  unfold Obligations.ChangeoverEffect
  intro b s
  refine ⟨fun x => ?_, fun x => ?_, fun h => ⟨?_, fun hlen => ?_⟩, fun r h hr => ⟨?_, ?_⟩, changeover_moves b s⟩
  · rw [changeover_banks, changeoverBanks_get]
  · rw [changeover_banks]; exact changeoverBanks_content b x s.banks
  · rw [changeover_same h, changedOver_web]
  · have hqueue := (offer_room { s with banks := changeoverBanks b s.banks } (c := .bankActivated) (.bank b)
      (bankValue (activeBank s.banks)) rfl hlen).1
    rw [changeover_same h, changedOver, hqueue, bankValue_eq]
    rfl
  · rw [changeover_other h hr, discardResume_some .changeover (by rw [changedOver_web, h]), changedOver_web]
    simp only [offer_frame]
    rfl
  · rw [changeover_other h hr, discardResume_some .changeover (by rw [changedOver_web, h]),
      offer_nextSeq _ _ rfl]
    have hfirst : (changedOver b s).log.nextSeq = s.log.nextSeq + 1 := offer_nextSeq _ _ rfl
    simp only [hfirst, BitVec.add_assoc]
    rfl

/-! ## The onset of a safety condition (R126, R127) -/

theorem SafetyCondition.code_unlimited (k : SafetyCondition) (l : IncidentLog) : rateLimited k.code l = false := by
  cases k <;> rfl

theorem SafetyCondition.code_safety (k : SafetyCondition) : k.code.cls = .safety := by cases k <;> rfl

theorem numValue_eq (o : Option Int) : numValue o = o.elim .absent .num := by cases o <;> rfl

/-- An onset out of TRIPPED moves the dryer, the released flags, the resume record and the log alone. -/
theorem onset_moves (k : SafetyCondition) (sub : Subject) (n : Option Int) (s : State) :
    { onset k sub n s with dryer := s.dryer, cmds := s.cmds, web := s.web, log := s.log } = s := by
  have hoffer : ∀ t : State, { offer k.code sub (numValue n) t with
      dryer := s.dryer, cmds := s.cmds, web := s.web, log := s.log }
        = { t with dryer := s.dryer, cmds := s.cmds, web := s.web, log := s.log } := fun t => by rw [offer_eq_log]
  unfold onset
  split
  · exact hoffer _
  · refine (hoffer _).trans ?_
    unfold setDryer
    split
    · have h := discardResume_moves .dryer { s with dryer.state := .tripped, dryer.permit := DryerState.tripped.burning }
      exact congrArg (fun t : State => { t with dryer := s.dryer, cmds := s.cmds, web := s.web, log := s.log }) h
    · rfl

/-- The state in which the report of a trip is offered. -/
def trippedAt (k : SafetyCondition) (sub : Subject) (n : Option Int) (s : State) : State :=
  { setDryer .tripped s with dryer := fillCapture (captureOf k sub n s) { (setDryer .tripped s).dryer with hold := none } }

theorem onset_of_untripped (k : SafetyCondition) (sub : Subject) (n : Option Int) (h : s.dryer.state ≠ .tripped) :
    onset k sub n s = { offer k.code sub (numValue n) (trippedAt k sub n s) with
      cmds := clearReleased (offer k.code sub (numValue n) (trippedAt k sub n s)).cmds } :=
  if_neg h

theorem onset_of_tripped (k : SafetyCondition) (sub : Subject) (n : Option Int) (h : s.dryer.state = .tripped) :
    onset k sub n s =
      offer k.code sub (numValue n) { s with dryer.furtherTrips := satAdd 65535 s.dryer.furtherTrips 1 } :=
  if_pos h

theorem fillCapture_state (x : Capture) (d : DryerUnit) : (fillCapture x d).state = d.state := by
  unfold fillCapture; split <;> rfl

theorem trippedAt_state (k : SafetyCondition) (sub : Subject) (n : Option Int) (s : State) :
    (trippedAt k sub n s).dryer.state = .tripped := by
  rw [trippedAt, fillCapture_state, setDryer_dryer]

theorem announced_tripped (d : DryerState) : announced d .tripped = d.burning := by
  simp [announced]

/-- A trip that finds no resume record to discard. -/
theorem setDryer_tripped_plain (h : s.dryer.state.burning = false ∨ s.web.record = none) :
    setDryer .tripped s = { s with dryer.state := .tripped, dryer.permit := false } := by
  by_cases hb : s.dryer.state.burning = true
  · rw [setDryer_announced s (by rw [announced_tripped, hb])]
    exact discardResume_none _ _ (h.resolve_left (by simp [hb]))
  · rw [setDryer_silent s (by rw [announced_tripped]; simpa using hb)]
    rfl

/-- A trip out of PURGED or FIRING discards the resume record. -/
theorem setDryer_tripped_discard (hb : s.dryer.state.burning = true) (hr : s.web.record = some r) :
    setDryer .tripped s = offer .resumeDiscarded (.bank r.bank) (.cause .dryer)
      { s with dryer.state := .tripped, dryer.permit := false, web := withoutRecord s.web } := by
  rw [setDryer_announced s (by rw [announced_tripped, hb])]
  exact discardResume_some (s := { s with dryer.state := .tripped, dryer.permit := DryerState.tripped.burning }) .dryer hr

theorem fillCapture_eq (x : Capture) (d : DryerUnit) : fillCapture x d = { d with
    capture := some (d.capture.getD x)
    furtherTrips := if d.capture.isSome then min 65535 (d.furtherTrips + 1) else d.furtherTrips } := by
  unfold fillCapture
  split <;> simp [*, satAdd]

theorem onset_web (k : SafetyCondition) (sub : Subject) (n : Option Int) (h : s.dryer.state ≠ .tripped) :
    (onset k sub n s).web = (setDryer .tripped s).web := by
  rw [onset_of_untripped k sub n h]
  simp [trippedAt]

/-- Settles O25: TRIPPED or not, and out of PURGED and FIRING with or without a record to discard. -/
theorem onsetTrips : Obligations.OnsetTrips := by
  unfold Obligations.OnsetTrips
  intro k sub n s report web hreport hweb
  have hcode : report.code = k.code := by rw [hreport]
  have hvalue : report.value = numValue n := by rw [hreport, numValue_eq]
  refine ⟨fun h => ⟨?_, ?_, fun hb => ?_⟩, fun h => ⟨?_, ?_, ?_⟩, onset_moves k sub n s, ?_, fun h => ?_,
    fun r hb hr => ?_⟩
  · rw [onset_dryer s k sub n h, fillCapture_eq]
    rfl
  · rw [onset_of_untripped k sub n h]
    simp [trippedAt, clearReleased]
  · rw [onset_web k sub n h, setDryer_announced s (by rw [announced_tripped, hb]), discardResume_web]
    split
    · split <;> rfl
    · simp_all
  · rw [onset_dryer_tripped s k sub n h]; rfl
  · rw [onset_of_tripped k sub n h]; simp
  · rw [onset_of_tripped k sub n h]; simp
  · rw [hcode, k.code_safety]
  · have hlog : (onset k sub n s).log = (offer k.code sub report.value { s with dryer.state := .tripped }).log := by
      rw [hvalue]
      by_cases ht : s.dryer.state = .tripped
      · rw [onset_of_tripped k sub n ht]
        exact offer_log_congr _ _ _ rfl rfl rfl ht rfl rfl
      · rw [onset_of_untripped k sub n ht, trippedAt, setDryer_tripped_plain (h.resolve_left ht)]
        exact offer_log_congr _ _ _ rfl rfl rfl (fillCapture_state _ _) rfl rfl
    refine ⟨hlog, fun hlen => ?_⟩
    rw [hlog, (offer_room { s with dryer.state := .tripped } sub report.value (k.code_unlimited _) hlen).1, hreport]
    rfl
  · have ht : s.dryer.state ≠ .tripped := fun h => by simp [h, DryerState.burning] at hb
    have hset := setDryer_tripped_discard hb hr
    refine ⟨?_, fun hlen => ?_⟩
    · rw [onset_web k sub n ht, hset, hweb]; simp only [offer_frame]; rfl
    · have hfirst := offer_room { s with dryer.state := .tripped, dryer.permit := false, web := withoutRecord s.web }
        (c := .resumeDiscarded) (.bank r.bank) (.cause .dryer) rfl (by simpa using Nat.lt_succ_of_lt hlen)
      rw [← hset] at hfirst
      have hmid : (trippedAt k sub n s).log.queue = (setDryer .tripped s).log.queue := rfl
      have hsecond := (offer_room (trippedAt k sub n s) sub (numValue n) (k.code_unlimited _)
        (by rw [hmid, hfirst.1, List.length_append]; exact Nat.succ_lt_succ hlen)).1
      have hlast : incidentOf k.code sub (numValue n) (trippedAt k sub n s) =
          { report with seq := s.log.nextSeq + 1, web := web } := by
        have hseq : (trippedAt k sub n s).log.nextSeq = s.log.nextSeq + 1 := hfirst.2
        have hwebT : (trippedAt k sub n s).web = (setDryer .tripped s).web := rfl
        have hline : (trippedAt k sub n s).line = s.line := by simp [trippedAt]
        rw [incidentOf, hseq, hwebT, hline, trippedAt_state, hset, hreport, hweb, numValue_eq]
        simp only [offer_frame]
        rfl
      rw [onset_of_untripped k sub n ht]
      rw [hsecond, hmid, hfirst.1, hlast, hreport, hweb, List.append_assoc]
      rfl

end Sys2Proof.Machine
end

section
/-! PROOF. The expiries of the hold, resume and silence timers, and breaks as they are taken (sections 1.8, 6.4 to 6.9
and 7.5). -/

namespace Sys2Proof.Machine

open Sys2Proof Sys2Proof.Machine

variable {s : State} {r : ResumeRecord} {src : BreakSource} {l : Level} {d : Nat}

/-! ## The hold and resume timers (R109, R131) -/

theorem purgeHoldExpiry_of_purged (hst : s.dryer.state = .purged) (hh : s.dryer.hold = some d) :
    purgeHoldExpiry s = offer .purgeExpired .none .absent (setDryer .unpurged
      { s with now := max s.now d, dryer.hold := none }) := by
  simp [purgeHoldExpiry, hst, hh, reachDeadline]

theorem resumeExpiry_of_some (hst : s.web.state = .resuming) (hr : s.web.record = some r) :
    resumeExpiry s = offer .resumeDiscarded (.bank r.bank) (.cause .timeout)
      { s with web := { s.web with state := .threading, timer := none, record := none } } := by
  have hweb : withoutRecord s.web = { s.web with state := .threading, timer := none, record := none } := by
    simp [withoutRecord, hst]
  rw [resumeExpiry, discardResume_some .timeout hr, hweb, offer_eq_log]

/-- Settles O26: the hold timer by the change of the dryer state it makes, the resume timer by its count. -/
theorem holdAndResumeExpire : Obligations.HoldAndResumeExpire := by
  unfold Obligations.HoldAndResumeExpire
  refine fun s => ⟨fun d hst hh => congrArg Host.Outcome.next ?_, fun r hst ht hr => congrArg Host.Outcome.next ?_,
    fun n hst ht hn => congrArg Host.Outcome.next ?_⟩
  · rw [purgeHoldExpiry_of_purged hst hh, setDryer_announced _ (by simp [announced, hst, DryerState.burning])]
    rfl
  · rw [resumeTimerExpiry, if_pos ⟨hst, ht⟩, resumeExpiry_of_some hst hr]
  · rw [resumeTimerExpiry, if_neg (by simp [ht]; omega)]

/-! ## The silence timer (R15, R125) -/

/-- The line as SILENT leaves it, with the time base at the deadline. -/
def fallenSilent (d : Nat) (s : State) : State :=
  { s with
    now := max s.now d
    line := { s.line with state := .silent, syncCount := 0, remembered := [], silence := none } }

theorem silenceTimerExpiry_of_some (h : s.line.silence = some d) :
    silenceTimerExpiry s = silentEntry (fallenSilent d s) := by
  simp [silenceTimerExpiry, h, enterSilent, reachDeadline, fallenSilent]

theorem silentEntry_of_burning (hb : s.dryer.state.burning = true) (hl : s.dryer.lineSilent = false) :
    silentEntry s = onset .lineSilent .none none { s with dryer.lineSilent := true } := by
  obtain hst | hst := DryerState.burning_iff.1 hb <;> simp [silentEntry, hst, hl]

theorem silentEntry_of_purging (hst : s.dryer.state = .purging) : silentEntry s = { s with
    dryer.state := .unpurged, dryer.permit := false, dryer.accumulator := 0, dryer.remainder := 0 } := by
  simp only [silentEntry, hst]
  rw [setDryer_silent s (by simp [announced, hst, DryerState.burning])]
  rfl

theorem silentEntry_idle (h : s.dryer.state = .unpurged ∨ s.dryer.state = .tripped) : silentEntry s = s := by
  obtain h | h := h <;> simp [silentEntry, h]

/-- A trip out of PURGED or FIRING leaves no resume record. -/
theorem onset_record (k : SafetyCondition) (sub : Subject) (n : Option Int) (hb : s.dryer.state.burning = true) :
    (onset k sub n s).web.record = none := by
  have h : s.dryer.state ≠ .tripped := fun e => by simp [e, DryerState.burning] at hb
  rw [onset_web k sub n h, setDryer_announced s (by rw [announced_tripped, hb]), discardResume_web]
  split
  · split <;> rfl
  · simp_all

/-- A trip clears every released flag. -/
theorem onset_released (k : SafetyCondition) (sub : Subject) (n : Option Int) (h : s.dryer.state ≠ .tripped)
    (p : Role × CmdEntry) (hp : p ∈ (onset k sub n s).cmds.entries) : p.2.released = false := by
  rw [onset_of_untripped k sub n h] at hp
  simp only [clearReleased, List.mem_map] at hp
  obtain ⟨q, _, rfl⟩ := hp
  rfl

/-- Settles O27: the line falls silent, and then the dryer's state decides. -/
theorem silenceExpires : Obligations.SilenceExpires := by
  unfold Obligations.SilenceExpires
  intro s d h
  refine ⟨silentEntry (fallenSilent d s), congrArg Host.Outcome.next (silenceTimerExpiry_of_some h), ?_, ?_,
    fun hst => ?_, fun hst => ?_, fun hb hl => ?_⟩
  · simp only [silentEntry_frame]; rfl
  · simp only [silentEntry_frame]; rfl
  · rw [silentEntry_idle (s := fallenSilent d s) hst]; rfl
  · rw [silentEntry_of_purging (s := fallenSilent d s) hst]; rfl
  · have hst : s.dryer.state ≠ .tripped := fun e => by simp [e, DryerState.burning] at hb
    rw [silentEntry_of_burning (s := fallenSilent d s) hb hl]
    have hdryer := onset_dryer { fallenSilent d s with dryer.lineSilent := true } .lineSilent .none none hst
    rw [fillCapture_eq] at hdryer
    refine ⟨by rw [hdryer], by rw [hdryer], by rw [hdryer], by rw [hdryer], onset_record _ _ _ hb,
      onset_released _ _ _ hst, fun hc => ?_⟩
    rw [hdryer]
    exact ⟨captureOf .lineSilent .none none { fallenSilent d s with dryer.lineSilent := true },
      by rw [show (fallenSilent d s).dryer.capture = none from hc]; rfl, rfl, rfl, rfl, rfl⟩

/-! ## BREAK_IN (R97, R98) -/

theorem isEdge_iff {x : Scalars} (hx : s.scalars? = some x) : isEdge l s = true ↔
    x.pinMode = .edge ∧ l = x.pinLevel ∧ s.web.reference ≠ x.pinLevel := by
  simp [isEdge, hx, and_assoc]

/-- A change that makes no edge only moves the reference. -/
theorem breakInChange_plain (hrun : s.phase = .running) (h : isEdge l s = false) :
    breakInChange l s = { s with pins.breakIn := l, web.reference := l } := by
  simp [breakInChange, hrun, h]

theorem breakInChange_edge (hrun : s.phase = .running) (h : isEdge l s = true) :
    breakInChange l s =
      if s.line.state = .online then takeEdge { s with pins.breakIn := l, web.reference := l }
      else { s with pins.breakIn := l, web.reference := l, web.latch := true } := by
  simp [breakInChange, hrun, h]

/-! ## Break entry (R102 to R104) -/

theorem offerSecond_idle {w : WebState} (h : w ≠ .resuming) : offerSecond w src s = s := by
  cases w <;> simp_all [offerSecond]

theorem breakEntry_web (src : BreakSource) (s : State) : (breakEntry src s).web = breakWeb src s := by
  simp [breakEntry]

/-- A break out of THREADING or RUNNING reports WEB_BREAK alone. -/
theorem breakEntry_first (h : s.web.state ≠ .resuming) : breakEntry src s =
    offer .webBreak src.subject (.num (s.board.actual : Int)) { s with web := breakWeb src s } :=
  offerSecond_idle h

/-- A break out of RESUMING reports SECOND_BREAK after it. -/
theorem breakEntry_second (h : s.web.state = .resuming) (hr : s.web.record = some r) : breakEntry src s =
    offer .secondBreak src.subject (.num (min 255 (r.second + 1) : Nat))
      (offer .webBreak src.subject (.num (s.board.actual : Int)) { s with web := breakWeb src s }) := by
  have hrec : (breakWeb src s).record = some { r with second := min 255 (r.second + 1) } := by
    simp [breakWeb, recordAtBreak, h, hr, satAdd]
  simp only [breakEntry, offerSecond, h, offer_frame, hrec]

theorem breakEntry_moves (src : BreakSource) (s : State) :
    { breakEntry src s with web := s.web, log := s.log } = s := by
  unfold breakEntry offerSecond
  dsimp only
  split
  · simp only [offer_frame]
  · simp only [offer_frame]

theorem BreakSource.subject_eq {sub : Subject}
    (h : src = .breakIn ∧ sub = .breakIn ∨ src = .lineBreak ∧ sub = .role .lineBreak
      ∨ ∃ b, src = .sensor b ∧ sub = .role (.breakSensor b)) : src.subject = sub := by
  obtain ⟨rfl, rfl⟩ | ⟨rfl, rfl⟩ | ⟨b, rfl, rfl⟩ := h <;> rfl

theorem breakDwell_eq (s : State) :
    s.breakDwell = ((activeBank s.banks).map fun b => (s.banks.get b).recipe.dwell).getD 0 := by
  unfold State.breakDwell State.activeRecipe
  cases activeBank s.banks <;> rfl

/-- Settles O29: the pin by whether the change is an edge, a break entry by the state it leaves. -/
theorem breaksTaken : Obligations.BreaksTaken := by
  unfold Obligations.BreaksTaken
  refine ⟨fun l s => ⟨fun hrun => congrArg Host.Outcome.next ?_, fun hrun => ⟨fun hx => congrArg Host.Outcome.next ?_,
    fun x hx => ⟨fun hno => congrArg Host.Outcome.next ?_, fun hmode hlevel href => ?_⟩⟩⟩,
    fun src sub s report hsrc hreport hst hres => ?_⟩
  · simp [breakInChange, hrun]
  · exact breakInChange_plain hrun (by simp [isEdge, hx])
  · refine breakInChange_plain hrun ?_
    rw [Bool.eq_false_iff, ne_eq, isEdge_iff hx]
    rintro ⟨hmode, hlevel, href⟩
    obtain h | h | h := hno
    · rw [h] at hmode; exact absurd hmode (by decide)
    · exact h hlevel
    · exact href h
  · have hedge := breakInChange_edge hrun ((isEdge_iff hx).2 ⟨hmode, hlevel, href⟩)
    refine ⟨fun hline => congrArg Host.Outcome.next ?_, fun hline hweb => congrArg Host.Outcome.next ?_,
      fun hline hweb => congrArg Host.Outcome.next ?_⟩
    · rw [hedge, if_neg hline]
    · rw [hedge, if_pos hline]
      obtain hweb | hweb := hweb <;> simp [takeEdge, hweb, bump32, satAdd, top32]
    · rw [hedge, if_pos hline]
      obtain hweb | hweb | hweb := hweb <;> simp [takeEdge, hweb]
  · have hsub := BreakSource.subject_eq hsrc
    have hrecord : incidentOf .webBreak sub (.num (s.board.actual : Int)) { s with web := breakWeb src s } = report := by
      rw [hreport]; rfl
    have hvalue : report.value = .num (s.board.actual : Int) := by rw [hreport]
    rw [breakEntry_web]
    refine ⟨rfl, rfl, breakDwell_eq s, rfl, fun h => ⟨?_, ?_⟩, fun h => ?_, fun b h hb hburn => ?_, fun h hno => ?_, ?_,
      fun h => ?_, fun r h hr => ?_, breakEntry_moves src s⟩
    · simp [breakWeb, h]
    · simp [breakWeb, recordAtBreak, h, satAdd]
    · simp [breakWeb, recordAtBreak, h]
    · simp only [breakWeb, recordAtBreak, h, hb, hburn, if_true]; rfl
    · obtain hno | hno := hno
      · simp [breakWeb, recordAtBreak, h, hno]
      · cases hb : activeBank s.banks <;> simp [breakWeb, recordAtBreak, h, hb, hno]
    · by_cases h : s.web.state = .resuming
      · obtain ⟨r, hr⟩ := Option.isSome_iff_exists.1 (hres h)
        rw [breakEntry_second h hr, offer_nextSeq _ _ rfl, offer_nextSeq _ _ rfl, if_pos h]
        simp only [BitVec.add_assoc]
        rfl
      · rw [breakEntry_first h, offer_nextSeq _ _ rfl, if_neg h]
    · have hnot : s.web.state ≠ .resuming := by obtain h | h := h <;> simp [h]
      rw [breakEntry_first hnot, hsub, hvalue]
      refine ⟨rfl, fun hlen => ?_⟩
      rw [(offer_room { s with web := breakWeb src s } sub _ rfl hlen).1, hrecord]
    · rw [breakEntry_second h hr, hsub, hvalue]
      refine ⟨rfl, fun hlen => ?_⟩
      have hfirst := offer_room { s with web := breakWeb src s } (c := .webBreak) sub (.num (s.board.actual : Int)) rfl
        (Nat.lt_succ_of_lt hlen)
      rw [(offer_room _ sub _ rfl (by rw [hfirst.1, List.length_append]; exact Nat.succ_lt_succ hlen)).1, hfirst.1,
        hrecord, incidentOf, hfirst.2, List.append_assoc, hreport]
      simp only [offer_frame]
      rfl

end Sys2Proof.Machine
end

section
/-! PROOF. The requests to the Dryer Safety Unit, the Web Sequencer, the Command Table, the Incident Log and the Service
Agent, case by case in the order of their rules (sections 6.8, 6.10, 7.5, 7.7, 8.3, 8.9, 9.4, 10.6 and 10.7). -/

namespace Sys2Proof.Machine

open Sys2Proof Sys2Proof.Machine

variable {p : Place} {s : State} {k : Zone}

/-! ## START_PURGE and ABORT_PURGE (R128, R130) -/

/-- Settles O23: the cases of R128 in their order, and the state that ABORT_PURGE needs. -/
theorem purgeRequests : Obligations.PurgeRequests := by
  unfold Obligations.PurgeRequests
  refine fun p s => ⟨fun h => ⟨fun hc => h.answers rfl ?_, fun hc hr => h.answers rfl ?_, fun hc hr =>
    ⟨fun hno => h.answers rfl ?_, fun hst hline => h.answers rfl ?_⟩⟩,
    fun h => ⟨fun hst => h.answers rfl ?_, fun hst => h.answers rfl ?_⟩⟩
  · simp [startPurge, hc, refuse]
  · simp [startPurge, hc, hr, refuse]
  · by_cases hst : s.dryer.state = .unpurged
    · simp [startPurge, hc, hr, hst, hno.resolve_left (Classical.not_not.2 hst), refuse]
    · simp [startPurge, hc, hr, hst, refuse]
  · have hset := setDryer_silent s (d := .purging) (by simp [announced, hst, DryerState.burning])
    simp [startPurge, hc, hr, hst, hline, hset, DryerState.burning]
  · have hset := setDryer_silent s (d := .unpurged) (by simp [announced, hst, DryerState.burning])
    simp [abortPurge, hst, hset, DryerState.burning]
  · simp [abortPurge, hst, refuse]

/-! ## RESET_TRIP and READ_TRIP_CAPTURE (R133) -/

/-- The zones are searched from the lowest. -/
theorem flameZones_sorted (s : State) : s.flameZones.Pairwise (· < ·) := by
  have h : zoneNumbers.Pairwise (· < ·) := by decide
  exact (h.filter _).filter _

/-- A search of a rising list finds the least member that has the property. -/
theorem find?_of_sorted {l : List Zone} {f : Zone → Bool} (hl : l.Pairwise (· < ·)) (hk : k ∈ l) (hf : f k = true)
    (hless : ∀ j ∈ l, j < k → f j = false) : l.find? f = some k := by
  obtain ⟨ahead, behind, rfl⟩ := List.append_of_mem hk
  rw [List.find?_eq_some_iff_append]
  refine ⟨hf, ahead, behind, rfl, fun j hj => ?_⟩
  have hjk : j < k := (List.pairwise_append.1 hl).2.2 j hj k (by simp)
  simp [hless j (by simp [hj]) hjk]

theorem litZone_some (hk : k ∈ s.flameZones) (hlit : s.board.fresh (.zoneFlame k) ≠ some 0)
    (hless : ∀ j ∈ s.flameZones, j < k → s.board.fresh (.zoneFlame j) = some 0) : litZone s = some k :=
  find?_of_sorted (flameZones_sorted s) hk (by simp [hlit]) fun j hj hjk => by simp [hless j hj hjk]

theorem litZone_none (h : ∀ k ∈ s.flameZones, s.board.fresh (.zoneFlame k) = some 0) : litZone s = none :=
  List.find?_eq_none.2 fun k hk => by simp [h k hk]

theorem captureValue_eq (o : Option Capture) :
    captureValue o = o.elim .absent fun x => .condition x.condition := by
  cases o <;> rfl

theorem acceptReset_of_tripped (h : s.dryer.state = .tripped) : acceptReset s =
    offer .tripReset .none (s.dryer.capture.elim .absent fun x => .condition x.condition)
      { s with dryer := { s.dryer with
        state := .unpurged
        permit := false
        capture := none
        furtherTrips := 0
        lelPredicted := { s.dryer.lelPredicted with count := 0 }
        exhaustLow := { s.dryer.exhaustLow with count := 0 }
        flame := Four.ofFn fun k => { s.dryer.flame.get k with count := 0 } } } := by
  have hset := setDryer_silent s (d := .unpurged) (by simp [announced, h, DryerState.burning])
  rw [acceptReset, hset, captureValue_eq]
  rfl

theorem resetTrip_of_none (h : s.dryer.state = .tripped) (hnone : firstActive s.dryer = none) :
    resetTrip p s = match litZone s with
      | some k => (s, resetRefusal none (some (.zoneFlame k)))
      | none => (acceptReset s, plain .done) := by
  simp only [resetTrip, h, hnone] <;> rfl

/-- Settles O24: RESET_TRIP by the cases of R133, READ_TRIP_CAPTURE by whether a capture stands. -/
theorem tripRequests : Obligations.TripRequests := by
  unfold Obligations.TripRequests
  refine ⟨fun p s h => ⟨fun hst => h.answers rfl ?_, fun hst => ⟨fun x r hx => h.answers rfl ?_, firstActive_none,
    fun hnone k hk hlit hless => h.answers rfl ?_, fun hnone hout => h.answers rfl ?_⟩⟩,
    fun p s h => ⟨fun hcap => h.answers rfl ?_, fun x hcap => h.answers rfl ?_⟩⟩
  · rw [resetTrip, if_pos hst]; rfl
  · simp [resetTrip, hst, hx, resetRefusal, encOpt8]
  · rw [resetTrip_of_none hst (firstActive_none.2 hnone), litZone_some hk hlit hless]
    rfl
  · rw [resetTrip_of_none hst (firstActive_none.2 hnone), litZone_none hout, ← acceptReset_of_tripped hst]
  · rw [readTripCapture, hcap]; rfl
  · rw [readTripCapture, hcap]
    simp [encCapture, encOpt8, encOpt32]

/-! ## SET_PREHEAT, RESUME_DISCARD, RELEASE and RECLAIM (R107, R111, R152) -/

theorem wireFin_iff {n i : Nat} {x : Fin n} : wireFin n i = some x ↔ i = x.val + 1 := by
  obtain ⟨x, hx⟩ := x
  simp only [wireFin, Option.dite_none_right_eq_some, Option.some.injEq, Fin.mk.injEq]
  exact ⟨fun ⟨_, _⟩ => by omega, fun _ => ⟨by omega, by omega⟩⟩

/-- Every role is named by its number and its index, and by no others (R192, R193). -/
theorem roleOfWire_iff {n i : Nat} {r : Role} : roleOfWire n i = some r ↔ n = r.number ∧ i = r.wireIndex := by
  constructor
  · intro h
    unfold roleOfWire at h
    split at h <;>
      simp only [Option.ite_none_right_eq_some, Option.some.injEq, Option.map_eq_some_iff, wireFin_iff,
        reduceCtorEq] at h
    all_goals first
      | (obtain ⟨rfl, rfl⟩ := h; exact ⟨rfl, rfl⟩)
      | (obtain ⟨k, rfl, rfl⟩ := h; exact ⟨rfl, rfl⟩)
  · rintro ⟨rfl, rfl⟩
    cases r <;> simp [roleOfWire, Role.number, Role.wireIndex, wireFin_iff]

/-- The row of RELEASE and of RECLAIM. -/
theorem release_row {code : Nat} {c : Instr} {flag : Bool}
    (h : code = 17 ∧ c = .release ∧ flag = true ∨ code = 18 ∧ c = .reclaim ∧ flag = false) (s : State) :
    exec c s = .next (serve (isCode code) (needing 2 (judgeRelease flag)) s) := by
  obtain ⟨rfl, rfl, rfl⟩ | ⟨rfl, rfl, rfl⟩ := h <;> rfl

/-- RELEASE and RECLAIM of what is no command role. -/
theorem judgeRelease_range {flag : Bool}
    (h : ∀ r : Role, r.isCommand = true → ¬ (p.byteParam 0 = r.number ∧ p.byteParam 1 = r.wireIndex)) :
    judgeRelease flag p s = (s, plain .range) := by
  unfold judgeRelease
  cases hr : roleOfWire (p.byteParam 0) (p.byteParam 1) with
  | none => rfl
  | some r =>
    have hno : r.isCommand = false := by
      rw [Bool.eq_false_iff]
      exact fun hc => h r hc (roleOfWire_iff.1 hr)
    simp [hno, refuse]

/-- Settles O28: each request by its body; RELEASE and RECLAIM by the role that their bytes name. -/
theorem webAndReleaseRequests : Obligations.WebAndReleaseRequests := by
  unfold Obligations.WebAndReleaseRequests
  refine fun p s => ⟨fun h => ⟨fun hb => h.answers rfl ?_, fun hb => h.answers rfl ?_⟩,
    fun h => ⟨fun hr => h.answers rfl ?_, fun r hr => h.answers rfl ?_⟩, fun code c flag hreq h =>
      ⟨fun hno => h.answers (release_row hreq s) (judgeRelease_range hno), fun r hn hi hc =>
        ⟨fun hcomm => h.answers (release_row hreq s) ?_, fun hcomm hentry => h.answers (release_row hreq s) ?_,
          fun hcomm hentry => ⟨_, h.answers (release_row hreq s) (t := setReleased r flag s) ?_, ?_, fun q hq => ?_, ?_⟩⟩⟩⟩
  · obtain hb | hb : p.byteParam 0 = 0 ∨ p.byteParam 0 = 1 := by omega
    · simp [setPreheat, flagOf, hb]
    · simp [setPreheat, flagOf, hb]
  · have h0 : p.byteParam 0 ≠ 0 := by omega
    have h1 : p.byteParam 0 ≠ 1 := by omega
    simp [setPreheat, flagOf, h0, h1, refuse]
  · simp [resumeDiscard, hr, refuse]
  · simp only [resumeDiscard, hr, discardResume_some .request hr]; rfl
  · simp [judgeRelease, roleOfWire_iff.2 ⟨hn, hi⟩, hc, hcomm, refuse]
  · simp [judgeRelease, roleOfWire_iff.2 ⟨hn, hi⟩, hc, hcomm, hentry, refuse]
  · simp [judgeRelease, roleOfWire_iff.2 ⟨hn, hi⟩, hc, hcomm, hentry]
  · exact lookupKey_updateKey_self _ _ _
  · exact lookupKey_updateKey_ne hq _ _
  · exact updateKey_keys _ _ _

/-! ## Owners (R139) -/

/-- Settles O31: the three steps, the authorities of the last one in turn. -/
theorem ownerResolved : Obligations.OwnerResolved := by
  unfold Obligations.OwnerResolved
  refine fun r p e s => ⟨fun ht hr => if_pos ⟨ht, hr⟩, fun hno => ⟨fun hrel => ?_, fun hrel => ⟨fun ha => ?_, fun ha => ?_,
    fun ha hb => ?_, fun ha ⟨b, hb⟩ => ?_⟩⟩⟩
  all_goals rw [resolveOwner, if_neg hno, hrel]
  · rfl
  · rw [ha]; rfl
  · simp [ha, ownerByAuthority, DryerState.unready_iff]
  · have hnone : activeBank s.banks = none := by simp [activeBank, hb]
    simp [ha, ownerByAuthority, hnone, DryerState.unready_iff]
  · simp [ha, ownerByAuthority, activeBank_isSome hb, DryerState.burning_iff]

/-! ## TAKE_INCIDENTS and ALERT (R161 to R163) -/

theorem encSubject_length (sub : Subject) (v : IncidentValue) : (encSubject sub v).length = 3 := by
  cases sub <;> rfl

theorem encIncidentValue_length (c : IncidentCode) (sub : Subject) (v : IncidentValue) :
    (encIncidentValue c sub v).length = 2 := by
  unfold encIncidentValue
  split <;> (try split) <;> (try rfl)
  rename_i i
  cases i <;> rfl

theorem encIncident_length (r : Incident) : (encIncident r).length = 12 := by
  simp [encIncident, encSubject_length, encIncidentValue_length, be16]

theorem judgeAlert_moves (s : State) : judgeAlert s = { s with log := (judgeAlert s).log } := by
  unfold judgeAlert; dsimp only; repeat' split
  all_goals rfl

/-- With ALERT low and no gap running, ALERT tells whether a qualifying record is queued (R162). -/
theorem judgeAlert_of_idle (ha : s.log.alert = false) (hg : s.log.gap = none) :
    (judgeAlert s).log = { s.log with alert := s.log.queue.any (qualifies s.alertThreshold) } := by
  rw [judgeAlert_log_eq, if_neg (by simp [ha])]
  simp only [hg]
  split
  · next h => rw [h]
  · next h =>
    rw [Bool.eq_false_iff.2 h, ← ha, ← hg]

/-- With no qualifying record left ALERT falls and the gap begins (R162, R163). -/
theorem judgeAlert_falls (ha : s.log.alert = true) (hq : s.log.queue.any (qualifies s.alertThreshold) = false) :
    (judgeAlert s).log =
      { s.log with alert := false, gap := if s.alertGap = 0 then none else some (s.now + 1000 * s.alertGap) } := by
  rw [judgeAlert_log_eq, if_pos ha, if_neg (by simp [hq])]
  rfl

theorem judgeAlert_stands (ha : s.log.alert = true) (hq : s.log.queue.any (qualifies s.alertThreshold) = true) :
    (judgeAlert s).log = s.log := by
  rw [judgeAlert_log_eq, if_pos ha, if_pos hq]

theorem removeOldest_log (n : Nat) (s : State) : removeOldest n s = { s with log := (removeOldest n s).log } := by
  unfold removeOldest
  split
  · rfl
  · rw [judgeAlert_moves]

/-- Settles O36: the queue loses its oldest records, and ALERT is judged on what is left. -/
theorem incidentsTakenAndAlert : Obligations.IncidentsTakenAndAlert := by
  unfold Obligations.IncidentsTakenAndAlert
  refine ⟨fun p s h => ⟨fun hn => h.answers rfl ?_, fun h1 h4 => ⟨(removeOldest (p.wordParam 0) s).log,
    h.answers rfl ?_, ?_, ?_, ?_, fun hq => by rw [removeOldest, if_pos hq], fun hq ha hany => ?_, fun ha hany => ?_⟩⟩,
    encIncident_length, fun s d hg ha => congrArg Host.Outcome.next ?_⟩
  · have hn' : ¬ (1 ≤ p.wordParam 0 ∧ p.wordParam 0 ≤ 4) := by omega
    simp [takeIncidents, hn', refuse]
  · rw [← removeOldest_log]
    simp [takeIncidents, h1, h4]
  · by_cases hq : s.log.queue = [] <;> simp [removeOldest, hq]
  · by_cases hq : s.log.queue = [] <;> simp [removeOldest, hq]
  · by_cases hq : s.log.queue = [] <;> simp [removeOldest, hq]
  · rw [removeOldest, if_neg hq] at hany ⊢
    rw [(judgeAlert_log _).1] at hany
    rw [judgeAlert_falls (s := { s with log.queue := s.log.queue.drop (p.wordParam 0) }) ha hany]
    exact ⟨rfl, rfl⟩
  · by_cases hq : s.log.queue = []
    · rw [removeOldest, if_pos hq]; exact ⟨ha, rfl⟩
    · rw [removeOldest, if_neg hq] at hany ⊢
      rw [(judgeAlert_log _).1] at hany
      rw [judgeAlert_stands (s := { s with log.queue := s.log.queue.drop (p.wordParam 0) }) ha hany]
      exact ⟨ha, rfl⟩
  · rw [alertGapExpiry, hg]
    exact (judgeAlert_moves _).trans (congrArg (fun l : IncidentLog => ({ s with now := max s.now d, log := l } : State))
      (judgeAlert_of_idle ha rfl))

/-! ## Overrides (R176) -/

theorem le_of_safetyParamOf_none {n : Nat} (h : safetyParamOf n = none) : 5 ≤ n :=
  match n with
  | 0 | 1 | 2 | 3 | 4 => nomatch h
  | n + 5 => Nat.le_add_left 5 n

theorem safetyParamOf_beyond {n : Nat} (h : 5 ≤ n) : safetyParamOf n = none := by
  match n, h with
  | n + 5, _ => rfl

theorem uncommissioned_of_scalars (h : s.scalars? = none) : s.commissioned = false := by
  simp only [State.scalars?, Option.map_eq_none_iff] at h
  simp [State.commissioned, h]

theorem withOverrides_eq {c : Scalars} (o : Overrides) (h : s.scalars? = some c) : withOverrides o s =
    { s with agent.overrides := o, solv.eff := some (effectiveParams c o s.board.mode) } := by
  have hscalars : ({ s with agent.overrides := o } : State).scalars? = some c := h
  simp only [withOverrides, formParams, hscalars]
  rfl

theorem effectiveNow_withOverrides {c : Scalars} (o : Overrides) (q : SafetyParam) (h : s.scalars? = some c) :
    effectiveNow q (withOverrides o s) = some (q.effective c o) := by
  have hscalars : (withOverrides o s).scalars? = some c := h
  simp only [effectiveNow, hscalars]
  rfl

theorem setOverride_sets {c : Scalars} {q : SafetyParam} (hq : safetyParamOf (p.byteParam 0) = some q)
    (hs : s.scalars? = some c) (hlo : q.range.1 ≤ p.wordParam 1) (hhi : p.wordParam 1 ≤ q.range.2) :
    setOverride p s = (withOverrides (setOverrideOf q (some (p.wordParam 1)) s.agent.overrides) s,
      doneWith (encOpt16 (effectiveNow q
        (withOverrides (setOverrideOf q (some (p.wordParam 1)) s.agent.overrides) s)))) := by
  simp [setOverride, hq, commissioned_of_scalars hs, hlo, hhi]

theorem clearOverride_clears {c : Scalars} {q : SafetyParam} (hq : safetyParamOf (p.byteParam 0) = some q)
    (hs : s.scalars? = some c) :
    clearOverride p s = (withOverrides (setOverrideOf q none s.agent.overrides) s,
      doneWith (encOpt16 (effectiveNow q (withOverrides (setOverrideOf q none s.agent.overrides) s)))) := by
  simp [clearOverride, hq, commissioned_of_scalars hs]

theorem stricterLow_le (a : Nat) (o : Option Nat) :
    stricterLow a o ≤ a ∧ ∀ v, o = some v → stricterLow a o ≤ v := by
  refine ⟨Nat.min_le_left _ _, fun v hv => ?_⟩
  rw [stricterLow, hv]
  exact Nat.min_le_right _ _

theorem le_stricterHigh (a : Nat) (o : Option Nat) :
    a ≤ stricterHigh a o ∧ ∀ v, o = some v → v ≤ stricterHigh a o := by
  refine ⟨Nat.le_max_left _ _, fun v hv => ?_⟩
  rw [stricterHigh, hv]
  exact Nat.le_max_right _ _

/-- An effective parameter is on the strict side of the stored figure and of a standing override (R73). -/
theorem effectiveParams_strict (c : Scalars) (o : Overrides) (m : AnalyzerMode) :
    (m = .monitored → (effectiveParams c o m).fEff ≤ c.fMon ∧ ∀ v, o.fMon = some v → (effectiveParams c o m).fEff ≤ v)
      ∧ (m = .unmonitored →
          (effectiveParams c o m).fEff ≤ c.fUnmon ∧ ∀ v, o.fUnmon = some v → (effectiveParams c o m).fEff ≤ v)
      ∧ (effectiveParams c o m).trip ≤ c.trip ∧ (∀ v, o.trip = some v → (effectiveParams c o m).trip ≤ v)
      ∧ c.margin ≤ (effectiveParams c o m).margin ∧ (∀ v, o.margin = some v → v ≤ (effectiveParams c o m).margin)
      ∧ c.qFloor ≤ (effectiveParams c o m).qFloor ∧ ∀ v, o.qFloor = some v → v ≤ (effectiveParams c o m).qFloor := by
  refine ⟨fun hm => ?_, fun hm => ?_, (stricterLow_le _ _).1, (stricterLow_le _ _).2, (le_stricterHigh _ _).1,
    (le_stricterHigh _ _).2, (le_stricterHigh _ _).1, (le_stricterHigh _ _).2⟩
  · rw [hm]; exact stricterLow_le _ _
  · rw [hm]; exact stricterLow_le _ _

/-- Settles O37: the two requests by the parameter named, the part and the value; the strictness by the four figures. -/
theorem overridesExecute : Obligations.OverridesExecute := by
  unfold Obligations.OverridesExecute
  refine ⟨fun p s => ⟨fun h => ⟨fun hp => h.answers rfl ?_, fun q hq => ⟨fun hs => h.answers rfl ?_, fun c hs =>
      ⟨fun hv => h.answers rfl ?_, fun o hlo hhi ho => h.answers rfl ?_⟩⟩⟩,
    fun h => ⟨fun hp => h.answers rfl ?_, fun hp hs => h.answers rfl ?_, fun c hs =>
      ⟨fun q o hq ho => h.answers rfl ?_, fun hall => h.answers rfl ?_⟩⟩⟩, effectiveParams_strict⟩
  · simp [setOverride, safetyParamOf_beyond hp, refuse]
  · simp [setOverride, hq, uncommissioned_of_scalars hs, refuse]
  · simp [setOverride, hq, commissioned_of_scalars hs, hv, refuse]
  · rw [setOverride_sets hq hs hlo hhi, ← ho, effectiveNow_withOverrides o q hs, withOverrides_eq o hs]
    rfl
  · have h5 : p.byteParam 0 ≠ 5 := by omega
    simp [clearOverride, safetyParamOf_beyond (n := p.byteParam 0) (by omega), h5, refuse]
  · cases hq : safetyParamOf (p.byteParam 0) with
    | some q => simp [clearOverride, hq, uncommissioned_of_scalars hs, refuse]
    | none =>
      have h5 : p.byteParam 0 = 5 := Nat.le_antisymm hp (le_of_safetyParamOf_none hq)
      rw [clearOverride, hq, h5, if_pos rfl, if_pos (uncommissioned_of_scalars hs)]
      rfl
  · rw [clearOverride_clears hq hs, ← ho, effectiveNow_withOverrides o q hs, withOverrides_eq o hs]
    rfl
  · have hq : safetyParamOf 5 = none := rfl
    simp only [clearOverride, hall, hq, if_true, commissioned_of_scalars hs, Bool.true_eq_false, if_false,
      withOverrides_eq _ hs, Overrides.absent]

/-! ## READ_COUNTERS (R177) -/

/-- Reading counter `n` after counter `m` was cleared: the histogram buckets, from 12 on, are cleared together. -/
theorem counterValue_clearCounter {n m : Nat} (hn : n < 18) (s : State) : counterValue n (clearCounter s m) =
    if n = m ∨ (12 ≤ n ∧ 12 ≤ m) then 0 else counterValue n s := by
  by_cases hm : m < 12
  · iterate 12
      rcases m with _ | m
      · iterate 18
          rcases n with _ | n
          · rfl
        omega
    omega
  · obtain ⟨j, rfl⟩ := Nat.exists_eq_add_of_le (Nat.not_lt.1 hm)
    have hclear : clearCounter s (12 + j) = { s with solv.histogram := Histogram.zero } := by
      rw [Nat.add_comm]; rfl
    rw [hclear]
    by_cases h12 : 12 ≤ n
    · rw [if_pos (.inr ⟨h12, by omega⟩)]
      obtain ⟨k, rfl⟩ := Nat.exists_eq_add_of_le h12
      iterate 6
        rcases k with _ | k
        · rfl
      omega
    · rw [if_neg (by omega)]
      iterate 12
        rcases n with _ | n
        · rfl
      omega

theorem counterValue_foldl {n : Nat} (hn : n < 18) (l : List Nat) (s : State) :
    counterValue n (l.foldl clearCounter s) =
      if ∃ m ∈ l, n = m ∨ (12 ≤ n ∧ 12 ≤ m) then 0 else counterValue n s := by
  induction l generalizing s with
  | nil => simp
  | cons m rest ih =>
    rw [List.foldl_cons, ih, counterValue_clearCounter hn]
    simp only [List.mem_cons, exists_eq_or_imp]
    split
    · next h => rw [if_pos (.inr h)]
    · next h => simp only [h, or_false]

/-- The state `u` with the counters of `s`. -/
def withCounters (s u : State) : State :=
  { u with
    line.goodOut := s.line.goodOut, line.goodBack := s.line.goodBack, line.poisoned := s.line.poisoned
    line.overruns := s.line.overruns, line.longFrames := s.line.longFrames
    line.serviceFrames := s.line.serviceFrames, line.irregular := s.line.irregular
    agent.busyRefusals := s.agent.busyRefusals, cmds.late := s.cmds.late, web.ignored := s.web.ignored
    board.clamped := s.board.clamped, log.dropped := s.log.dropped, solv.histogram := s.solv.histogram }

/-- Clearing a counter moves nothing but counters. -/
theorem withCounters_clearCounter (s u : State) (m : Nat) : withCounters s (clearCounter u m) = withCounters s u := by
  unfold clearCounter
  split <;> rfl

theorem withCounters_foldl (s : State) (l : List Nat) (u : State) :
    withCounters s (l.foldl clearCounter u) = withCounters s u := by
  induction l generalizing u with
  | nil => rfl
  | cons m rest ih => rw [List.foldl_cons, ih, withCounters_clearCounter]

theorem mem_counterRange {first count m : Nat} : m ∈ counterRange first count ↔ first ≤ m ∧ m < first + count := by
  simp only [counterRange, List.mem_map, List.mem_range]
  exact ⟨fun ⟨i, hi, e⟩ => by omega, fun h => ⟨m - first, by omega, by omega⟩⟩

/-- Settles O38: the range asked for, and the counters that the clear flag takes with it. -/
theorem countersRead : Obligations.CountersRead := by
  unfold Obligations.CountersRead
  refine fun p s h => ⟨fun hno => h.answers rfl ?_, fun hflag hcount hend => ⟨(readCounters p s).1, h.answers rfl ?_,
    fun h0 => ?_, fun h1 => ?_⟩⟩
  · obtain hflag | hrange := hno
    · have h0 : p.byteParam 4 ≠ 0 := by omega
      have h1 : p.byteParam 4 ≠ 1 := by omega
      simp [readCounters, flagOf, h0, h1, refuse]
    · have hrange' : ¬ (1 ≤ p.wordParam 2 ∧ p.wordParam 0 + p.wordParam 2 ≤ 18) := by omega
      cases hf : flagOf (p.byteParam 4) <;> simp only [readCounters, hf, if_neg hrange'] <;> rfl
  · obtain h0 | h1 : p.byteParam 4 = 0 ∨ p.byteParam 4 = 1 := by omega
    · simp [readCounters, flagOf, h0, hcount, hend, counterRange, List.flatMap_map]
    · simp [readCounters, flagOf, h1, hcount, hend, counterRange, List.flatMap_map]
  · simp [readCounters, flagOf, h0, hcount, hend]
  · have hstate : (readCounters p s).1 = (counterRange (p.wordParam 0) (p.wordParam 2)).foldl clearCounter s := by
      simp [readCounters, flagOf, h1, hcount, hend]
    rw [hstate]
    refine ⟨fun n hn => ?_, ?_⟩
    · rw [counterValue_foldl hn]
      refine ite_congr (propext ?_) (fun _ => rfl) fun _ => rfl
      simp only [mem_counterRange]
      constructor
      · rintro ⟨m, hm, rfl | h12⟩
        · exact .inl hm
        · exact .inr (by omega)
      · rintro (hm | h12)
        · exact ⟨n, hm, .inl rfl⟩
        · exact ⟨p.wordParam 0 + p.wordParam 2 - 1, by omega, .inr (by omega)⟩
    · exact withCounters_foldl s _ s

end Sys2Proof.Machine
end

section
/-! PROOF. Every command completes, leaves the queue alone and moves time forward; the part right after a power-on reset
keeps every law. -/

namespace Sys2Proof.Machine

open Sys2Proof Sys2Proof.Machine

variable {s t : State} {p : Place} {c : Instr}

/-! ## The queue and the time base -/

/-- The queue stands, and neither the time base nor the count of open orders has gone back. -/
def Onward (s t : State) : Prop := t.pending = s.pending ∧ s.now ≤ t.now ∧ s.choices ≤ t.choices

theorem Onward.refl (s : State) : Onward s s := ⟨rfl, Nat.le_refl _, Nat.le_refl _⟩

theorem Onward.of_eq (hp : t.pending = s.pending) (hn : t.now = s.now) (hc : t.choices = s.choices) : Onward s t :=
  ⟨hp, Nat.le_of_eq hn.symm, Nat.le_of_eq hc.symm⟩

theorem reachDeadline_onward (d : Nat) (s : State) : Onward s (reachDeadline d s) :=
  ⟨rfl, Nat.le_max_left _ _, Nat.le_refl _⟩

theorem writeItem_onward {tb : Table} {n : Nat} (h : writeItem tb n p s = some t) : Onward s t := by
  obtain ⟨_, _, rfl⟩ := writeItem_moves h
  exact .refl s

theorem clearCounters_onward (l : List Nat) (s : State) : Onward s (l.foldl clearCounter s) := by
  have hc : ∀ (u : State) n, (clearCounter u n).pending = u.pending ∧ (clearCounter u n).now = u.now
      ∧ (clearCounter u n).choices = u.choices := fun u n => by
    unfold clearCounter; split <;> exact ⟨rfl, rfl, rfl⟩
  exact .of_eq (foldl_keeps clearCounter State.pending (fun u n => (hc u n).1) l s)
    (foldl_keeps clearCounter State.now (fun u n => (hc u n).2.1) l s)
    (foldl_keeps clearCounter State.choices (fun u n => (hc u n).2.2) l s)

/-- What follows a state that has gone onward, with queue, time and orders as it left them. -/
theorem Onward.same {u : State} (h : Onward s t) (hp : u.pending = t.pending) (hn : u.now = t.now)
    (hc : u.choices = t.choices) : Onward s u := by
  rw [Onward, hp, hn, hc]; exact h

theorem Onward.keptAtEnd (s : State) : KeptAtEnd (Onward s) where
  leave _ us _ _ u _ _ h := ⟨h.1, Nat.le_trans h.2.1 (Nat.le_add_right u.now us), h.2.2⟩
  outCycle _ _ h := h
  outService _ _ h := h
  repeated _ _ h := h
  good _ _ _ _ _ h := h
  poisoned _ _ h := h
  backService _ _ h := h
  serviceReset _ h := h
  errors _ h := h.same (by simp) (by simp) (by simp)
  choice _ h := ⟨h.1, h.2.1, Nat.le_succ_of_le h.2.2⟩
  interval _ _ _ h := h
  samples _ _ _ h := h
  react _ _ _ _ h := h.same (by simp) (by simp) (by simp)

theorem silenceTimerExpiry_onward (s : State) : Onward s (silenceTimerExpiry s) := by
  unfold silenceTimerExpiry
  split
  · next d _ => exact (reachDeadline_onward d s).same (by simp) (by simp) (by simp)
  · exact .refl s

theorem purgeHoldExpiry_onward (s : State) : Onward s (purgeHoldExpiry s) := by
  unfold purgeHoldExpiry
  split
  · next d _ _ => exact (reachDeadline_onward d s).same (by simp) (by simp) (by simp)
  · exact .refl s

theorem alertGapExpiry_onward (s : State) : Onward s (alertGapExpiry s) := by
  unfold alertGapExpiry
  split
  · next d _ => exact (reachDeadline_onward d s).same (by simp) (by simp) (by simp)
  · exact .refl s

theorem storeWriteComplete_onward (s : State) : Onward s (storeWriteComplete s) := by
  unfold storeWriteComplete
  split
  · exact (Onward.refl s).same (by simp [storeCompletion, boardAtStore, flamesAtStore, formParams])
      (by simp [storeCompletion, boardAtStore, flamesAtStore, formParams])
      (by simp [storeCompletion, boardAtStore, flamesAtStore, formParams])
  · exact .refl s

theorem storeLoadComplete_onward (s : State) : Onward s (storeLoadComplete s) := by
  unfold storeLoadComplete
  split
  · exact (Onward.refl s).same (by simp [openRelay, startSilence]) (by simp [openRelay, startSilence])
      (by simp [openRelay, startSilence])
  all_goals exact .refl s

theorem exec_onward (he : exec c s = .next t) : Onward s t := by
  have hs := Onward.refl s
  have sv : ∀ want body, (∀ p, Onward s (body p s).1) → Onward s (serve want body s) := fun want body hb =>
    serve_keeps (P := Onward s) s want body (fun r u h => h) (fun p _ => hb p) hs
  have sn : ∀ want need body, (∀ p, Onward s (body p s).1) → Onward s (serve want (needing need body) s) :=
    fun want need body hb => sv _ _ fun p => needing_keeps (P := Onward s) s need body p (hb p) hs
  cases c with
  | frameArrival d b l => cases he; exact hs.same (by simp) (by simp) (by simp)
  | commandPassage i => cases he; exact hs.same (by simp) (by simp) (by simp)
  | statusSlotWrite i => cases he; exact hs.same (by simp) (by simp) (by simp)
  | requestTaking i => cases he; exact hs.same (by simp) (by simp) (by simp)
  | replyPlaceFill i => cases he; exact hs.same (by simp) (by simp) (by simp)
  | frameEnd d us => cases he; exact (Onward.keptAtEnd s).frameEnd _ d us s hs
  | resumeTimerExpiry => cases he; exact hs.same (by simp) (by simp) (by simp)
  | scheduleEvaluationComplete => cases he; exact hs.same (by simp) (by simp) (by simp)
  | solventEvaluationComplete => cases he; exact ⟨by simp, by simp, by simp [solventEvaluationComplete, takeChoice]⟩
  | silenceTimerExpiry =>
    cases he
    exact silenceTimerExpiry_onward s
  | purgeHoldExpiry =>
    cases he
    exact purgeHoldExpiry_onward s
  | alertGapExpiry =>
    cases he
    exact alertGapExpiry_onward s
  | breakInChange l => cases he; exact hs.same (by simp) (by simp) (by simp)
  | bankCheckEnd => cases he; exact hs.same (by simp) (by simp) (by simp)
  | storeWriteComplete => cases he; exact storeWriteComplete_onward s
  | storeLoadComplete => cases he; exact storeLoadComplete_onward s
  | serviceResetWaitExpiry =>
    cases he
    show Onward s (serviceResetWaitExpiry s)
    unfold serviceResetWaitExpiry
    split
    · exact reachDeadline_onward _ s
    · exact hs
  | powerOn => cases he; show Onward s (powerOn s); unfold powerOn; (repeat' split) <;> exact hs
  | resetPinAssert => cases he; show Onward s (resetPinAssert s); unfold resetPinAssert; dsimp only; (repeat' split) <;> exact hs
  | resetPinRelease => cases he; show Onward s (resetPinRelease s); unfold resetPinRelease; dsimp only; split <;> exact hs
  | supplyLoss => cases he; exact hs
  | unknownRequest => cases he; exact sv _ _ fun _ => hs
  | identify => cases he; exact sn _ _ _ fun _ => hs
  | clearResetCause => cases he; exact sn _ _ _ fun _ => hs
  | readTripCapture => cases he; exact sn _ _ _ fun _ => hs
  | openWindow =>
    cases he
    refine sv _ _ fun p => ?_
    rcases openWindow_state p s with q | ⟨w, q⟩ | ⟨tb, w, -, -, -, q⟩ <;> rw [q]
    · exact hs
    · exact hs
    · exact hs.same (by simp) (by simp) (by simp)
  | writeNext =>
    cases he
    refine sv _ _ fun p => ?_
    rcases writeNext_state p s with ⟨w, q⟩ | ⟨w, u, x, -, -, -, -, i, q⟩ <;> rw [q]
    · exact hs
    · exact (writeItem_onward i).same rfl rfl rfl
  | readNext => cases he; exact sv _ _ fun p => by obtain ⟨w, q⟩ := readNext_state p s; rw [q]; exact hs
  | closeWindow => cases he; exact sv _ _ fun p => by obtain ⟨w, q⟩ := closeWindow_state p s; rw [q]; exact hs
  | sealBank => cases he; exact sn _ _ _ fun p => by rcases sealBank_state p s with q | ⟨b, -, -, -, q⟩ <;> rw [q] <;> exact hs
  | clearBank => cases he; exact sn _ _ _ fun p => by rcases clearBank_state p s with q | ⟨b, -, q⟩ <;> rw [q] <;> exact hs
  | activateBank =>
    cases he
    refine sn _ _ _ fun p => ?_
    rcases activateBank_state p s with q | ⟨b, m, -, q⟩ <;> rw [q]
    · exact hs
    · exact hs.same (by simp) (by simp) (by simp)
  | cancelActivation => cases he; exact sn _ _ _ fun p => by rcases cancelActivation_state p s with q | q <;> rw [q] <;> exact hs
  | store => cases he; exact sn _ _ _ fun p => by rcases storeRequest_state p s with q | ⟨-, -, -, q⟩ <;> rw [q] <;> exact hs
  | reload => cases he; exact sn _ _ _ fun p => by rcases reload_state p s with q | ⟨-, q⟩ <;> rw [q] <;> exact hs
  | startPurge =>
    cases he
    exact sn _ _ _ fun p => by rcases startPurge_state p s with q | ⟨-, -, -, -, q⟩ <;> rw [q] <;> exact hs
  | abortPurge => cases he; exact sn _ _ _ fun p => by rcases abortPurge_state p s with q | ⟨-, q⟩ <;> rw [q] <;> exact hs
  | resetTrip =>
    cases he
    refine sn _ _ _ fun p => ?_
    rcases resetTrip_state p s with q | ⟨-, -, -, q⟩ <;> rw [q]
    · exact hs
    · exact hs.same (by simp) (by simp) (by simp)
  | setPreheat => cases he; exact sn _ _ _ fun p => by obtain ⟨b, q⟩ := setPreheat_state p s; rw [q]; exact hs
  | release =>
    cases he
    exact sn _ _ _ fun p => by rcases judgeRelease_state p s true with q | ⟨r, -, -, q⟩ <;> rw [release, q] <;> exact hs
  | reclaim =>
    cases he
    exact sn _ _ _ fun p => by rcases judgeRelease_state p s false with q | ⟨r, -, -, q⟩ <;> rw [reclaim, q] <;> exact hs
  | resumeDiscard =>
    cases he
    refine sn _ _ _ fun p => ?_
    rcases resumeDiscard_state p s with q | q <;> rw [q]
    · exact hs
    · exact hs.same (by simp) (by simp) (by simp)
  | takeIncidents =>
    cases he
    refine sn _ _ _ fun p => ?_
    rcases takeIncidents_state p s with q | ⟨n, q⟩ <;> rw [q]
    · exact hs
    · exact hs.same (by simp) (by simp) (by simp)
  | setOverride =>
    cases he
    exact sn _ _ _ fun p => by rcases setOverride_state p s with q | ⟨a, v, -, -, -, q⟩ <;> rw [q] <;> exact hs
  | clearOverride =>
    cases he
    exact sn _ _ _ fun p => by rcases clearOverride_state p s with q | ⟨o, q, -⟩ <;> rw [q] <;> exact hs
  | readCounters =>
    cases he
    refine sn _ _ _ fun p => ?_
    rcases readCounters_state p s with q | ⟨a, b, q⟩ <;> rw [q]
    · exact hs
    · exact clearCounters_onward _ s
  | resetPart => cases he; exact sn _ _ _ fun p => by rcases resetPart_state p s with q | ⟨-, q⟩ <;> rw [q] <;> exact hs

/-- Settles O2: every command has a next state, and none of its operations turns back. -/
theorem everyCommandCompletes : Obligations.EveryCommandCompletes := by
  unfold Obligations.EveryCommandCompletes
  intro c s
  have hnext : ∃ t, exec c s = .next t := by cases c <;> exact ⟨_, rfl⟩
  obtain ⟨t, ht⟩ := hnext
  exact ⟨t, ht, exec_onward ht⟩

/-! ## The part right after a power-on reset (R188) -/

/-- Settles O57: every list of the reset state is empty, every block at its values after reset. -/
theorem resetKeepsLaws : Obligations.ResetKeepsLaws := by
  unfold Obligations.ResetKeepsLaws
  have hreset : State.reset = enterReset .loading ⟨true, false, false⟩ State.reset := rfl
  have hrecord : RecordLaw State.reset :=
    ⟨commInRange_uncommissioned, by simp [State.reset], by simp [State.reset], by decide, by decide⟩
  have huncommissioned : UncommissionedLaw State.reset :=
    ⟨fun _ => ⟨rfl, rfl⟩, fun _ => ⟨rfl, rfl, rfl, rfl, rfl, rfl, rfl, rfl, fun b => .inl (by
      rw [State.reset, Four.get_fill]; rfl)⟩⟩
  have hactive : ¬ AnyActive State.reset.dryer := firstActive_none.1 rfl
  have halert : AlertSound State.reset := hreset ▸ alertSound_reset _ _ _
  have hresume : ResumeSound State.reset := hreset ▸ resumeSound_reset _ _ _
  refine ⟨by unfold PermitLaw; decide, ⟨huncommissioned, by decide, fun h => absurd h hactive, by decide⟩,
    ⟨hreset ▸ heldLaw_reset _ _ _, halert⟩, hreset ▸ placesLaw_reset _ _ _, hreset ▸ lineLaw_enterReset (by decide) _ _,
    ⟨by simp [State.reset, LineIf.afterReset], by simp [State.reset, LineIf.afterReset]⟩,
    ⟨hreset ▸ bankLaw_reset _ _ _, hreset ▸ storeLaw_reset _ _ _, hresume.record, hresume.resuming, hresume.timer⟩,
    by simp [BoardLaw, State.reset, Board.afterReset], hreset ▸ solventLaw_reset _ _ _,
    counterLaw_iff.2 (hreset ▸ counted_reset _ _ _), hreset ▸ effLaw_reset _ _ _, hreset ▸ recipeLaw_reset _ _ _, hrecord,
    tableLaw_iff.2 ⟨hrecord, hreset ▸ tableSound_reset _ _ _⟩⟩

end Sys2Proof.Machine
end

section
/-! PROOF. The seal check of a recipe (R46). -/

namespace Sys2Proof.Machine

open Sys2Proof Sys2Proof.Machine

/-! ## The first breakpoint that breaks a rule -/

/-- The first breakpoint that is bad beside the one before it: the common form of the two searches of R46. -/
def firstBreak (bad : Option Breakpoint → Breakpoint → Bool) (i : Nat) (prev : Option Breakpoint) :
    List Breakpoint → Option Nat
  | [] => none
  | p :: rest => if bad prev p then some i else firstBreak bad (i + 1) (some p) rest

/-- A speed above 1,500 or not above the one before it. -/
def badSpeed (prev : Option Breakpoint) (p : Breakpoint) : Bool :=
  decide (1500 < p.speed) || prev.any fun q => decide (p.speed ≤ q.speed)

/-- A value below the one before it. -/
def badValue (prev : Option Breakpoint) (p : Breakpoint) : Bool := prev.any fun q => decide (p.value < q.value)

theorem speedFault_eq (l : List Breakpoint) : ∀ (i : Nat) (prev : Option Breakpoint),
    speedFault i (prev.map Breakpoint.speed) l = firstBreak badSpeed i prev l := by
  induction l with
  | nil => exact fun _ _ => rfl
  | cons p rest ih =>
    intro i prev
    have hrest := ih (i + 1) (some p)
    simp only [Option.map_some] at hrest
    by_cases hfast : 1500 < p.speed
    · simp [speedFault, firstBreak, badSpeed, hfast]
    · cases prev with
      | none => simp [speedFault, firstBreak, badSpeed, hfast, hrest]
      | some q => simp [speedFault, firstBreak, badSpeed, hfast, hrest]

theorem tempFault_eq (l : List Breakpoint) : ∀ (i : Nat) (prev : Option Breakpoint),
    tempFault i (prev.map Breakpoint.value) l = firstBreak badValue i prev l := by
  induction l with
  | nil => exact fun _ _ => rfl
  | cons p rest ih =>
    intro i prev
    have hrest := ih (i + 1) (some p)
    simp only [Option.map_some] at hrest
    cases prev with
    | none => simp [tempFault, firstBreak, badValue, hrest]
    | some q => simp [tempFault, firstBreak, badValue, hrest]

/-- Breakpoint `n` is bad beside the one before it, `prev` standing before the first. -/
def BreakAt (bad : Option Breakpoint → Breakpoint → Bool) (prev : Option Breakpoint) (l : List Breakpoint) (n : Nat) :
    Prop :=
  ∃ p ∈ l[n]?, bad (if n = 0 then prev else l[n - 1]?) p = true

variable {bad : Option Breakpoint → Breakpoint → Bool} {prev : Option Breakpoint} {p : Breakpoint}
  {l rest : List Breakpoint} {i n : Nat}

theorem breakAt_zero : BreakAt bad prev (p :: rest) 0 ↔ bad prev p = true := by simp [BreakAt]

theorem breakAt_succ : BreakAt bad prev (p :: rest) (n + 1) ↔ BreakAt bad (some p) rest n := by
  cases n <;> simp [BreakAt]

theorem firstBreak_none : firstBreak bad i prev l = none ↔ ∀ n, ¬ BreakAt bad prev l n := by
  induction l generalizing i prev with
  | nil => simp [firstBreak, BreakAt]
  | cons p rest ih =>
    rw [firstBreak]
    split
    · next h => simpa using ⟨0, breakAt_zero.2 h⟩
    · next h =>
      rw [ih]
      refine ⟨fun hrest n => ?_, fun hall n => fun hn => hall (n + 1) (breakAt_succ.2 hn)⟩
      cases n with
      | zero => exact fun h0 => h (breakAt_zero.1 h0)
      | succ n => exact fun hn => hrest n (breakAt_succ.1 hn)

theorem firstBreak_some (hn : BreakAt bad prev l n) (hless : ∀ m < n, ¬ BreakAt bad prev l m) :
    firstBreak bad i prev l = some (i + n) := by
  induction l generalizing i prev n with
  | nil => simp [BreakAt] at hn
  | cons p rest ih =>
    rw [firstBreak]
    cases n with
    | zero => rw [if_pos (breakAt_zero.1 hn)]; rfl
    | succ n =>
      rw [if_neg fun h => hless 0 (Nat.succ_pos n) (breakAt_zero.2 h),
        ih (breakAt_succ.1 hn) fun m hm h => hless (m + 1) (Nat.succ_lt_succ hm) (breakAt_succ.2 h)]
      congr 1
      omega

theorem speedBreaks_iff : SpeedBreaks l n ↔ BreakAt badSpeed none l n := by
  unfold SpeedBreaks BreakAt
  refine exists_congr fun p => and_congr_right fun _ => ?_
  cases n <;> simp [badSpeed, Option.any_eq_true]

theorem valueFalls_iff : ValueFalls l n ↔ BreakAt badValue none l n := by
  unfold ValueFalls BreakAt
  refine exists_congr fun p => and_congr_right fun _ => ?_
  cases n <;> simp [badValue, Option.any_eq_true]

/-! ## Sound schedules -/

/-- A list ordered by a transitive relation is one in which it holds from each member to the next. -/
theorem pairwise_iff_steps {R : Breakpoint → Breakpoint → Prop} (htrans : ∀ {a b c}, R a b → R b c → R a c) :
    l.Pairwise R ↔ ∀ n p q, l[n]? = some q → l[n + 1]? = some p → R q p := by
  induction l with
  | nil => simp
  | cons x l ih =>
    rw [List.pairwise_cons, ih]
    constructor
    · rintro ⟨hx, hl⟩ n p q hq hp
      cases n with
      | zero => exact Option.some.inj hq ▸ hx p (List.mem_of_getElem? hp)
      | succ n => exact hl n p q hq hp
    · intro h
      have hl : ∀ n p q, l[n]? = some q → l[n + 1]? = some p → R q p := fun n p q hq hp => h (n + 1) p q hq hp
      refine ⟨?_, hl⟩
      cases l with
      | nil => exact fun y hy => nomatch hy
      | cons z l =>
        have hxz : R x z := h 0 z x rfl rfl
        rintro y (_ | ⟨_, hy⟩)
        · exact hxz
        · exact htrans hxz ((List.pairwise_cons.1 (ih.2 hl)).1 y hy)

theorem soundSchedule_iff : SoundSchedule l ↔ 2 ≤ l.length ∧ ∀ n, ¬ SpeedBreaks l n := by
  refine and_congr_right fun _ => ?_
  rw [pairwise_iff_steps (R := fun p q => p.speed < q.speed) Nat.lt_trans]
  constructor
  · rintro ⟨hmax, hrise⟩ n ⟨p, hp, hfast | ⟨hn, q, hq, hle⟩⟩
    · exact absurd (hmax p (List.mem_of_getElem? hp)) (by omega)
    · obtain ⟨m, rfl⟩ := Nat.exists_eq_add_of_le' hn
      exact absurd (hrise m p q hq hp) (by omega)
  · intro h
    refine ⟨fun p hp => ?_, fun n p q hq hp => ?_⟩
    · obtain ⟨n, hn⟩ := List.mem_iff_getElem?.1 hp
      exact Nat.not_lt.1 fun hfast => h n ⟨p, hn, .inl hfast⟩
    · exact Nat.not_le.1 fun hle => h (n + 1) ⟨p, hp, .inr ⟨by omega, q, hq, hle⟩⟩

theorem risingValues_iff : RisingValues l ↔ ∀ n, ¬ ValueFalls l n := by
  rw [RisingValues, pairwise_iff_steps (R := fun p q => p.value ≤ q.value) Int.le_trans]
  constructor
  · rintro hrise n ⟨p, hp, hn, q, hq, hlt⟩
    obtain ⟨m, rfl⟩ := Nat.exists_eq_add_of_le' hn
    exact absurd (hrise m p q hq hp) (by omega)
  · exact fun h n p q hq hp => Int.not_lt.1 fun hlt => h (n + 1) ⟨p, hp, by omega, q, hq, hlt⟩

/-! ## The check of one schedule -/

theorem speedFault_none : speedFault 0 none l = none ↔ ∀ n, ¬ SpeedBreaks l n := by
  rw [show speedFault 0 none l = _ from speedFault_eq l 0 none, firstBreak_none]
  simp only [speedBreaks_iff]

theorem tempFault_none : tempFault 0 none l = none ↔ ∀ n, ¬ ValueFalls l n := by
  rw [show tempFault 0 none l = _ from tempFault_eq l 0 none, firstBreak_none]
  simp only [valueFalls_iff]

theorem speedFault_some (hn : SpeedBreaks l n) (hless : ∀ m < n, ¬ SpeedBreaks l m) : speedFault 0 none l = some n := by
  simp only [speedBreaks_iff] at hn hless
  rw [show speedFault 0 none l = _ from speedFault_eq l 0 none, firstBreak_some hn hless, Nat.zero_add]

theorem tempFault_some (hn : ValueFalls l n) (hless : ∀ m < n, ¬ ValueFalls l m) : tempFault 0 none l = some n := by
  simp only [valueFalls_iff] at hn hless
  rw [show tempFault 0 none l = _ from tempFault_eq l 0 none, firstBreak_some hn hless, Nat.zero_add]

variable {t : Table} {temps : Bool} {o : CheckOutcome}

theorem checkSchedule_short (h : l.length < 2) :
    checkSchedule t temps l = some (.rejected .count (some t) (some l.length)) := if_pos h

theorem checkSchedule_speed (h : 2 ≤ l.length) (hn : SpeedBreaks l n) (hless : ∀ m < n, ¬ SpeedBreaks l m) :
    checkSchedule t temps l = some (.rejected .speedOrder (some t) (some n)) := by
  rw [checkSchedule, if_neg (by omega), speedFault_some hn hless]

theorem checkSchedule_sound (h : SoundSchedule l) : checkSchedule t temps l =
    if temps then (tempFault 0 none l).map fun i => .rejected .tempOrder (some t) (some i) else none := by
  obtain ⟨hlen, hspeed⟩ := soundSchedule_iff.1 h
  rw [checkSchedule, if_neg (by omega), speedFault_none.2 hspeed]
  cases tempFault 0 none l <;> rfl

theorem checkSchedule_none :
    checkSchedule t temps l = none ↔ SoundSchedule l ∧ (temps = true → RisingValues l) := by
  by_cases h : SoundSchedule l
  · rw [checkSchedule_sound h, risingValues_iff, ← tempFault_none]
    cases temps <;> simp [h]
  · refine ⟨fun hnone => absurd ?_ h, fun hsound => absurd hsound.1 h⟩
    rw [checkSchedule] at hnone
    split at hnone
    · cases hnone
    · next hlen =>
      refine soundSchedule_iff.2 ⟨by omega, speedFault_none.1 ?_⟩
      cases hs : speedFault 0 none l with
      | none => rfl
      | some i => simp [hs] at hnone

/-- A schedule's check never reports a pass: no finding is the pass. -/
theorem checkSchedule_ne_passed : checkSchedule t temps l ≠ some .passed := by
  unfold checkSchedule
  repeat' split
  all_goals simp

/-! ## The whole check -/

variable {b : BankNo} {zones circuits : Nat} {x : Recipe}

theorem sealCheck_passed (h : x.crawl < x.thread ∧ x.thread ≤ x.run) : sealCheck b zones circuits x = .passed ↔
    ∀ c ∈ sealSchedules b zones circuits x, SoundSchedule c.2.2 ∧ (c.2.1 = true → RisingValues c.2.2) := by
  rw [sealCheck, if_pos h]
  cases hf : (sealSchedules b zones circuits x).findSome? fun c => checkSchedule c.1 c.2.1 c.2.2 with
  | none =>
    have hall := List.findSome?_eq_none_iff.1 hf
    simp only [Option.getD_none, true_iff]
    exact fun c hc => checkSchedule_none.1 (hall c hc)
  | some o =>
    obtain ⟨c, hc, ho⟩ := List.exists_of_findSome?_eq_some hf
    refine ⟨fun h => absurd ((show o = CheckOutcome.passed from h) ▸ ho) checkSchedule_ne_passed, fun hall => ?_⟩
    have hnone : checkSchedule c.1 c.2.1 c.2.2 = none := checkSchedule_none.2 (hall c hc)
    rw [ho] at hnone
    cases hnone

theorem mem_zoneNumbers (k : Zone) : k ∈ zoneNumbers := by revert k; decide

theorem mem_circuitNumbers (j : Circuit) : j ∈ circuitNumbers := by revert j; decide

/-- What the check asks of every schedule of the recipe. -/
theorem forall_sealSchedules {P : Table × Bool × List Breakpoint → Prop} :
    (∀ c ∈ sealSchedules b zones circuits x, P c) ↔
      (∀ k : Zone, k.val < zones →
        P (.zoneTemp b k, true, x.zoneTemp.get k) ∧ P (.zoneFan b k, false, x.zoneFan.get k))
      ∧ P (.exhaust b, false, x.exhaust)
      ∧ ∀ j : Circuit, j.val < circuits → P (.chill b j, false, x.chill.get j) := by
  simp only [sealSchedules, List.mem_append, List.mem_cons, List.mem_flatMap, List.mem_filter, List.mem_map,
    decide_eq_true_eq, mem_zoneNumbers, mem_circuitNumbers, true_and, List.not_mem_nil, or_false]
  constructor
  · exact fun h => ⟨fun k hk => ⟨h _ (.inl ⟨k, hk, .inl rfl⟩), h _ (.inl ⟨k, hk, .inr rfl⟩)⟩, h _ (.inr (.inl rfl)),
      fun j hj => h _ (.inr (.inr ⟨j, hj, rfl⟩))⟩
  · rintro ⟨hz, he, hc⟩ c (⟨k, hk, rfl | rfl⟩ | rfl | ⟨j, hj, rfl⟩)
    · exact (hz k hk).1
    · exact (hz k hk).2
    · exact he
    · exact hc j hj

/-- The check reports what it finds at the first schedule that fails. -/
theorem sealCheck_first {before after : List (Table × Bool × List Breakpoint)}
    (h : x.crawl < x.thread ∧ x.thread ≤ x.run)
    (hs : sealSchedules b zones circuits x = before ++ (t, temps, l) :: after)
    (hbefore : ∀ c ∈ before, SoundSchedule c.2.2 ∧ (c.2.1 = true → RisingValues c.2.2))
    (ho : checkSchedule t temps l = some o) : sealCheck b zones circuits x = o := by
  have hnone : before.findSome? (fun c => checkSchedule c.1 c.2.1 c.2.2) = none :=
    List.findSome?_eq_none_iff.2 fun c hc => checkSchedule_none.2 (hbefore c hc)
  rw [sealCheck, if_pos h, hs, List.findSome?_append, hnone, List.findSome?_cons, ho]
  rfl

/-- Settles O13: the thresholds, then the schedules in their order, each by its own check. -/
theorem sealCheckDecides : Obligations.SealCheckDecides := by
  unfold Obligations.SealCheckDecides
  refine fun b zones circuits x => ⟨?_, fun h => if_neg h,
    fun order before after t temps l h1 h2 horder hsplit hbefore => ?_⟩
  · by_cases h : x.crawl < x.thread ∧ x.thread ≤ x.run
    · rw [sealCheck_passed h, forall_sealSchedules]
      simp [h, and_assoc]
    · have hrej : sealCheck b zones circuits x = .rejected .thresholdOrder (some (.recipeScalars b)) none := if_neg h
      rw [hrej]
      simp only [reduceCtorEq, false_iff, not_and]
      exact fun ht => absurd ht h
  · have hs : sealSchedules b zones circuits x = before ++ (t, temps, l) :: after := horder.symm.trans hsplit
    refine ⟨fun hlen => ?_, fun i hlen hi hless => ?_, fun i hsound htemps hi hless => ?_⟩
    · exact sealCheck_first ⟨h1, h2⟩ hs hbefore (checkSchedule_short hlen)
    · exact sealCheck_first ⟨h1, h2⟩ hs hbefore (checkSchedule_speed hlen hi hless)
    · refine sealCheck_first ⟨h1, h2⟩ hs hbefore ?_
      rw [checkSchedule_sound hsound, if_pos htemps, tempFault_some hi hless]
      rfl

end Sys2Proof.Machine
end

section
/-! PROOF. The table window: OPEN_WINDOW, READ_NEXT, WRITE_NEXT and CLOSE_WINDOW in the order of their refusals
(R172 to R174). -/

namespace Sys2Proof.Machine

open Sys2Proof Sys2Proof.Machine

variable {p : Place} {s : State} {t : Table} {f : Bool} {m : WindowMode} {b : BankNo} {start : Nat}

/-! ## What OPEN_WINDOW judges (R172) -/

theorem directionOf_of {n : Nat} (h : n = if f then 1 else 255) : directionOf n = some f := by
  cases f <;> simp [directionOf, h]

theorem directionOf_none {n : Nat} (h1 : n ≠ 1) (h2 : n ≠ 255) : directionOf n = none := by
  simp [directionOf, h1, h2]

theorem directionOf_isSome {n : Nat} (h : n = 1 ∨ n = 255) : ∃ f, directionOf n = some f := by
  obtain rfl | rfl := h
  · exact ⟨true, rfl⟩
  · exact ⟨false, rfl⟩

theorem windowModeOf_beyond {n : Nat} (h : 3 ≤ n) : windowModeOf n = none := by
  match n, h with
  | n + 3, _ => rfl

/-- A window opens when nothing stands in its way. -/
theorem openBar_none (hread : m ≠ .read → t.readOnly = false) (hlist : m = .replace → t.isList = true)
    (hbar : m ≠ .read → writeBar t s = none) (hstart : start < tablePositions t s) : openBar t m start s = none := by
  by_cases hm : m = .read
  · simp [openBar, hm, hstart]
  · have hno : ¬ (m = .replace ∧ t.isList = false) := fun ⟨h1, h2⟩ => by simp [hlist h1] at h2
    simp [openBar, hm, hread hm, hno, hbar hm, hstart]

theorem openBar_kind (h : m ≠ .read ∧ t.readOnly = true ∨ m = .replace ∧ t.isList = false) :
    openBar t m start s = some .range := by
  unfold openBar
  split
  · rfl
  · next h1 => rw [if_pos (h.resolve_left h1)]

theorem openBar_read_beyond (h : tablePositions t s ≤ start) : openBar t .read start s = some .range := by
  simp [openBar, Nat.not_lt.2 h]

/-- For writing, the bank's state or a running STORE is judged before the start position. -/
theorem openBar_write (hm : m ≠ .read) (hread : t.readOnly = false) (hlist : m = .replace → t.isList = true) :
    openBar t m start s = match writeBar t s with
      | some st => some st
      | none => if start < tablePositions t s then none else some .range := by
  have hno : ¬ (m = .replace ∧ t.isList = false) := fun ⟨h1, h2⟩ => by simp [hlist h1] at h2
  simp only [openBar, hm, hread, hno, ne_eq, not_false_eq_true, Bool.false_eq_true, and_false,
    if_false] <;> rfl

theorem Table.bank?_of_commissioning (h : t.isCommissioning = true) : t.bank? = none := by
  cases t <;> simp_all [Table.isCommissioning, Table.bank?]

theorem writeBar_running (h : t.isCommissioning = true) (hr : s.agent.storeRunning = true) :
    writeBar t s = some .busy := by
  simp [writeBar, Table.bank?_of_commissioning h, h, hr]

theorem writeBar_checking (hb : t.bank? = some b) (h : (s.banks.get b).state.isChecking = true) :
    writeBar t s = some .busy := by
  obtain ⟨z, c, hst⟩ := BankState.isChecking_iff.1 h
  simp [writeBar, hb, hst]

theorem writeBar_locked (hb : t.bank? = some b)
    (h : (s.banks.get b).state.isPending = true ∨ (s.banks.get b).state = .active) : writeBar t s = some .locked := by
  rw [BankState.isPending_iff] at h
  obtain ⟨_, hst⟩ | hst := h <;> simp [writeBar, hb, hst]

/-- An executing OPEN_WINDOW has its window closed and its parameters there. -/
theorem openWindow_eq (h : Executes 3 7 p s) : openWindow p s = openJudged p (shutWindow s) :=
  needing_served _ h.serves

/-- A table, a direction and a mode that are named are judged by what stands in the way of the window. -/
theorem openWindow_named (h : Executes 3 7 p s)
    (ht : tableOf (p.byteParam 0) (p.byteParam 1) (p.byteParam 2) s = some t) (hd : directionOf (p.byteParam 5) = some f)
    (hm : windowModeOf (p.byteParam 6) = some m) : openWindow p s =
      match openBar t m (p.wordParam 3) (shutWindow s) with
      | some st => (shutWindow s, plain st)
      | none => openAt t m f (p.wordParam 3) (shutWindow s) := by
  rw [openWindow_eq h]
  simp only [openJudged, tableOf_shutWindow, ht, hd, hm] <;> rfl

theorem openWindow_unnamed (h : Executes 3 7 p s)
    (hno : tableOf (p.byteParam 0) (p.byteParam 1) (p.byteParam 2) s = none
      ∨ (p.byteParam 5 ≠ 1 ∧ p.byteParam 5 ≠ 255) ∨ 3 ≤ p.byteParam 6) :
    openWindow p s = (shutWindow s, plain .range) := by
  rw [openWindow_eq h, openJudged, tableOf_shutWindow]
  split
  · next t f m ht hd hm =>
    obtain h0 | ⟨h1, h2⟩ | h3 := hno
    · simp [h0] at ht
    · simp [directionOf_none h1 h2] at hd
    · simp [windowModeOf_beyond h3] at hm
  · rfl

/-- A window that does not empty its list opens on the table as it stands. -/
theorem openAt_plain (h : m ≠ .replace) (u : State) : openAt t m f start u =
    ({ u with agent.window := some ⟨t, m, f, (start : Int)⟩ }, doneWith (be16 (tableLength t u))) := by
  simp [openAt, h]

theorem setSchedule_empty (hb : t.bank? = some b) (hl : t.isList = true) (u : State) :
    tableLength t (editBank b (setSchedule t [] (u.banks.get b).recipe) u) = 0
      ∧ emptyList t u = editBank b (setSchedule t [] (u.banks.get b).recipe) u := by
  cases t <;> simp only [Table.bank?, Option.some.injEq, reduceCtorEq] at hb <;> simp [Table.isList] at hl <;> subst hb
  case zoneTemp => exact ⟨by simp [tableLength, scheduleOf, editBank, setSchedule], rfl⟩
  case zoneFan => exact ⟨by simp [tableLength, scheduleOf, editBank, setSchedule], rfl⟩
  case exhaust => exact ⟨by simp [tableLength, scheduleOf, editBank, setSchedule], rfl⟩
  case chill => exact ⟨by simp [tableLength, scheduleOf, editBank, setSchedule], rfl⟩

theorem Table.readOnly_of_bank (hb : t.bank? = some b) : t.readOnly = false := by
  cases t <;> simp_all [Table.bank?, Table.readOnly]

/-- Settles O7: what is named, then what stands in the way, then the window as its mode opens it. -/
theorem openWindowJudged : Obligations.OpenWindowJudged := by
  unfold Obligations.OpenWindowJudged
  refine ⟨fun p s t f m h ht hd hm hstart => ?_, fun p s h =>
    ⟨fun hno => h.answersWhole rfl (openWindow_unnamed h hno), fun t m ht hd hm => ?_⟩⟩
  · have hopen := openWindow_named h ht (directionOf_of hd) hm
    have hstart' : p.wordParam 3 < tablePositions t (shutWindow s) := by rwa [tablePositions_shutWindow]
    refine ⟨fun hread => h.answersWhole rfl ?_, fun hwrite hro hbar => h.answersWhole rfl ?_,
      fun hrep htab hrun => h.answersWhole rfl ?_, fun b hrep hb hl hbar => h.answersWhole rfl ?_⟩
    · rw [hopen, openBar_none (by simp [hread]) (by simp [hread]) (by simp [hread]) hstart', hread]
      simp only [openAt_plain (m := .read) (by decide), tableLength_shutWindow]
      rfl
    · rw [hopen, openBar_none (s := shutWindow s) (fun _ => hro) (by simp [hwrite]) (fun _ => hbar) hstart', hwrite]
      simp only [openAt_plain (m := .write) (by decide), tableLength_shutWindow]
      rfl
    · have hbar : writeBar t (shutWindow s) = none := by simp [writeBar, htab, Table.bank?, hrun]
      rw [hopen, openBar_none (by simp [htab, Table.readOnly]) (by simp [htab, Table.isList]) (fun _ => hbar) hstart',
        hrep, htab]
      have hlen : tableLength .slotMap (emptyList .slotMap (shutWindow s)) = 0 := rfl
      simp only [openAt, if_true, hlen]
      rfl
    · obtain ⟨hlen, hempty⟩ := setSchedule_empty hb hl (shutWindow s)
      rw [hopen, openBar_none (s := shutWindow s) (fun _ => Table.readOnly_of_bank hb) (fun _ => hl) (fun _ => hbar) hstart', hrep]
      simp only [openAt, if_true, hempty, hlen]
      rfl
  · obtain ⟨f, hf⟩ := directionOf_isSome hd
    have hopen := openWindow_named h ht hf hm
    refine ⟨fun hkind => h.answersWhole rfl ?_, fun hread hstart => h.answersWhole rfl ?_, fun hwrite hro hlist =>
      ⟨fun hbar hstart => h.answersWhole rfl ?_, fun hcomm hrun => h.answersWhole rfl ?_, fun b hb =>
        ⟨fun hcheck => h.answersWhole rfl ?_, fun hlock => h.answersWhole rfl ?_⟩⟩⟩
    · rw [hopen, openBar_kind hkind]; rfl
    · rw [hopen, hread, openBar_read_beyond (by rwa [tablePositions_shutWindow])]; rfl
    · rw [hopen, openBar_write hwrite hro hlist, writeBar_shutWindow, hbar, tablePositions_shutWindow,
        if_neg (Nat.not_lt.2 hstart)]
      rfl
    · rw [hopen, openBar_write hwrite hro hlist, writeBar_shutWindow, writeBar_running hcomm hrun]; rfl
    · rw [hopen, openBar_write hwrite hro hlist, writeBar_shutWindow, writeBar_checking hb hcheck]; rfl
    · rw [hopen, openBar_write hwrite hro hlist, writeBar_shutWindow, writeBar_locked hb hlock]; rfl

/-! ## READ_NEXT and CLOSE_WINDOW (R174) -/

/-- Settles O8: the window open or not, then the table and the cursor. -/
theorem readNextAndCloseWindow : Obligations.ReadNextAndCloseWindow := by
  unfold Obligations.ReadNextAndCloseWindow
  refine fun p s => ⟨fun w h hw => ?_, fun h hw => h.answersWhole rfl (readNext_closed h hw), fun h =>
    ⟨fun hw => h.answersWhole rfl ?_, fun hw => h.answersWhole rfl ?_⟩⟩
  · have hthrough : readNext p s = readThrough w s := by simp [readNext, h.serves, hw]
    refine ⟨fun hforce h0 hlen => h.answersWhole rfl ?_, fun hno => h.answersWhole rfl ?_⟩
    · rw [hthrough]
      simp [readThrough, hforce, h0, hlen, Window.moved]
    · rw [hthrough, readThrough]
      by_cases hforce : w.table.inForce s = false
      · rw [if_pos hforce]; rfl
      · rw [if_neg hforce, if_neg (by have := hno.resolve_left hforce; omega)]; rfl
  · obtain ⟨w, hw⟩ := Option.ne_none_iff_exists'.1 hw
    simp [closeWindow, h.serves, hw, closeWith, shutWindow]
  · simp [closeWindow, h.serves, hw, refuse]

/-! ## WRITE_NEXT (R174) -/

theorem Executes.lengthServes_iff {code need : Nat} (h : Executes code need p s) (n : Nat) :
    p.lengthServes n = true ↔ n ≤ p.length := by
  obtain ⟨_, _, _, _, _, h12⟩ := h
  simp [Place.lengthServes, h12]

theorem writeNext_short (h : p.lengthServes (writeNeed s.agent.window) = false) :
    writeNext p s = (shutWindow s, plain .range) := by
  simp [writeNext, h, closeWith]

theorem shutWindow_of_none (h : s.agent.window = none) : shutWindow s = s := by
  rw [shutWindow, ← h]

theorem writeNext_open {w : Window} (hw : s.agent.window = some w)
    (h : p.lengthServes (itemWidth w.table w.cursor.toNat) = true) : writeNext p s = writeOpen w p s := by
  simp [writeNext, hw, writeNeed, h]

/-- A window that lets items be written is judged by its table, what stands in the way, and its cursor. -/
theorem writeOpen_writing {w : Window} (h : w.mode ≠ .read) :
    writeOpen w p s = if w.table.inForce s = false then closeWith .range s else writeThrough w p s := by
  unfold writeOpen
  split
  · exact absurd ‹_› h
  · rfl
  · rfl

/-- Settles O9: the parameter length, the window, its mode, the table, the bank, the cursor, and then the item. -/
theorem writeNextJudged : Obligations.WriteNextJudged := by
  unfold Obligations.WriteNextJudged
  refine fun p s h => ⟨fun hw => ⟨fun hlen => h.answersWhole rfl ?_, fun hlen => h.answersWhole rfl ?_⟩, fun w hw =>
    ⟨fun hlen => h.answersWhole rfl ?_, fun hlen => ?_⟩⟩
  · rw [writeNext_short, shutWindow_of_none hw]
    rw [hw, Bool.eq_false_iff, ne_eq, h.lengthServes_iff, writeNeed]
    omega
  · have hserves : p.lengthServes 1 = true := (h.lengthServes_iff 1).2 hlen
    simp [writeNext, hw, writeNeed, hserves, refuse]
  · rw [writeNext_short]
    · rfl
    · rw [hw, Bool.eq_false_iff, ne_eq, h.lengthServes_iff, writeNeed]
      omega
  · have hopen := writeNext_open hw ((h.lengthServes_iff _).2 hlen)
    refine ⟨fun hread => h.answersWhole rfl ?_, fun hmode => ⟨fun hforce => h.answersWhole rfl ?_, fun hforce =>
      ⟨fun st hbar => h.answersWhole rfl ?_, fun hbar => ⟨fun hbeyond => h.answersWhole rfl ?_, fun hbeyond =>
        ⟨fun hitem => h.answersWhole rfl ?_, fun u hitem => h.answersWhole rfl ?_⟩⟩⟩⟩⟩
    · rw [hopen, writeOpen, hread]; rfl
    all_goals rw [hopen, writeOpen_writing hmode]
    · rw [if_pos hforce]; rfl
    all_goals rw [if_neg (by simp [hforce]), writeThrough]
    · simp only [hbar]; rfl
    all_goals simp only [hbar, hbeyond, if_true, Bool.false_eq_true, if_false]
    · rfl
    · simp only [hitem]; rfl
    · simp only [hitem]; rfl

end Sys2Proof.Machine
end

section
/-! PROOF. Names and entries on the wire: what is encoded is read back (R20 to R22, R191, R192). -/

namespace Sys2Proof.Machine

open Sys2Proof Sys2Proof.Machine

variable {p : Place} {s : State} {r : Role} {e : SlotEntry} {n : Nat}

/-! ## Bytes and words -/

theorem byte_toNat (n : Nat) : (byte n).toNat = n % 256 := by simp [byte]

theorem byte_toNat_of_lt (h : n < 256) : (byte n).toNat = n := by rw [byte_toNat, Nat.mod_eq_of_lt h]

/-- The number that two bytes of the wire carry. -/
def wordOf (l : List Byte) : Nat := byteAt l 0 * 256 + byteAt l 1

theorem wordOf_be16 (h : n < 65536) : wordOf (be16 n) = n := by
  simp only [wordOf, be16, byteAt, List.getD_cons_zero, List.getD_cons_succ, byte_toNat]
  omega

/-- A two's complement number is read back from its two bytes (R191). -/
theorem wordAs_be16Int {z : Int} (hlo : -32768 ≤ z) (hhi : z < 32768) : wordAs true (wordOf (be16Int z)) = z := by
  rw [be16Int, wordOf_be16 (by omega)]
  simp only [wordAs, if_true, signed16]
  split <;> omega

/-! ## Roles and tables -/

theorem Role.number_lt (r : Role) : r.number < 256 := by cases r <;> simp [Role.number]

theorem Role.wireIndex_lt (r : Role) : r.wireIndex < 256 := by
  cases r <;> simp only [Role.wireIndex] <;> omega

theorem zoneSelected_succ {k : Zone} (h : k.val < s.zoneCount) : s.zoneSelected (k.val + 1) = some k := by
  have hfin : wireFin 4 (k.val + 1) = some k := wireFin_iff.2 rfl
  simp [State.zoneSelected, hfin, h]

theorem circuitSelected_succ {j : Circuit} (h : j.val < s.circuitCount) : s.circuitSelected (j.val + 1) = some j := by
  have hfin : wireFin 3 (j.val + 1) = some j := wireFin_iff.2 rfl
  simp [State.circuitSelected, hfin, h]

/-- Every table is named by its position, bank and selector while it is in force. -/
theorem tableOf_name (t : Table) (s : State) (h : t.inForce s = true) :
    tableOf t.position ((t.bank?.map Fin.val).getD 0) t.selector s = some t := by
  cases t <;> simp only [Table.inForce, decide_eq_true_eq] at h <;>
    simp [tableOf, Table.position, Table.bank?, Table.selector, bankOf_val, zoneSelected_succ, circuitSelected_succ, h]

/-! ## Slot Map entries -/

/-- The safe value of a command role is read back from its two bytes (R20, R22). -/
theorem safeParam_encSafe {v : Option Int} (hc : r.isCommand = true) (h : SafeInRange r v) :
    safeParam r (wordOf (encSafe r v)) = some v := by
  unfold SafeInRange at h
  split at h
  · next hb =>
    have hs : r.isSigned = false := by cases r <;> simp_all [Role.isBurnerEnable, Role.isSigned]
    rw [h, safeParam, if_pos hb, if_pos]
    rw [encSafe, hs]
    exact .inr rfl
  · next hb =>
    rw [safeParam, if_neg hb]
    cases v with
    | none =>
      rw [if_pos]
      unfold encSafe absentWord
      split <;> rfl
    | some x =>
      obtain ⟨hlo, hhi⟩ := h x rfl
      have hword : wordAs r.isSigned (wordOf (encSafe r (some x))) = x ∧ wordOf (encSafe r (some x)) ≠ absentWord r := by
        unfold encSafe absentWord
        cases hs : r.isSigned
        · have hx : 0 ≤ x ∧ x < 65535 := by
            cases r <;> simp_all [Role.isCommand, Role.isSigned, Role.lowest, Role.highest] <;> omega
          have hw : wordOf (encOpt16 (some x.toNat)) = x.toNat := wordOf_be16 (by omega)
          simp only [Option.map_some, hw, wordAs, Bool.false_eq_true, if_false]
          omega
        · have hx : -400 ≤ x ∧ x ≤ 4500 := by
            cases r <;> simp_all [Role.isCommand, Role.isSigned, Role.lowest, Role.highest] <;> omega
          have hw : wordOf (encOptInt16 (some x)) = (x % 65536).toNat := wordOf_be16 (by omega)
          have hback := wordAs_be16Int (z := x) (by omega) (by omega)
          simp only [if_true]
          exact ⟨hback, by rw [hw]; omega⟩
      rw [if_neg hword.2, hword.1, if_pos ⟨hlo, hhi⟩]

theorem bounded_of {lo hi : Nat} (h : lo ≤ n ∧ n ≤ hi) : bounded lo hi n = some n := if_pos h

theorem authorityOf_code (a : Authority) : authorityOf a.code = some a := by cases a <;> rfl

theorem encSafe_two (r : Role) (v : Option Int) : ∃ x y, encSafe r v = [x, y] := by
  unfold encSafe
  split <;> cases v <;> exact ⟨_, _, rfl⟩

/-- The kind and its fields are read back from the last six bytes of an entry. -/
theorem useParam_encUse {tag : List Byte} (h : EntryInRange e) (hlen : tag.length = 5)
    (hp : p.params = tag ++ encUse e.role e.use ++ [0]) : useParam e.use.code e.role p = some e.use := by
  obtain ⟨-, -, -, huse⟩ := h
  have hat : ∀ i, byteAt p.params (5 + i) = byteAt (encUse e.role e.use ++ [0]) i := fun i => by
    rw [hp, List.append_assoc, byteAt, byteAt, List.getD_eq_getElem?_getD, List.getElem?_append_right (by omega),
      hlen, Nat.add_sub_cancel_left, List.getD_eq_getElem?_getD]
  have h5 := hat 0
  have h6 := hat 1
  have h7 := hat 2
  have h8 := hat 3
  have h9 := hat 4
  have h10 := hat 5
  obtain ⟨node, channel, role, use⟩ := e
  cases use with
  | sample n =>
    obtain ⟨hc, hn⟩ := huse
    have hbyte : p.byteParam 5 = n := h5.trans (byte_toNat_of_lt (by omega))
    simp [useParam, EntryUse.code, hc, hbyte, bounded_of hn]
  | echo n =>
    obtain ⟨hc, hn⟩ := huse
    have hbyte : p.byteParam 5 = n := h5.trans (byte_toNat_of_lt (by omega))
    simp [useParam, EntryUse.code, hc, hbyte, bounded_of hn]
  | hold => simp [useParam, EntryUse.code, show role.isCommand = true from huse]
  | command a v t m =>
    obtain ⟨hc, hsafe, ht, hm⟩ := huse
    obtain ⟨x, y, hxy⟩ := encSafe_two role v
    simp only [encUse, hxy] at h6 h7 h8 h9 h10
    have ha : p.byteParam 6 = a.code := h6.trans (byte_toNat_of_lt (by cases a <;> decide))
    have hw : p.wordParam 7 = wordOf (encSafe role v) := by
      rw [hxy, Place.wordParam]
      exact congr (congrArg (fun i j => i * 256 + j) h7) h8
    have htol : p.byteParam 9 = t := h9.trans (byte_toNat_of_lt (by omega))
    have hmiss : p.byteParam 10 = m := h10.trans (byte_toNat_of_lt (by omega))
    simp [useParam, EntryUse.code, hc, ha, authorityOf_code, hw, safeParam_encSafe hc hsafe, htol, hmiss,
      bounded_of (lo := 0) ⟨Nat.zero_le t, ht⟩, bounded_of hm]

/-- An entry in its ranges is read back from its bytes (R20 to R22). -/
theorem entryParam_entryItem (h : EntryInRange e) (hp : p.params = entryItem e ++ [0]) : entryParam p = some e := by
  have huse := useParam_encUse (tag := [byte e.node, byte e.channel, byte e.use.code] ++ encRole e.role) h rfl
    (by rw [hp, entryItem]; simp)
  obtain ⟨hlo, hhi, hch, -⟩ := h
  have hnode : p.byteParam 0 = e.node := by
    rw [Place.byteParam, hp]; exact byte_toNat_of_lt (by omega)
  have hchannel : p.byteParam 1 = e.channel := by
    rw [Place.byteParam, hp]; exact byte_toNat_of_lt (by omega)
  have hkind : p.byteParam 2 = e.use.code := by
    rw [Place.byteParam, hp]; exact byte_toNat_of_lt (by cases e.use <;> simp [EntryUse.code])
  have hnumber : p.byteParam 3 = e.role.number := by
    rw [Place.byteParam, hp]; exact byte_toNat_of_lt e.role.number_lt
  have hindex : p.byteParam 4 = e.role.wireIndex := by
    rw [Place.byteParam, hp]; exact byte_toNat_of_lt e.role.wireIndex_lt
  simp [entryParam, hnode, hchannel, hkind, hnumber, hindex, bounded_of ⟨hlo, hhi⟩,
    bounded_of (lo := 0) ⟨Nat.zero_le e.channel, hch⟩, roleOfWire_iff.2 ⟨rfl, rfl⟩, huse]

/-! ## Slot records -/

theorem slotKindOf_lt {code : Nat} {k : SlotKind} (h : slotKindOf code = some k) : code < 16 := by
  unfold slotKindOf at h
  split at h <;> first | omega | cases h

/-- A slot record's five bytes give its fields (R191). -/
theorem parseSlot_bytes {node channel code quality : Nat} {v : Word} {k : SlotKind} (hnode : node < 256)
    (hchannel : channel < 16) (hquality : quality < 256) (hk : slotKindOf code = some k) :
    parseSlot [byte node, byte (channel * 16 + code), byte quality, byte (v.toNat / 256), byte v.toNat] =
      some { node := node, channel := channel, kind := k, quality := qualityOf quality, value := v } := by
  have hcode := slotKindOf_lt hk
  have hbyte : (byte (channel * 16 + code)).toNat = channel * 16 + code := byte_toNat_of_lt (by omega)
  have hmod : (channel * 16 + code) % 16 = code := by omega
  have hdiv : (channel * 16 + code) / 16 = channel := by omega
  have hvalue : BitVec.ofNat 16 (fromBe16 (byte (v.toNat / 256)) (byte v.toNat)) = v := by
    have hv := v.isLt
    apply BitVec.eq_of_toNat_eq
    simp only [fromBe16, byte_toNat, BitVec.toNat_ofNat]
    omega
  simp [parseSlot, hbyte, hmod, hdiv, hk, byte_toNat_of_lt hnode, byte_toNat_of_lt hquality, hvalue]

/-- Settles O11: entries, tables, roles and slot records, each read back from its bytes. -/
theorem namesAndEntriesOnTheWire : Obligations.NamesAndEntriesOnTheWire := by
  unfold Obligations.NamesAndEntriesOnTheWire
  exact ⟨fun e p h hp => entryParam_entryItem h hp, tableOf_name, fun n i r => roleOfWire_iff,
    fun node channel code quality v k h1 h2 h3 h4 => parseSlot_bytes h1 h2 h3 h4⟩

end Sys2Proof.Machine
end

section
/-! PROOF. What WRITE_NEXT has written reads back, and nothing else has moved (R39, R174, R182). -/

namespace Sys2Proof.Machine

open Sys2Proof Sys2Proof.Machine

variable {p : Place} {s u : State} {t q : Table} {b : BankNo} {i j : Nat} {x y : Recipe} {k : Bank}

/-! ## The bytes of a parameter -/

/-- The bytes of the parameters from position `i` on, `n` of them. -/
def paramBytes (p : Place) (n : Nat) : List Byte := (List.range n).map fun m => byte (p.byteParam m)

theorem byte_high (a c : Nat) (hc : c ≤ 255) : byte ((a * 256 + c) / 256) = byte a := by
  rw [show (a * 256 + c) / 256 = a by omega]

theorem byte_low (a c : Nat) : byte (a * 256 + c) = byte c := by
  apply BitVec.eq_of_toNat_eq
  simp only [byte_toNat]
  omega

/-- A word of the parameters goes back to its two bytes. -/
theorem be16_wordParam (p : Place) (m : Nat) :
    be16 (p.wordParam m) = [byte (p.byteParam m), byte (p.byteParam (m + 1))] := by
  rw [be16, Place.wordParam, byte_high _ _ (byteAt_le _ _), byte_low]
  rfl

theorem be16Int_wordAs (signed : Bool) {n : Nat} (h : n ≤ 65535) : be16Int (wordAs signed n) = be16 n := by
  have hn : (wordAs signed n % 65536).toNat = n := by
    unfold wordAs signed16
    split
    · split <;> omega
    · omega
  rw [be16Int, hn]

theorem be16Int_wordParam (signed : Bool) (p : Place) (m : Nat) :
    be16Int (wordAs signed (p.wordParam m)) = [byte (p.byteParam m), byte (p.byteParam (m + 1))] := by
  rw [be16Int_wordAs signed (p.wordParam_le m), be16_wordParam]

/-! ## COMM_SCALARS -/

/-- A scalar written reads back. -/
theorem scalarItem_written {c d : Scalars} (h : writeScalar i (scalarParam i p) c = some d) :
    i < 24 ∧ scalarItem i d = paramBytes p (scalarWidth i) := by
  unfold writeScalar at h
  split at h <;> try cases h
  case h_8 | h_9 | h_24 =>
    obtain ⟨⟨-, hv⟩, rfl⟩ := ranged_eq_some.1 h
    have hp : p.byteParam 0 = 0 ∨ p.byteParam 0 = 1 := by
      simp [scalarParam, scalarWidth] at hv
      omega
    refine ⟨by omega, ?_⟩
    obtain hp | hp := hp <;> simp [scalarItem, scalarParam, scalarWidth, paramBytes, hp] <;> rfl
  case h_22 =>
    obtain ⟨⟨-, hv⟩, rfl⟩ := ranged_eq_some.1 h
    have hp : p.byteParam 0 = 0 ∨ p.byteParam 0 = 1 ∨ p.byteParam 0 = 2 ∨ p.byteParam 0 = 3 := by
      simp [scalarParam, scalarWidth] at hv
      omega
    refine ⟨by omega, ?_⟩
    obtain hp | hp | hp | hp := hp <;> simp [scalarItem, scalarParam, scalarWidth, paramBytes, hp] <;> rfl
  all_goals
    obtain ⟨-, rfl⟩ := ranged_eq_some.1 h
    refine ⟨by omega, ?_⟩
    simp [scalarItem, scalarParam, scalarWidth, paramBytes, be16_wordParam, List.range_succ]

/-- No other scalar has moved. -/
theorem scalarItem_others {c d : Scalars} {v : Nat} (h : writeScalar i v c = some d) (hj : j ≠ i) (hlt : j < 24) :
    scalarItem j d = scalarItem j c := by
  unfold writeScalar at h
  split at h <;> try cases h
  all_goals
    obtain ⟨-, rfl⟩ := ranged_eq_some.1 h
    iterate 24
      rcases j with _ | j
      · first | rfl | exact absurd rfl hj
    omega

/-! ## The tables of a bank -/

/-- The schedule of a recipe that a table is. -/
def scheduleIn (t : Table) (x : Recipe) : List Breakpoint :=
  match t with
  | .zoneTemp _ k => x.zoneTemp.get k
  | .zoneFan _ k => x.zoneFan.get k
  | .exhaust _ => x.exhaust
  | .chill _ j => x.chill.get j
  | _ => []

/-- Item `j` of a bank's table, from the bank. -/
def tableItem (q : Table) (j : Nat) (k : Bank) : List Byte :=
  match q with
  | .recipeScalars _ => recipeItem j k
  | .profiles _ => profileItem j k.recipe
  | _ => ((scheduleIn q k.recipe)[j]?.map breakpointItem).getD []

/-- The length of a bank's table. -/
def bankLength (q : Table) (x : Recipe) : Nat :=
  match q with
  | .recipeScalars _ => 20
  | .profiles _ => 22
  | _ => (scheduleIn q x).length

theorem itemAt_bank (h : q.bank? = some b) : itemAt q j s = tableItem q j (s.banks.get b) := by
  cases q <;> simp only [Table.bank?, Option.some.injEq, reduceCtorEq] at h <;> subst h <;> rfl

theorem tableLength_bank (h : q.bank? = some b) : tableLength q s = bankLength q (s.banks.get b).recipe := by
  cases q <;> simp only [Table.bank?, Option.some.injEq, reduceCtorEq] at h <;> subst h <;> rfl

/-- What a write of item `i` of a bank's table `t` from the parameters `p` makes of the recipe `x`. -/
structure Written (t : Table) (i : Nat) (p : Place) (x y : Recipe) : Prop where
  reads : x.films.length = 8 → (t.isList = true → i ≤ bankLength t x) →
    ∀ st c, tableItem t i { state := st, recipe := y, lastCheck := c } = paramBytes p (itemWidth t i)
  keeps : (t.isList = true → i ≤ bankLength t x) → ∀ q j st st' c, q.bank? = t.bank? → (q ≠ t ∨ j ≠ i) →
    j < bankLength q x →
      tableItem q j { state := st, recipe := y, lastCheck := c } = tableItem q j { state := st', recipe := x, lastCheck := c }
  others : ∀ q, q.bank? = t.bank? → q ≠ t → bankLength q y = bankLength q x
  length : (t.isList = true → i ≤ bankLength t x) →
    bankLength t y = if t.isList then max (bankLength t x) (i + 1) else bankLength t x

/-- The recipes whose schedules and profiles agree have all but RECIPE_SCALARS in common. -/
theorem tableItem_of_scalars {c : Option CheckOutcome} {st st' : BankState} (hz : y.zoneProfiles = x.zoneProfiles)
    (hc : y.circuitProfiles = x.circuitProfiles) (hs : ∀ t, scheduleIn t y = scheduleIn t x)
    (hq : ∀ b, q ≠ .recipeScalars b) :
    tableItem q j { state := st, recipe := y, lastCheck := c } = tableItem q j { state := st', recipe := x, lastCheck := c } := by
  cases q <;> simp [tableItem, profileItem, hz, hc, hs] at hq ⊢

theorem bankLength_of_scalars (hs : ∀ t, scheduleIn t y = scheduleIn t x) (q : Table) :
    bankLength q y = bankLength q x := by
  cases q <;> simp [bankLength, hs]

/-! ## RECIPE_SCALARS -/

theorem recipeItem_film {n : Nat} (hlo : 2 ≤ n) (hhi : n ≤ 9) (k : Bank) :
    recipeItem n k = be16 (k.recipe.films.getD (n - 2) 0) := by
  obtain ⟨k, rfl⟩ := Nat.exists_eq_add_of_le hlo
  iterate 8
    rcases k with _ | k
    · rfl
  omega

/-- A recipe scalar written reads back. -/
theorem recipeItem_written {st : BankState} {c : Option CheckOutcome} (h : writeRecipeItem i p x = some y)
    (hfilms : x.films.length = 8) :
    recipeItem i { state := st, recipe := y, lastCheck := c } = paramBytes p (recipeWidth i) := by
  unfold writeRecipeItem at h
  dsimp only at h
  split at h
  case h_1 =>
    obtain ⟨-, h⟩ := Option.ite_none_right_eq_some.1 h
    cases h
    rfl
  case h_12 =>
    obtain ⟨hn, h⟩ := Option.ite_none_right_eq_some.1 h
    obtain ⟨-, rfl⟩ := inRange_eq_some.1 h
    have hlt : i - 2 < (x.films.set (i - 2) (p.wordParam 0)).length := by rw [List.length_set]; omega
    have hwidth : recipeWidth i = 2 := by
      rw [recipeWidth, if_neg (by omega), if_neg (by omega)]
    rw [recipeItem_film hn.1 hn.2, hwidth]
    dsimp only
    rw [List.getD_eq_getElem?_getD, List.getElem?_eq_getElem hlt, List.getElem_set_self, Option.getD_some, be16_wordParam]
    rfl
  all_goals
    obtain ⟨-, rfl⟩ := inRange_eq_some.1 h
    simp [recipeItem, recipeWidth, paramBytes, be16_wordParam, List.range_succ]

/-- No other recipe scalar has moved. -/
theorem recipeItem_others {st st' : BankState} {c : Option CheckOutcome} (h : writeRecipeItem i p x = some y)
    (hj : j ≠ i) (hlt : j < 20) : recipeItem j { state := st, recipe := y, lastCheck := c } =
      recipeItem j { state := st', recipe := x, lastCheck := c } := by
  unfold writeRecipeItem at h
  dsimp only at h
  split at h
  case h_1 =>
    obtain ⟨-, h⟩ := Option.ite_none_right_eq_some.1 h
    cases h
    iterate 20
      rcases j with _ | j
      · first | rfl | exact absurd rfl hj
    omega
  case h_12 =>
    obtain ⟨hn, h⟩ := Option.ite_none_right_eq_some.1 h
    obtain ⟨-, rfl⟩ := inRange_eq_some.1 h
    by_cases hfilm : 2 ≤ j ∧ j ≤ 9
    · rw [recipeItem_film hfilm.1 hfilm.2, recipeItem_film hfilm.1 hfilm.2]
      simp [List.getD, List.getElem?_set_ne (show i - 2 ≠ j - 2 by omega)]
    · iterate 20
        rcases j with _ | j
        · first | rfl | omega
      omega
  all_goals
    obtain ⟨-, rfl⟩ := inRange_eq_some.1 h
    iterate 20
      rcases j with _ | j
      · first | rfl | exact absurd rfl hj
    omega

/-- Nothing but RECIPE_SCALARS has moved. -/
theorem writeRecipeItem_rest (h : writeRecipeItem i p x = some y) : y.zoneProfiles = x.zoneProfiles
    ∧ y.circuitProfiles = x.circuitProfiles ∧ ∀ t, scheduleIn t y = scheduleIn t x := by
  unfold writeRecipeItem at h
  dsimp only at h
  split at h
  case h_1 =>
    obtain ⟨-, h⟩ := Option.ite_none_right_eq_some.1 h
    cases h
    exact ⟨rfl, rfl, fun t => by cases t <;> rfl⟩
  case h_12 =>
    obtain ⟨-, h⟩ := Option.ite_none_right_eq_some.1 h
    obtain ⟨-, rfl⟩ := inRange_eq_some.1 h
    exact ⟨rfl, rfl, fun t => by cases t <;> rfl⟩
  all_goals
    obtain ⟨-, rfl⟩ := inRange_eq_some.1 h
    exact ⟨rfl, rfl, fun t => by cases t <;> rfl⟩

theorem Table.recipeScalars_of_bank (hb : q.bank? = some b) (h : ¬ ∀ b, q ≠ .recipeScalars b) : q = .recipeScalars b := by
  simp only [ne_eq, Classical.not_forall, Classical.not_not] at h
  obtain ⟨c, rfl⟩ := h
  simpa [Table.bank?] using hb

/-- A write of a recipe scalar moves that scalar alone. -/
theorem writeRecipeItem_written (h : writeRecipeItem i p x = some y) : Written (.recipeScalars b) i p x y := by
  obtain ⟨hz, hc, hs⟩ := writeRecipeItem_rest h
  refine ⟨fun hfilms _ st c => recipeItem_written h hfilms, fun _ q j st st' c hq hne hj => ?_,
    fun q _ _ => bankLength_of_scalars hs q, fun _ => rfl⟩
  by_cases hr : ∀ b, q ≠ .recipeScalars b
  · exact tableItem_of_scalars hz hc hs hr
  · have hqt := Table.recipeScalars_of_bank hq hr
    subst hqt
    exact recipeItem_others h (hne.resolve_left (Classical.not_not.2 rfl)) hj

/-! ## PROFILES -/

theorem zoneProfileField_set {f g : Nat} (hf : f < 4) (hg : g < 4) (v : Int) (z : ZoneProfile) :
    zoneProfileField g (setZoneProfile f v z) = if g = f then v else zoneProfileField g z := by
  iterate 4
    rcases f with _ | f
    · iterate 4
        rcases g with _ | g
        · rfl
      omega
  omega

theorem circuitProfileField_set {f g : Nat} (hf : f < 2) (hg : g < 2) (v : Int) (z : CircuitProfile) :
    circuitProfileField g (setCircuitProfile f v z) = if g = f then v else circuitProfileField g z := by
  iterate 2
    rcases f with _ | f
    · iterate 2
        rcases g with _ | g
        · rfl
      omega
  omega

/-- A profile written: that field carries the bytes of the parameters, every other is as it was. -/
theorem profileItem_written (h : writeProfileItem i p x = some y) (hlt : j < 22) :
    profileItem j y = if j = i then paramBytes p 2 else profileItem j x := by
  have hbytes : ∀ signed, be16Int (wordAs signed (p.wordParam 0)) = paramBytes p 2 := fun signed =>
    be16Int_wordParam signed p 0
  unfold writeProfileItem at h
  dsimp only at h
  split at h
  · next hi =>
    obtain ⟨-, h⟩ := Option.ite_none_right_eq_some.1 h
    cases h
    by_cases hj : j < 16
    · simp only [profileItem, dif_pos hj, Four.get_set, Fin.mk.injEq]
      by_cases hk : j / 4 = i / 4
      · have hfield : j % 4 = i % 4 ↔ j = i := by omega
        simp only [hk, if_true, zoneProfileField_set (Nat.mod_lt i (by decide)) (Nat.mod_lt j (by decide)), hfield]
        split
        · exact hbytes _
        · rfl
      · rw [if_neg hk, if_neg (show j ≠ i from fun e => hk (by rw [e]))]
    · rw [if_neg (by omega)]
      simp only [profileItem, dif_neg hj]
  · split at h
    · next hi16 hi =>
      obtain ⟨-, h⟩ := Option.ite_none_right_eq_some.1 h
      cases h
      by_cases hj : j < 16
      · rw [if_neg (by omega)]
        simp only [profileItem, dif_pos hj]
      · simp only [profileItem, dif_neg hj, dif_pos hlt, Three.get_set, Fin.mk.injEq]
        by_cases hk : (j - 16) / 2 = (i - 16) / 2
        · have hfield : j % 2 = i % 2 ↔ j = i := by omega
          simp only [hk, if_true, circuitProfileField_set (Nat.mod_lt i (by decide)) (Nat.mod_lt j (by decide)), hfield]
          split
          · exact hbytes _
          · rfl
        · rw [if_neg hk, if_neg (show j ≠ i from fun e => hk (by rw [e]))]
    · cases h

theorem writeProfileItem_lt (h : writeProfileItem i p x = some y) : i < 22 := by
  unfold writeProfileItem at h
  dsimp only at h
  split at h
  · omega
  · split at h
    · assumption
    · cases h

/-- Nothing but PROFILES has moved. -/
theorem writeProfileItem_rest (h : writeProfileItem i p x = some y) :
    (∀ j st st' c, recipeItem j { state := st, recipe := y, lastCheck := c } =
        recipeItem j { state := st', recipe := x, lastCheck := c }) ∧ ∀ t, scheduleIn t y = scheduleIn t x := by
  unfold writeProfileItem at h
  dsimp only at h
  split at h
  · obtain ⟨-, h⟩ := Option.ite_none_right_eq_some.1 h
    cases h
    exact ⟨fun _ _ _ _ => rfl, fun t => by cases t <;> rfl⟩
  · split at h
    · obtain ⟨-, h⟩ := Option.ite_none_right_eq_some.1 h
      cases h
      exact ⟨fun _ _ _ _ => rfl, fun t => by cases t <;> rfl⟩
    · cases h

/-- A write of a profile field moves that field alone. -/
theorem writeProfileItem_written (h : writeProfileItem i p x = some y) : Written (.profiles b) i p x y := by
  obtain ⟨hrecipe, hs⟩ := writeProfileItem_rest h
  refine ⟨fun _ _ st c => ?_, fun _ q j st st' c hq hne hj => ?_,
    fun q _ _ => bankLength_of_scalars hs q, fun _ => rfl⟩
  · exact (profileItem_written h (writeProfileItem_lt h)).trans (if_pos rfl)
  · cases q with
    | recipeScalars b' => exact hrecipe j st st' c
    | profiles b' =>
      have hb : b' = b := by simpa [Table.bank?] using hq
      have hij : j ≠ i := hne.resolve_left (by simp [hb])
      exact (profileItem_written h hj).trans (if_neg hij)
    | _ => simp only [tableItem, hs]

/-! ## Schedules -/

/-- A breakpoint written reads back. -/
theorem breakpointItem_param {r : Breakpoint} (h : breakpointParam t p = some r) :
    breakpointItem r = paramBytes p 4 := by
  obtain ⟨-, h⟩ := Option.ite_none_right_eq_some.1 h
  cases h
  simp only [breakpointItem, be16_wordParam, be16Int_wordParam]
  rfl

theorem getElem?_putAt_self {α : Type} {l : List α} {a : α} (h : i ≤ l.length) : (putAt i a l)[i]? = some a := by
  unfold putAt
  split
  · next hlt => exact List.getElem?_set_self hlt
  · next hge => rw [List.getElem?_append_right (by omega), show i - l.length = 0 by omega]; rfl

theorem getElem?_putAt_ne {α : Type} {l : List α} {a : α} (hj : j ≠ i) (hlt : j < l.length) :
    (putAt i a l)[j]? = l[j]? := by
  unfold putAt
  split
  · exact List.getElem?_set_ne (Ne.symm hj)
  · exact List.getElem?_append_left hlt

theorem length_putAt {α : Type} {l : List α} {a : α} (h : i ≤ l.length) : (putAt i a l).length = max l.length (i + 1) := by
  unfold putAt
  split
  · rw [List.length_set]; omega
  · rw [List.length_append, List.length_singleton]; omega

theorem scheduleIn_setSchedule_self (hb : t.bank? = some b) (hl : t.isList = true) (l : List Breakpoint) (x : Recipe) :
    scheduleIn t (setSchedule t l x) = l := by
  cases t <;> simp [Table.bank?, Table.isList] at hb hl <;> simp [scheduleIn, setSchedule]

/-- The other schedules of the bank stand. -/
theorem scheduleIn_setSchedule_ne (hq : q.bank? = t.bank?) (hne : q ≠ t) (l : List Breakpoint) (x : Recipe) :
    scheduleIn q (setSchedule t l x) = scheduleIn q x := by
  cases t <;> cases q <;> simp [Table.bank?] at hq <;> simp only [scheduleIn, setSchedule]
  case zoneTemp.zoneTemp => exact Four.get_set_ne _ _ fun h => hne (by rw [hq, h])
  case zoneFan.zoneFan => exact Four.get_set_ne _ _ fun h => hne (by rw [hq, h])
  case exhaust.exhaust => exact absurd (by rw [hq]) hne
  case chill.chill => exact Three.get_set_ne _ _ fun h => hne (by rw [hq, h])

theorem setSchedule_rest (t : Table) (l : List Breakpoint) (x : Recipe) :
    (∀ j st st' c, recipeItem j { state := st, recipe := setSchedule t l x, lastCheck := c } =
        recipeItem j { state := st', recipe := x, lastCheck := c })
      ∧ ∀ j, profileItem j (setSchedule t l x) = profileItem j x := by
  cases t <;> exact ⟨fun _ _ _ _ => rfl, fun _ => rfl⟩

theorem tableItem_list (hl : t.isList = true) (hb : t.bank? = some b) (k : Bank) :
    tableItem t j k = ((scheduleIn t k.recipe)[j]?.map breakpointItem).getD [] := by
  cases t <;> simp [Table.bank?, Table.isList] at hb hl <;> rfl

theorem bankLength_list (hl : t.isList = true) (hb : t.bank? = some b) (x : Recipe) :
    bankLength t x = (scheduleIn t x).length := by
  cases t <;> simp [Table.bank?, Table.isList] at hb hl <;> rfl

theorem itemWidth_list (hl : t.isList = true) (hb : t.bank? = some b) : itemWidth t i = 4 := by
  cases t <;> simp [Table.bank?, Table.isList] at hb hl <;> rfl

/-- A breakpoint put into a schedule moves that breakpoint alone. -/
theorem putBreakpoint_written {r : Breakpoint} (hb : t.bank? = some b) (hl : t.isList = true)
    (h : breakpointParam t p = some r) : Written t i p x (setSchedule t (putAt i r (scheduleIn t x)) x) := by
  obtain ⟨hrecipe, hprofile⟩ := setSchedule_rest t (putAt i r (scheduleIn t x)) x
  have hself := scheduleIn_setSchedule_self hb hl (putAt i r (scheduleIn t x)) x
  have hlist : i ≤ bankLength t x → i ≤ (scheduleIn t x).length := fun hi => by rwa [bankLength_list hl hb] at hi
  refine ⟨fun _ hi st c => ?_, fun hi q j st st' c hq hne hj => ?_, fun q hq hne => ?_, fun hi => ?_⟩
  · rw [tableItem_list hl hb, itemWidth_list hl hb]
    dsimp only
    rw [hself, getElem?_putAt_self (hlist (hi hl))]
    exact breakpointItem_param h
  · by_cases hqt : q = t
    · subst hqt
      rw [tableItem_list hl hb, tableItem_list hl hb]
      dsimp only
      rw [bankLength_list hl hb] at hj
      rw [hself, getElem?_putAt_ne (hne.resolve_left (Classical.not_not.2 rfl)) hj]
    · have hother := scheduleIn_setSchedule_ne hq hqt (putAt i r (scheduleIn t x)) x
      cases q with
      | recipeScalars b' => exact hrecipe j st st' c
      | profiles b' => exact hprofile j
      | _ => simp only [tableItem, hother]
  · have hother := scheduleIn_setSchedule_ne hq hne (putAt i r (scheduleIn t x)) x
    cases q <;> simp only [bankLength, hother]
  · rw [bankLength_list hl hb, bankLength_list hl hb, hself, if_pos hl, length_putAt (hlist (hi hl))]

/-! ## WRITE_NEXT's item -/

/-- A write to a bank's table is a write to its recipe. -/
theorem writeItem_written (hb : t.bank? = some b) (h : writeItem t i p s = some u) :
    ∃ y, u = editBank b y s ∧ Written t i p (s.banks.get b).recipe y := by
  cases t <;> simp only [Table.bank?, Option.some.injEq, reduceCtorEq] at hb <;> subst hb <;>
    obtain ⟨y, hy, rfl⟩ := Option.map_eq_some_iff.1 h
  case recipeScalars => exact ⟨_, rfl, writeRecipeItem_written hy⟩
  case profiles => exact ⟨_, rfl, writeProfileItem_written hy⟩
  all_goals exact ⟨_, rfl, putBreakpoint_written rfl rfl hy⟩

/-- A write to a bank leaves what other tables than the bank's hold. -/
theorem editBank_others (hq : q.bank? ≠ some b) (y : Recipe) (s : State) :
    itemAt q j (editBank b y s) = itemAt q j s ∧ tableLength q (editBank b y s) = tableLength q s := by
  cases hqb : q.bank? with
  | none => cases q <;> simp only [Table.bank?, reduceCtorEq] at hqb <;> exact ⟨rfl, rfl⟩
  | some c =>
    have hget : (editBank b y s).banks.get c = s.banks.get c :=
      Four.get_set_ne _ _ fun e => hq (by rw [hqb, e])
    rw [itemAt_bank hqb, itemAt_bank hqb, tableLength_bank hqb, tableLength_bank hqb, hget]
    exact ⟨rfl, rfl⟩

theorem editBank_get (b : BankNo) (y : Recipe) (s : State) : (editBank b y s).banks.get b =
    { state := .editing, recipe := y, lastCheck := (s.banks.get b).lastCheck } := Four.get_set_self _ _ _

/-- A write to the working copy leaves what the other tables hold. -/
theorem working_others {w : CommRecord} (h1 : q ≠ .commScalars) (h2 : q ≠ .slotMap) :
    itemAt q j { s with comm.working := w } = itemAt q j s
      ∧ tableLength q { s with comm.working := w } = tableLength q s := by
  cases q <;> first | exact ⟨rfl, rfl⟩ | exact absurd rfl h1 | exact absurd rfl h2

/-- What a write to a scalar of the working copy gives. -/
theorem writeItem_scalars (h : writeItem .commScalars i p s = some u) :
    ∃ c, writeScalar i (scalarParam i p) s.comm.working.scalars = some c ∧ u = { s with comm.working.scalars := c } := by
  obtain ⟨c, hc, rfl⟩ := Option.map_eq_some_iff.1 h
  exact ⟨c, hc, rfl⟩

theorem writeItem_map (h : writeItem .slotMap i p s = some u) :
    ∃ e, entryParam p = some e ∧ u = { s with comm.working.map := putAt i e s.comm.working.map } := by
  obtain ⟨e, he, rfl⟩ := Option.map_eq_some_iff.1 h
  exact ⟨e, he, rfl⟩

/-- The item written reads back. -/
theorem writeItem_reads (h : writeItem t i p s = some u) (hmap : t ≠ .slotMap)
    (hi : t.isList = true → i ≤ tableLength t s) (hlaw : RecipeLaw s) : itemAt t i u = paramBytes p (itemWidth t i) := by
  cases hb : t.bank? with
  | some b =>
    obtain ⟨y, rfl, hy⟩ := writeItem_written hb h
    obtain ⟨-, -, ⟨hfilms, -⟩, -⟩ := hlaw b
    rw [itemAt_bank hb, editBank_get]
    exact hy.reads hfilms (by rwa [tableLength_bank hb] at hi) _ _
  | none =>
    cases t with
    | commScalars =>
      obtain ⟨c, hc, rfl⟩ := writeItem_scalars h
      exact (scalarItem_written hc).2
    | slotMap => exact absurd rfl hmap
    | recipeScalars | profiles | zoneTemp | zoneFan | exhaust | chill => simp [Table.bank?] at hb
    | board | commands | sequencer | dryer | safetyParams | publications => cases h

/-- Every other item of every table stands. -/
theorem writeItem_keeps (h : writeItem t i p s = some u) (hi : t.isList = true → i ≤ tableLength t s)
    (hne : q ≠ t ∨ j ≠ i) (hj : j < tableLength q s) : itemAt q j u = itemAt q j s := by
  cases hb : t.bank? with
  | some b =>
    obtain ⟨y, rfl, hy⟩ := writeItem_written hb h
    by_cases hq : q.bank? = some b
    · rw [itemAt_bank hq, itemAt_bank hq, editBank_get]
      rw [tableLength_bank hq] at hj
      exact hy.keeps (by rwa [tableLength_bank hb] at hi) q j _ (s.banks.get b).state _ (hq.trans hb.symm) hne hj
    · exact (editBank_others hq y s).1
  | none =>
    cases t with
    | commScalars =>
      obtain ⟨c, hc, rfl⟩ := writeItem_scalars h
      by_cases h1 : q = .commScalars
      · subst h1
        exact scalarItem_others hc (hne.resolve_left (Classical.not_not.2 rfl)) hj
      · by_cases h2 : q = .slotMap
        · subst h2; rfl
        · exact (working_others h1 h2).1
    | slotMap =>
      obtain ⟨e, he, rfl⟩ := writeItem_map h
      by_cases h2 : q = .slotMap
      · subst h2
        have hget := getElem?_putAt_ne (a := e) (hne.resolve_left (Classical.not_not.2 rfl)) hj
        exact congrArg (fun o : Option SlotEntry => (o.map entryItem).getD []) hget
      · by_cases h1 : q = .commScalars
        · subst h1; rfl
        · exact (working_others h1 h2).1
    | recipeScalars | profiles | zoneTemp | zoneFan | exhaust | chill => simp [Table.bank?] at hb
    | board | commands | sequencer | dryer | safetyParams | publications => cases h

/-- Every other table keeps its length. -/
theorem writeItem_lengths (h : writeItem t i p s = some u) (hq : q ≠ t) : tableLength q u = tableLength q s := by
  cases hb : t.bank? with
  | some b =>
    obtain ⟨y, rfl, hy⟩ := writeItem_written hb h
    by_cases hqb : q.bank? = some b
    · rw [tableLength_bank hqb, tableLength_bank hqb, editBank_get]
      exact hy.others q (hqb.trans hb.symm) hq
    · exact (editBank_others (j := 0) hqb y s).2
  | none =>
    cases t with
    | commScalars =>
      obtain ⟨c, hc, rfl⟩ := writeItem_scalars h
      by_cases h2 : q = .slotMap
      · subst h2; rfl
      · exact (working_others (j := 0) hq h2).2
    | slotMap =>
      obtain ⟨e, he, rfl⟩ := writeItem_map h
      by_cases h1 : q = .commScalars
      · subst h1; rfl
      · exact (working_others (j := 0) h1 hq).2
    | recipeScalars | profiles | zoneTemp | zoneFan | exhaust | chill => simp [Table.bank?] at hb
    | board | commands | sequencer | dryer | safetyParams | publications => cases h

/-- A list grows only where the item stands at its end. -/
theorem writeItem_length (h : writeItem t i p s = some u) (hi : t.isList = true → i ≤ tableLength t s) :
    tableLength t u = if t.isList then max (tableLength t s) (i + 1) else tableLength t s := by
  cases hb : t.bank? with
  | some b =>
    obtain ⟨y, rfl, hy⟩ := writeItem_written hb h
    rw [tableLength_bank hb, tableLength_bank hb, editBank_get]
    exact hy.length (by rwa [tableLength_bank hb] at hi)
  | none =>
    cases t with
    | commScalars => rfl
    | slotMap =>
      obtain ⟨e, he, rfl⟩ := writeItem_map h
      exact length_putAt (hi rfl)
    | recipeScalars | profiles | zoneTemp | zoneFan | exhaust | chill => simp [Table.bank?] at hb
    | board | commands | sequencer | dryer | safetyParams | publications => cases h

/-- Settles O10: on a bank's table by what a write makes of its recipe, on the others by the working copy. -/
theorem writtenItemReadsBack : Obligations.WrittenItemReadsBack := by
  unfold Obligations.WrittenItemReadsBack
  refine ⟨fun t i p s u h hmap hi hlaw => writeItem_reads h hmap hi hlaw,
    fun t i p s u h => ⟨fun hb => writeItem_working hb h, fun b hb => ?_⟩,
    fun t i p s u h hi => ⟨fun q j hne hj => writeItem_keeps h hi hne hj, fun q hq => writeItem_lengths h hq,
      writeItem_length h hi⟩, fun i p s u h hi => ?_⟩
  · obtain ⟨y, rfl, -⟩ := writeItem_written hb h
    rw [editBank_get]
    rfl
  · obtain ⟨e, he, rfl⟩ := writeItem_map h
    have hget := getElem?_putAt_self (a := e) hi
    exact ⟨e, he, hget, congrArg (fun o : Option SlotEntry => (o.map entryItem).getD []) hget, rfl⟩

end Sys2Proof.Machine
end

section
/-! PROOF. A refresh at the Web Sequencer: the transition, the line return, the counts and the hand-over of a splice
(R94, R99, R101, R105, R109, R112, R113). -/

namespace Sys2Proof.Machine

open Sys2Proof Sys2Proof.Machine

variable {s t u : State} {r : Refresh} {n : Nat} {b : BankNo} {m : PendingMode} {src : BreakSource}

/-! ## What no transition moves -/

/-- The parts of the sequencer that the shared events leave alone: the preheat flag, the latch, the memories, the count
owed, the reference, the ignored sources and the line return owed. -/
def WebSeq.aside (w : WebSeq) : Bool × Bool × Bool × Bool × Bool × Level × Nat × Bool :=
  (w.preheat, w.latch, w.memLine, w.memPin, w.countDue, w.reference, w.ignored, w.returnDue)

/-- What the end of a break or a web sets aside as well: the dwell, the source and the exhaust of a break. -/
def WebSeq.breakData (w : WebSeq) : Nat × Option BreakSource × Option Int := (w.dwell, w.source, w.exhaustAtBreak)

theorem discardResume_kept (k : DiscardCause) (s : State) :
    (discardResume k s).web.aside = s.web.aside ∧ (discardResume k s).web.breakData = s.web.breakData := by
  rw [discardResume_web]
  split
  · split <;> exact ⟨rfl, rfl⟩
  · exact ⟨rfl, rfl⟩

theorem changeover_kept (b : BankNo) (s : State) :
    (changeover b s).web.aside = s.web.aside ∧ (changeover b s).web.breakData = s.web.breakData := by
  by_cases h : ∀ r, s.web.record = some r → r.bank = b
  · rw [changeover_same h, changedOver_web]
    exact ⟨rfl, rfl⟩
  · simp only [Classical.not_forall] at h
    obtain ⟨r, hr, hb⟩ := h
    rw [changeover_other hr hb]
    have hkept := discardResume_kept .changeover (changedOver b s)
    rwa [changedOver_web] at hkept

/-- Out of RESUMING a changeover leaves the state of the web. -/
theorem changeover_state (h : s.web.state ≠ .resuming) : (changeover b s).web.state = s.web.state := by
  by_cases hr : ∀ r, s.web.record = some r → r.bank = b
  · rw [changeover_same hr, changedOver_web]
  · simp only [Classical.not_forall] at hr
    obtain ⟨r, hr, hb⟩ := hr
    rw [changeover_other hr hb, discardResume_web, changedOver_web]
    simp only [if_neg h]
    split <;> rfl

/-- The bank PENDING with the mode of the event takes over; with none there is no event (R51, R52). -/
theorem changeoverEvent_eq (m : PendingMode) (s : State) :
    (∃ b, pendingBank s.banks = some b ∧ (s.banks.get b).state = .pending m ∧ changeoverEvent m s = changeover b s)
      ∨ ((∀ b, pendingBank s.banks = some b → (s.banks.get b).state ≠ .pending m) ∧ changeoverEvent m s = s) := by
  unfold changeoverEvent
  cases hp : pendingBank s.banks with
  | none => exact .inr ⟨fun _ h => (nomatch h), rfl⟩
  | some b =>
    by_cases hb : (s.banks.get b).state = .pending m
    · exact .inl ⟨b, rfl, hb, if_pos hb⟩
    · exact .inr ⟨fun c h => (Option.some.inj h) ▸ hb, if_neg hb⟩

theorem changeoverEvent_none (h : ∀ b, (s.banks.get b).state ≠ .pending m) : changeoverEvent m s = s := by
  obtain ⟨b, -, hb, -⟩ | ⟨-, hs⟩ := changeoverEvent_eq m s
  · exact absurd hb (h b)
  · exact hs

theorem changeoverEvent_some (hp : pendingBank s.banks = some b) (hb : (s.banks.get b).state = .pending m) :
    changeoverEvent m s = changeover b s := by
  simp [changeoverEvent, hp, hb]

theorem changeoverEvent_kept (m : PendingMode) (s : State) :
    (changeoverEvent m s).web.aside = s.web.aside ∧ (changeoverEvent m s).web.breakData = s.web.breakData := by
  obtain ⟨b, -, -, hs⟩ | ⟨-, hs⟩ := changeoverEvent_eq m s <;> rw [hs]
  · exact changeover_kept b s
  · exact ⟨rfl, rfl⟩

theorem changeoverEvent_state (h : s.web.state ≠ .resuming) : (changeoverEvent m s).web.state = s.web.state := by
  obtain ⟨b, -, -, hs⟩ | ⟨-, hs⟩ := changeoverEvent_eq m s <;> rw [hs]
  exact changeover_state h

/-- The web as it becomes STOPPED, before the hand-over of a bank PENDING AT_STOP. -/
def stoppedWeb (s : State) : State := { s with web := { clearBreakData s.web with state := .stopped } }

theorem stoppedEntry_state (s : State) : (stoppedEntry s).web.state = .stopped :=
  changeoverEvent_state (s := stoppedWeb s) (by decide : WebState.stopped ≠ .resuming)

theorem stoppedEntry_source (s : State) : (stoppedEntry s).web.source = none :=
  congrArg (fun d => d.2.1) (changeoverEvent_kept .atStop (stoppedWeb s)).2

theorem resumeExpiry_web (s : State) : (resumeExpiry s).web.state = .threading ∧ (resumeExpiry s).web.record = none
    ∧ (resumeExpiry s).web.timer = none := by
  refine ⟨rfl, ?_, rfl⟩
  simp only [resumeExpiry, discardResume_web]
  split
  · split <;> rfl
  · simp_all

/-- A transition moves none of what the shared events leave alone. -/
theorem transition_aside (o : Option BreakSource) (s : State) : (transition o s).web.aside = s.web.aside := by
  have hbreak : ∀ b, (breakEntry b s).web.aside = s.web.aside := fun b => by rw [breakEntry_web]; rfl
  have hstop : (stoppedEntry s).web.aside = s.web.aside := (changeoverEvent_kept .atStop (stoppedWeb s)).1
  have hexpiry : (resumeExpiry s).web.aside = s.web.aside := (discardResume_kept .timeout s).1
  unfold transition
  repeat' split
  all_goals first | rfl | exact hbreak _ | exact hstop | exact hexpiry

/-! ## The transitions (R94) -/

/-- The web moves: THREADING, RUNNING or RESUMING. -/
def State.moves (s : State) : Prop := s.web.state = .threading ∨ s.web.state = .running ∨ s.web.state = .resuming

/-- The press stands below the crawl threshold, and its speed is measured. -/
def State.stepsDown (s : State) : Bool := s.belowCrawl && s.speedMoves

theorem transition_source (h : s.moves) : transition (some src) s = breakEntry src s := by
  obtain h | h | h := h <;> simp [transition, h]

theorem transition_down (h : s.moves) (hd : s.stepsDown = true) : transition none s = stoppedEntry s := by
  unfold State.stepsDown at hd
  obtain h | h | h := h <;> simp only [transition, h, hd, if_true]

theorem transition_threading (h : s.web.state = .threading) (hd : s.stepsDown = false) :
    transition none s = if s.runCondition then runningEntry s else s := by
  unfold State.stepsDown at hd
  simp only [transition, h, hd, Bool.false_eq_true, if_false]

theorem transition_running (h : s.web.state = .running) (hd : s.stepsDown = false) :
    transition none s = if s.impression = some false then { s with web.state := .threading } else s := by
  unfold State.stepsDown at hd
  simp only [transition, h, hd, Bool.false_eq_true, if_false]

theorem transition_resuming (h : s.web.state = .resuming) (hd : s.stepsDown = false) :
    transition none s =
      if s.runCondition then runningEntry s else if s.web.timer = some 0 then resumeExpiry s else s := by
  unfold State.stepsDown at hd
  simp only [transition, h, hd, Bool.false_eq_true, if_false]

theorem transition_break (o : Option BreakSource) (h : s.web.state = .break) :
    transition o s = if s.web.dwell = 0 ∧ s.belowCrawl = true then stoppedEntry s else s := by
  simp only [transition, h]

theorem transition_stopped (o : Option BreakSource) (h : s.web.state = .stopped) :
    transition o s = if !s.belowCrawl && s.speedMoves then
        (if s.web.record.isSome then resumingEntry s else { s with web.state := .threading })
      else s := by
  simp only [transition, h]
  cases s.web.record <;> rfl

/-- Only the entry to STOPPED leads there from another state. -/
theorem transition_to_stopped (o : Option BreakSource) (h : s.web.state ≠ .stopped)
    (ht : (transition o s).web.state = .stopped) : transition o s = stoppedEntry s := by
  have hbreak : ∀ b, (breakEntry b s).web.state ≠ .stopped := fun b => by rw [breakEntry_web]; exact nofun
  have hmoves : s.moves → transition o s = stoppedEntry s := fun hm => by
    cases o with
    | some b => exact absurd (transition_source hm ▸ ht) (hbreak b)
    | none =>
      by_cases hd : s.stepsDown = true
      · exact transition_down hm hd
      · rw [Bool.not_eq_true] at hd
        obtain hst | hst | hst := hm
        · rw [transition_threading hst hd] at ht
          split at ht
          · exact absurd ht (by simp [runningEntry])
          · exact absurd ht h
        · rw [transition_running hst hd] at ht
          split at ht
          · exact absurd ht (by simp)
          · exact absurd ht h
        · rw [transition_resuming hst hd] at ht
          split at ht
          · exact absurd ht (by simp [runningEntry])
          · split at ht
            · exact absurd ht (by rw [(resumeExpiry_web s).1]; simp)
            · exact absurd ht h
  cases hst : s.web.state with
  | stopped => exact absurd hst h
  | threading => exact hmoves (.inl hst)
  | running => exact hmoves (.inr (.inl hst))
  | resuming => exact hmoves (.inr (.inr hst))
  | _ => -- BREAK
    rw [transition_break o hst] at ht ⊢
    split at ht
    · next hd => exact if_pos hd
    · exact absurd ht h

/-! ## The judged refresh -/

/-- The sequencer of a judged refresh before its transition: the sources counted, the latch consumed, the memories and
the counts moved (R99, R101, R105, R109). -/
def counted (n : Nat) (s : State) : State :=
  { s with web := countDown n { s.web with
      ignored := satAdd top32 s.web.ignored (ignoredAt s)
      latch := false
      memLine := s.lineBreakPresent
      memPin := s.pinPresent
      countDue := s.pinNames } }

theorem judgeWeb_eq (n : Nat) (s : State) : judgeWeb n s = transition s.sources.head? (counted n s) := rfl

theorem countDown_state (n : Nat) (w : WebSeq) : (countDown n w).state = w.state ∧ (countDown n w).aside = w.aside
    ∧ (countDown n w).record = w.record ∧ (countDown n w).preheat = w.preheat := by
  unfold countDown; split <;> exact ⟨rfl, rfl, rfl, rfl⟩

theorem counted_state (n : Nat) (s : State) : (counted n s).web.state = s.web.state := (countDown_state n _).1

theorem counted_record (n : Nat) (s : State) : (counted n s).web.record = s.web.record := (countDown_state n _).2.2.1

theorem counted_moves : (counted n s).moves ↔ s.moves := by
  unfold State.moves; rw [counted_state]

theorem counted_resuming (n : Nat) (h : s.web.state = .resuming) :
    (counted n s).web.timer = s.web.timer.map fun k => k - n := by
  simp only [counted, countDown, h]

theorem counted_break (n : Nat) (h : s.web.state = .break) : (counted n s).web.dwell = s.web.dwell - n := by
  simp only [counted, countDown, h]

/-- A judged refresh out of a line return and without a splice is one transition. -/
theorem webReaction_judged (hj : judged r s = true) (he : r.entry = false) (hd : s.web.returnDue = false)
    (hs : s.board.splice = false) : react r .webSequencer s = judgeWeb r.step s := by
  show webReaction r s = _
  have hsplice : (judgeWeb r.step s).board.splice = false := by simp [hs]
  simp only [webReaction, hj, he, hd, Bool.or_self, if_true, Bool.false_eq_true, if_false, handSplice, hsplice]

theorem head_eq_none (h : s.sources = []) : s.sources.head? = none := by rw [h]; rfl

theorem judgeWeb_source (h : s.moves) (hb : s.sources.head? = some src) :
    (judgeWeb n s).web.state = .break ∧ (judgeWeb n s).web.source = some src := by
  rw [judgeWeb_eq, hb, transition_source (counted_moves.2 h), breakEntry_web]
  exact ⟨rfl, rfl⟩

theorem judgeWeb_down (h : s.moves) (hs : s.sources = []) (hd : s.stepsDown = true) :
    (judgeWeb n s).web.state = .stopped := by
  rw [judgeWeb_eq, head_eq_none hs, transition_down (counted_moves.2 h) hd, stoppedEntry_state]

theorem runCondition_iff (s : State) :
    s.runCondition = true ↔ s.impression = some true ∧ s.runThreshold ≤ s.board.actual := by
  simp [State.runCondition]

theorem judgeWeb_threading (h : s.web.state = .threading) (hs : s.sources = []) (hd : s.stepsDown = false) :
    (judgeWeb n s).web.state =
      if s.impression = some true ∧ s.runThreshold ≤ s.board.actual then .running else .threading := by
  have hst := (counted_state n s).trans h
  rw [judgeWeb_eq, head_eq_none hs, transition_threading hst hd]
  simp only [← runCondition_iff s]
  show (if s.runCondition = true then runningEntry (counted n s) else counted n s).web.state = _
  split
  · rfl
  · exact hst

theorem judgeWeb_running (h : s.web.state = .running) (hs : s.sources = []) (hd : s.stepsDown = false) :
    (judgeWeb n s).web.state = if s.impression = some false then .threading else .running := by
  have hst := (counted_state n s).trans h
  rw [judgeWeb_eq, head_eq_none hs, transition_running hst hd]
  show (if s.impression = some false then { counted n s with web.state := .threading } else counted n s).web.state = _
  split
  · rfl
  · exact hst

/-- A RESUMING web runs again, or is THREADING as its timer ends, or resumes on. -/
theorem judgeWeb_resuming {k : Nat} (h : s.web.state = .resuming) (hk : s.web.timer = some k) (hs : s.sources = [])
    (hd : s.stepsDown = false) :
    (s.impression = some true → s.runThreshold ≤ s.board.actual → (judgeWeb n s).web.state = .running
      ∧ (judgeWeb n s).web.record = none ∧ (judgeWeb n s).web.timer = none)
    ∧ (¬ (s.impression = some true ∧ s.runThreshold ≤ s.board.actual) →
      (k ≤ n → (judgeWeb n s).web.state = .threading ∧ (judgeWeb n s).web.record = none
        ∧ (judgeWeb n s).web.timer = none)
      ∧ (n < k → (judgeWeb n s).web.state = .resuming ∧ (judgeWeb n s).web.timer = some (k - n)
        ∧ (judgeWeb n s).web.record = s.web.record)) := by
  have hst := (counted_state n s).trans h
  have htimer : (counted n s).web.timer = some (k - n) := by rw [counted_resuming n h, hk]; rfl
  rw [judgeWeb_eq, head_eq_none hs, transition_resuming hst hd]
  have hrun : (counted n s).runCondition = s.runCondition := rfl
  rw [hrun]
  refine ⟨fun hi ha => ?_, fun hno => ?_⟩
  · rw [if_pos ((runCondition_iff s).2 ⟨hi, ha⟩)]
    exact ⟨rfl, rfl, rfl⟩
  · rw [if_neg fun hc => hno ((runCondition_iff s).1 hc), htimer]
    refine ⟨fun hle => ?_, fun hlt => ?_⟩
    · rw [if_pos (by rw [Nat.sub_eq_zero_of_le hle])]
      exact resumeExpiry_web _
    · rw [if_neg (by simp; omega)]
      exact ⟨hst, htimer, counted_record n s⟩

theorem belowCrawl_iff (s : State) : s.belowCrawl = true ↔ s.board.actual < s.crawl := by simp [State.belowCrawl]

/-- A web in BREAK stops when its dwell has run and the press stands below the crawl threshold. -/
theorem judgeWeb_break (h : s.web.state = .break) :
    (s.web.dwell ≤ n → s.board.actual < s.crawl → (judgeWeb n s).web.state = .stopped
      ∧ (judgeWeb n s).web.source = none)
    ∧ (n < s.web.dwell ∨ s.crawl ≤ s.board.actual → (judgeWeb n s).web.state = .break
      ∧ (judgeWeb n s).web.dwell = s.web.dwell - n) := by
  have hst := (counted_state n s).trans h
  have hbelow : (counted n s).belowCrawl = s.belowCrawl := rfl
  rw [judgeWeb_eq, transition_break _ hst, counted_break n h, hbelow]
  refine ⟨fun hd ha => ?_, fun hno => ?_⟩
  · rw [if_pos ⟨Nat.sub_eq_zero_of_le hd, (belowCrawl_iff s).2 ha⟩]
    exact ⟨stoppedEntry_state _, stoppedEntry_source _⟩
  · rw [if_neg fun hc => by have := (belowCrawl_iff s).1 hc.2; omega]
    exact ⟨hst, counted_break n h⟩

theorem judgeWeb_aside (n : Nat) (s : State) : (judgeWeb n s).web.aside = (counted n s).web.aside :=
  transition_aside _ _

theorem counted_aside (n : Nat) (s : State) : (counted n s).web.aside =
    (s.web.preheat, false, s.lineBreakPresent, s.pinPresent, s.pinNames, s.web.reference,
      satAdd top32 s.web.ignored (ignoredAt s), s.web.returnDue) := (countDown_state n _).2.1

end Sys2Proof.Machine
end

section
/-! PROOF. The splice flag of a refresh moves nothing but the hand-over (R51, R113). -/

namespace Sys2Proof.Machine

open Sys2Proof Sys2Proof.Machine

variable {s : State} {r : Refresh} {n : Nat} {b : Bool}

/-- The state with the splice event of its refresh set or cleared. -/
def State.spliced (b : Bool) (s : State) : State := { s with board.splice := b }

theorem offer_spliced (c : IncidentCode) (sub : Subject) (v : IncidentValue) :
    offer c sub v (s.spliced b) = (offer c sub v s).spliced b := by
  rw [offer_eq_log (s := s.spliced b), offer_eq_log (s := s),
    offer_log_congr c sub v (s := s.spliced b) (t := s) rfl rfl rfl rfl rfl rfl]
  rfl

theorem discardResume_spliced (k : DiscardCause) : discardResume k (s.spliced b) = (discardResume k s).spliced b := by
  cases h : s.web.record with
  | none => rw [discardResume_none s k h, discardResume_none (s.spliced b) k h]
  | some r => rw [discardResume_some k h, discardResume_some (s := s.spliced b) k h, ← offer_spliced]; rfl

theorem changeover_spliced (x : BankNo) : changeover x (s.spliced b) = (changeover x s).spliced b := by
  have hover : changedOver x (s.spliced b) = (changedOver x s).spliced b :=
    offer_spliced (s := { s with banks := changeoverBanks x s.banks }) ..
  by_cases h : ∀ r, s.web.record = some r → r.bank = x
  · rw [changeover_same h, changeover_same (s := s.spliced b) h, hover]
  · simp only [Classical.not_forall] at h
    obtain ⟨r, hr, hx⟩ := h
    rw [changeover_other hr hx, changeover_other (s := s.spliced b) hr hx, hover, discardResume_spliced]

theorem changeoverEvent_spliced (m : PendingMode) :
    changeoverEvent m (s.spliced b) = (changeoverEvent m s).spliced b := by
  unfold changeoverEvent
  show (match pendingBank s.banks with | some x => _ | none => _) = _
  cases pendingBank s.banks with
  | none => rfl
  | some x => 
    dsimp only
    show (if (s.banks.get x).state = _ then _ else _) = _
    split
    · exact changeover_spliced x
    · rfl

theorem stoppedEntry_spliced : stoppedEntry (s.spliced b) = (stoppedEntry s).spliced b :=
  changeoverEvent_spliced (s := stoppedWeb s) .atStop

theorem resumeExpiry_spliced : resumeExpiry (s.spliced b) = (resumeExpiry s).spliced b := by
  simp only [resumeExpiry, discardResume_spliced]; rfl

theorem offerSecond_spliced (st : WebState) (src : BreakSource) :
    offerSecond st src (s.spliced b) = (offerSecond st src s).spliced b := by
  cases st with
  | resuming =>
    cases h : s.web.record with
    | none => simp only [offerSecond, h, show (s.spliced b).web.record = none from h]
    | some r => simp only [offerSecond, h, show (s.spliced b).web.record = some r from h, offer_spliced]
  | _ => rfl

theorem breakEntry_spliced (src : BreakSource) : breakEntry src (s.spliced b) = (breakEntry src s).spliced b :=
  (congrArg (offerSecond s.web.state src) (offer_spliced (s := { s with web := breakWeb src s }) ..)).trans
    (offerSecond_spliced ..)

theorem ite_spliced {p : Prop} [Decidable p] {t u t' u' : State} (ht : t' = t.spliced b) (hu : u' = u.spliced b) :
    (if p then t' else u') = (if p then t else u).spliced b := by
  subst ht hu; split <;> rfl

theorem transition_spliced (o : Option BreakSource) : transition o (s.spliced b) = (transition o s).spliced b := by
  have hdown : (s.spliced b).stepsDown = s.stepsDown := rfl
  have hmoves : s.moves → transition o (s.spliced b) = (transition o s).spliced b := fun hm => by
    cases o with
    | some src => rw [transition_source hm, transition_source (s := s.spliced b) hm, breakEntry_spliced]
    | none =>
      cases hd : s.stepsDown with
      | true => rw [transition_down hm hd, transition_down (s := s.spliced b) hm hd, stoppedEntry_spliced]
      | false =>
        obtain h | h | h := hm
        · rw [transition_threading h hd, transition_threading (s := s.spliced b) h hd]
          exact ite_spliced rfl rfl
        · rw [transition_running h hd, transition_running (s := s.spliced b) h hd]
          exact ite_spliced rfl rfl
        · rw [transition_resuming h hd, transition_resuming (s := s.spliced b) h hd]
          exact ite_spliced rfl (ite_spliced resumeExpiry_spliced rfl)
  cases h : s.web.state with
  | stopped =>
    rw [transition_stopped o h, transition_stopped (s := s.spliced b) o h]
    exact ite_spliced (ite_spliced rfl rfl) rfl
  | threading => exact hmoves (.inl h)
  | running => exact hmoves (.inr (.inl h))
  | resuming => exact hmoves (.inr (.inr h))
  | _ => -- BREAK
    rw [transition_break o h, transition_break (s := s.spliced b) o h]
    exact ite_spliced stoppedEntry_spliced rfl

theorem judgeWeb_spliced (n : Nat) : judgeWeb n (s.spliced b) = (judgeWeb n s).spliced b :=
  transition_spliced (s := counted n s) s.sources.head?

/-- The web of a line return before the hand-over of a bank PENDING AT_STOP (R112). -/
def returned (st : WebState) (s : State) : State :=
  { s with web := { clearBreakData s.web with
    state := st, memLine := s.lineBreakPresent, memPin := s.pinPresent, countDue := false, returnDue := false } }

theorem lineReturn_eq (s : State) : lineReturn s =
    if s.belowCrawl then changeoverEvent .atStop (returned .stopped s) else returned .threading s := rfl

theorem lineReturn_spliced : lineReturn (s.spliced b) = (lineReturn s).spliced b := by
  rw [lineReturn_eq, lineReturn_eq]
  exact ite_spliced (changeoverEvent_spliced (s := returned .stopped s) .atStop) rfl

/-! ## The reaction (R94, R112, R113) -/

/-- What a judged refresh does before a splice event is handed over: the line return or the transition. -/
def webMoved (r : Refresh) (s : State) : State :=
  if r.entry || s.web.returnDue then lineReturn s else judgeWeb r.step s

theorem webReaction_eq (hj : judged r s = true) : react r .webSequencer s = handSplice (webMoved r s) := by
  show webReaction r s = _
  simp only [webReaction, hj, if_true, webMoved]

theorem webMoved_spliced (r : Refresh) : webMoved r (s.spliced b) = (webMoved r s).spliced b :=
  ite_spliced lineReturn_spliced (judgeWeb_spliced r.step)

theorem webMoved_board (r : Refresh) (s : State) : (webMoved r s).board = s.board := by
  unfold webMoved; split <;> simp

theorem handSplice_on (h : s.board.splice = true) : handSplice s = changeoverEvent .atSplice s := if_pos h

theorem handSplice_off (h : s.board.splice = false) : handSplice s = s := if_neg (by simp [h])

/-- A judged refresh with a splice event leaves what it leaves without one, and then hands the splice over. -/
theorem webReaction_splice (hj : judged r s = true) (hs : s.board.splice = true) :
    react r .webSequencer s = changeoverEvent .atSplice ((react r .webSequencer (s.spliced false)).spliced true) := by
  have hmoved : (webMoved r s).board.splice = true := (congrArg Board.splice (webMoved_board r s)).trans hs
  rw [webReaction_eq hj, webReaction_eq (s := s.spliced false) hj, webMoved_spliced, handSplice_on hmoved,
    handSplice_off (s := (webMoved r s).spliced false) rfl]
  have hagain : ((webMoved r s).spliced false).spliced true = webMoved r s := by
    show { webMoved r s with board.splice := true } = _
    rw [← hmoved]
  rw [hagain]

/-- A bank PENDING with the mode of the event takes over; without one the event is lost. -/
theorem changeoverEvent_judged (m : PendingMode) (s : State) :
    ((∀ x, (s.banks.get x).state ≠ .pending m) → changeoverEvent m s = s)
      ∧ ∀ x, pendingBank s.banks = some x → (s.banks.get x).state = .pending m →
          changeoverEvent m s = changeover x s :=
  ⟨changeoverEvent_none, fun _ => changeoverEvent_some⟩

theorem webReaction_return (hj : judged r s = true) (h : r.entry = true ∨ s.web.returnDue = true)
    (hs : s.board.splice = false) : react r .webSequencer s = lineReturn s := by
  have hmoved : (webMoved r s).board.splice = false := (congrArg Board.splice (webMoved_board r s)).trans hs
  rw [webReaction_eq hj, handSplice_off hmoved, webMoved, if_pos (by simpa using h)]

/-- A refresh that is not judged hands the splice over and does no more. -/
theorem webReaction_unjudged (hj : judged r s = false) : react r .webSequencer s = handSplice s := by
  show webReaction r s = _
  simp only [webReaction, hj, Bool.false_eq_true, if_false]

/-! ## The parts of the statement -/

theorem stopped_judged (h : s.web.state = .stopped) (hf : s.board.frozen = false) :
    (s.board.actual < s.crawl → (judgeWeb n s).web.state = .stopped)
    ∧ (s.crawl ≤ s.board.actual → s.web.record.isSome = true →
        (judgeWeb n s).web.state = .resuming ∧ (judgeWeb n s).web.timer = some s.resumeTimeout)
    ∧ (s.crawl ≤ s.board.actual → s.web.record = none → (judgeWeb n s).web.state = .threading) := by
  have hst := (counted_state n s).trans h
  have hcond : (!(counted n s).belowCrawl && (counted n s).speedMoves) = decide (s.crawl ≤ s.board.actual) := by
    show (!decide (s.board.actual < s.crawl) && !s.board.frozen) = _
    rw [hf, Bool.not_false, Bool.and_true, ← decide_not, decide_eq_decide, Nat.not_lt]
  rw [judgeWeb_eq, transition_stopped _ hst, hcond, counted_record]
  refine ⟨fun ha => ?_, fun ha hr => ?_, fun ha hr => ?_⟩
  · rw [if_neg (by simpa using ha)]; exact hst
  · rw [if_pos (by simpa using ha), if_pos hr]; exact ⟨rfl, rfl⟩
  · rw [if_pos (by simpa using ha), if_neg (by simp [hr])]

theorem stopped_frozen (h : s.web.state = .stopped) (hf : s.board.frozen = true) :
    (judgeWeb n s).web.state = .stopped := by
  have hst := (counted_state n s).trans h
  have hcond : (!(counted n s).belowCrawl && (counted n s).speedMoves) = false := by
    show (!decide (s.board.actual < s.crawl) && !s.board.frozen) = _
    simp [hf]
  rw [judgeWeb_eq, transition_stopped _ hst, hcond, if_neg Bool.false_ne_true]
  exact hst

theorem stepsDown_measured (hf : s.board.frozen = false) : s.stepsDown = decide (s.board.actual < s.crawl) := by
  show (decide (s.board.actual < s.crawl) && !s.board.frozen) = _
  simp [hf]

theorem stepsDown_frozen (hf : s.board.frozen = true) : s.stepsDown = false := by
  show (decide (s.board.actual < s.crawl) && !s.board.frozen) = _
  simp [hf]

/-- The sources ignored in STOPPED and BREAK, each one counted once (R99, R101). -/
theorem ignoredAt_still (h : s.web.state = .stopped ∨ s.web.state = .break) : ignoredAt s =
    (if s.web.latch = true then 1 else 0)
      + ((if s.pinPresent = true ∧ (s.web.memPin = false ∨ s.web.countDue = true) then 1 else 0)
        + (if s.lineBreakPresent = true ∧ s.web.memLine = false then 1 else 0)) := by
  obtain h | h := h <;> simp [ignoredAt, h, State.pinCounts]

theorem ignoredAt_moves (h : s.moves) : ignoredAt s = s.sources.length - 1 := by
  obtain h | h | h := h <;> simp only [ignoredAt, h]

theorem pinNames_still (h : s.web.state = .stopped ∨ s.web.state = .break) : s.pinNames = false := by
  obtain h | h := h <;> simp only [State.pinNames, h]

theorem pinNames_moves (h : s.moves) : s.pinNames = s.pinPresent := by
  obtain h | h | h := h <;> simp only [State.pinNames, h]

theorem judgeWeb_counts (n : Nat) (s : State) :
    (judgeWeb n s).web.latch = false ∧ (judgeWeb n s).web.memLine = s.lineBreakPresent
    ∧ (judgeWeb n s).web.memPin = s.pinPresent ∧ (judgeWeb n s).web.countDue = s.pinNames
    ∧ (judgeWeb n s).web.ignored = min 4294967295 (s.web.ignored + ignoredAt s) := by
  have haside := (judgeWeb_aside n s).trans (counted_aside n s)
  simp only [WebSeq.aside, Prod.mk.injEq] at haside
  obtain ⟨-, hlatch, hline, hpin, hdue, -, hignored, -⟩ := haside
  exact ⟨hlatch, hline, hpin, hdue, hignored⟩

/-- The web that becomes STOPPED has its figures cleared, and is then offered to the bank PENDING AT_STOP (R95). -/
theorem judgeWeb_stops (h : s.web.state ≠ .stopped) (hst : (judgeWeb n s).web.state = .stopped) :
    judgeWeb n s = changeoverEvent .atStop { s with web := { s.web with
      state := .stopped, timer := none, dwell := 0, source := none, exhaustAtBreak := none, latch := false
      memLine := s.lineBreakPresent, memPin := s.pinPresent, countDue := (judgeWeb n s).web.countDue
      ignored := (judgeWeb n s).web.ignored } } := by
  obtain ⟨-, -, -, hdue, hignored⟩ := judgeWeb_counts n s
  rw [hdue, hignored, judgeWeb_eq, transition_to_stopped (s := counted n s) _ (by rwa [counted_state]) hst]
  show changeoverEvent .atStop (stoppedWeb (counted n s)) = _
  congr 1
  unfold stoppedWeb counted countDown
  cases hs : s.web.state <;> rfl

/-- Settles O30: the transitions of a judged refresh by the state of the web, the counts beside them, the entry to
STOPPED, the splice, the line return and the refresh that is not judged. -/
theorem judgedRefreshMovesWeb : Obligations.JudgedRefreshMovesWeb := by
  unfold Obligations.JudgedRefreshMovesWeb
  refine ⟨fun r s t hj he hd hs hf ht => ?_, fun r s t hj he hd hs hf ht => ?_, fun r s t hj he hd hs ht => ?_,
    fun r s t w hj he hd hs ht hne hst hw => ?_, fun r s t u hj hs ht hu => ?_, fun r s t w hj hr hs ht hw => ?_,
    fun r s hj => ?_⟩
  · rw [webReaction_judged hj he hd hs] at ht
    subst ht
    have hdown := stepsDown_measured hf
    refine ⟨fun h => stopped_judged h hf, fun h => ⟨fun b hb => judgeWeb_source h hb, fun hno ha =>
      judgeWeb_down h hno (by simpa [hdown] using ha)⟩, fun hno ha => ?_, fun h => judgeWeb_break h,
      (judgeWeb_counts _ _).1, by simp, by simp, by simp, by simp, by simp, by simp⟩
    have hup : s.stepsDown = false := by simpa [hdown] using ha
    exact ⟨fun h => judgeWeb_threading h hno hup, fun h => judgeWeb_running h hno hup,
      fun k h hk => judgeWeb_resuming h hk hno hup⟩
  · rw [webReaction_judged hj he hd hs] at ht
    subst ht
    have hup := stepsDown_frozen hf
    exact ⟨fun h => stopped_frozen h hf, fun h b hb => judgeWeb_source h hb,
      fun hno => ⟨fun h => judgeWeb_threading h hno hup, fun h => judgeWeb_running h hno hup,
        fun k h hk => judgeWeb_resuming h hk hno hup⟩, fun h => judgeWeb_break h⟩
  · rw [webReaction_judged hj he hd hs] at ht
    subst ht
    obtain ⟨-, hline, hpin, hdue, hignored⟩ := judgeWeb_counts r.step s
    rw [hdue, hignored]
    exact ⟨hline, hpin, fun h => ⟨pinNames_still h, by rw [ignoredAt_still h]⟩,
      fun h => ⟨pinNames_moves h, by rw [ignoredAt_moves h]⟩⟩
  · rw [webReaction_judged hj he hd hs] at ht
    have hstop := judgeWeb_stops hne (ht ▸ hst)
    rw [← ht, ← hw] at hstop
    have hevent := changeoverEvent_judged .atStop w
    rw [← hstop, hw] at hevent
    rw [hw]
    exact hevent
  · have hsplice := webReaction_splice hj hs
    have hu' : u = react r .webSequencer (s.spliced false) := hu
    rw [← ht, ← hu'] at hsplice
    rw [hsplice]
    exact changeoverEvent_judged .atSplice (u.spliced true)
  · rw [webReaction_return hj hr hs, lineReturn_eq] at ht
    have hw' : ∀ st, w st = returned st s := hw
    refine ⟨fun ha => ?_, fun ha => ?_⟩
    · rw [ht, if_neg (by simpa [State.belowCrawl] using ha), hw']
    · rw [if_pos (by simpa [State.belowCrawl] using ha)] at ht
      rw [ht, hw']
      exact changeoverEvent_judged .atStop (returned .stopped s)
  · rw [webReaction_unjudged hj]
    refine ⟨handSplice_off, fun hs => ?_⟩
    rw [handSplice_on hs]
    exact changeoverEvent_judged .atSplice s

end Sys2Proof.Machine
end

section
/-! PROOF. The entries of the Command Table at a refresh: what an onset, a judgement and the whole reaction make of one
entry, and the values by owner, hold and limit (R141 to R152). -/

namespace Sys2Proof.Machine

open Sys2Proof Sys2Proof.Machine

variable {s t u : State} {r : Refresh} {q x : Role} {c : CycleNo} {e : CmdEntry} {p : CommandParams}

/-! ## One entry under the trips of a refresh (R152) -/

/-- An entry after what happened from the one state to the other: a trip has cleared its released flag. -/
def calm (s t : State) (e : CmdEntry) : CmdEntry :=
  { e with released := if s.dryer.state ≠ .tripped ∧ t.dryer.state = .tripped then false else e.released }

/-- From the one state to the other an entry is only calmed by a trip, and a tripped dryer stays TRIPPED. -/
def Calms (q : Role) (s t : State) : Prop :=
  t.cmds.entry? q = (s.cmds.entry? q).map (calm s t) ∧ (s.dryer.state = .tripped → t.dryer.state = .tripped)

theorem calm_of_same (h : t.dryer.state = s.dryer.state) (e : CmdEntry) : calm s t e = e := by
  simp [calm, h]

theorem calm_calm (hst : s.dryer.state = .tripped → t.dryer.state = .tripped)
    (htu : t.dryer.state = .tripped → u.dryer.state = .tripped) (e : CmdEntry) :
    calm t u (calm s t e) = calm s u e := by
  unfold calm
  by_cases hs : s.dryer.state = .tripped
  · simp [hs, hst hs]
  · by_cases ht : t.dryer.state = .tripped
    · simp [hs, ht, htu ht]
    · simp [hs, ht]

theorem calm_congr {s' t' : State} (hs : s'.dryer.state = s.dryer.state) (ht : t'.dryer.state = t.dryer.state)
    (e : CmdEntry) : calm s' t' e = calm s t e := by
  simp only [calm, hs, ht]

theorem Calms.refl (q : Role) (s : State) : Calms q s s := by
  refine ⟨?_, id⟩
  cases s.cmds.entry? q with
  | none => rfl
  | some e => exact congrArg some (calm_of_same rfl e).symm

theorem Calms.trans (h : Calms q s t) (g : Calms q t u) : Calms q s u := by
  refine ⟨?_, fun hs => g.2 (h.2 hs)⟩
  rw [g.1, h.1, Option.map_map]
  congr 1
  exact funext fun e => calm_calm h.2 g.2 e

/-- A change that leaves the entry and the dryer's state. -/
theorem Calms.of_eq (he : t.cmds.entry? q = s.cmds.entry? q) (hd : t.dryer.state = s.dryer.state) : Calms q s t := by
  refine ⟨?_, fun h => hd.trans h⟩
  rw [he]
  cases s.cmds.entry? q with
  | none => rfl
  | some e => exact congrArg some (calm_of_same hd e).symm

theorem onset_calms (q : Role) (k : SafetyCondition) (sub : Subject) (n : Option Int) (s : State) :
    Calms q s (onset k sub n s) := by
  refine ⟨?_, fun _ => onset_tripped s k sub n⟩
  by_cases h : s.dryer.state = .tripped
  · have hcmds : (onset k sub n s).cmds = s.cmds := by rw [onset_of_tripped k sub n h]; simp
    rw [hcmds]
    exact (Calms.of_eq (t := onset k sub n s) (congrArg (·.entry? q) hcmds)
      ((onset_tripped s k sub n).trans h.symm)).1 ▸ congrArg (·.entry? q) hcmds.symm
  · have hcmds : (onset k sub n s).cmds = clearReleased s.cmds := by
      rw [onset_of_untripped k sub n h]
      exact congrArg clearReleased (by simp [trippedAt])
    have hcalm : calm s (onset k sub n s) = fun e => { e with released := false } := by
      funext e
      rw [calm, if_pos ⟨h, onset_tripped s k sub n⟩]
    rw [hcmds, hcalm]
    exact lookupKey_map_snd q (fun _ (e : CmdEntry) => { e with released := false }) s.cmds.entries

theorem entry?_update_ne (h : q ≠ x) (f : CmdEntry → CmdEntry) :
    ({ s with cmds.entries := updateKey x f s.cmds.entries } : State).cmds.entry? q = s.cmds.entry? q :=
  lookupKey_updateKey_ne h f s.cmds.entries

theorem entry?_update_self (f : CmdEntry → CmdEntry) :
    ({ s with cmds.entries := updateKey x f s.cmds.entries } : State).cmds.entry? x = (s.cmds.entry? x).map f :=
  lookupKey_updateKey_self x f s.cmds.entries

theorem becameUnresponsive_calms (q x : Role) (s : State) : Calms q s (becameUnresponsive x s) := by
  unfold becameUnresponsive exhaustUnresponsiveReport
  split
  · split
    · exact .refl q s
    · exact .trans (.of_eq rfl rfl) (onset_calms q _ _ _ _)
  · exact .of_eq (by simp) (by simp)

/-! ## One judgement (R150, R151) -/

theorem echoMatch_other (h : q ≠ x) (e : CmdEntry) : Calms q s (echoMatch x e s) := by
  unfold echoMatch
  have hupdate := entry?_update_ne (s := s) h fun y => { y with miss := 0, responsiveness := .responsive }
  split
  · exact .of_eq hupdate rfl
  · exact .of_eq hupdate rfl

theorem echoMiss_other (h : q ≠ x) (n : Nat) (e : CmdEntry) : Calms q s (echoMiss n x e s) := by
  unfold echoMiss
  dsimp only
  split
  · exact .trans (.of_eq (entry?_update_ne h _) rfl) (becameUnresponsive_calms q x _)
  · exact .of_eq (entry?_update_ne h _) rfl

/-- A judgement of one role leaves the entry of another, a trip apart. -/
theorem judgeEcho_other (h : q ≠ x) : Calms q s (judgeEcho c s x) := by
  unfold judgeEcho
  split
  · split
    · split
      · exact echoMatch_other h _
      · split
        · exact .refl q s
        · exact echoMiss_other h _ _
    · exact .refl q s
  · exact .refl q s

/-- The entry after a judgement of the cycle number it forwarded with: a match, a hold or a miss. -/
def judgedEntry (p : CommandParams) (b : Option BoardRec) (e : CmdEntry) : CmdEntry :=
  if echoMatches p.tolerance b e then { e with miss := 0, responsiveness := .responsive }
  else if 0 < e.hold then e
  else { e with
    miss := satAdd 64 e.miss 1
    responsiveness := if p.missLimit ≤ satAdd 64 e.miss 1 then .unresponsive else e.responsiveness }

theorem judgedEntry_hold (p : CommandParams) (b : Option BoardRec) (e : CmdEntry) :
    (judgedEntry p b e).hold = e.hold := by
  unfold judgedEntry; repeat' split
  all_goals rfl

/-- A judgement reads neither the owner nor the released flag. -/
theorem judgedEntry_calm (p : CommandParams) (b : Option BoardRec) (s t : State) (e : CmdEntry) :
    judgedEntry p b (calm s t e) = calm s t (judgedEntry p b e) := by
  unfold judgedEntry
  rw [apply_ite (calm s t), apply_ite (calm s t)]
  rfl

theorem echoMatch_state (x : Role) (e : CmdEntry) (s : State) : (echoMatch x e s).dryer.state = s.dryer.state := by
  unfold echoMatch
  dsimp only
  split <;> rfl

theorem echoMatch_self (he : s.cmds.entry? x = some e) :
    (echoMatch x e s).cmds.entry? x = some { e with miss := 0, responsiveness := .responsive } := by
  have hself := entry?_update_self (s := s) (x := x) fun y => { y with miss := 0, responsiveness := .responsive }
  rw [he] at hself
  unfold echoMatch
  dsimp only
  split
  · exact hself
  · exact hself

theorem echoMiss_self (n : Nat) (he : s.cmds.entry? x = some e) :
    (echoMiss n x e s).cmds.entry? x = some (calm s (echoMiss n x e s) { e with
      miss := satAdd 64 e.miss 1
      responsiveness := if n ≤ satAdd 64 e.miss 1 then .unresponsive else e.responsiveness }) := by
  have hself : ∀ f, ({ s with cmds.entries := updateKey x f s.cmds.entries } : State).cmds.entry? x = some (f e) := fun f => by
    rw [entry?_update_self, he]; rfl
  unfold echoMiss
  dsimp only
  split
  · next hn =>
    rw [(becameUnresponsive_calms x x _).1, hself, if_pos hn.1]
    exact congrArg some (calm_congr rfl rfl _)
  · next hn =>
    refine (hself _).trans (congrArg some (Eq.trans ?_ (calm_of_same (by rfl) _).symm))
    by_cases hle : n ≤ satAdd 64 e.miss 1
    · rw [if_pos hle, Classical.not_not.1 fun h => hn ⟨hle, h⟩]
    · rw [if_neg hle]

/-- An entry that did not forward with the cycle number, or has no echo, is not judged. -/
theorem judgeEcho_unjudged (he : s.cmds.entry? x = some e) (h : echoEntry s.map x = none ∨ forwardedAt c e = false) :
    judgeEcho c s x = s := by
  unfold judgeEcho
  rw [he]
  split
  · next f q g hf hq hg =>
    cases hf
    rw [if_neg (by rw [h.resolve_left (by simp [hg])]; exact Bool.false_ne_true)]
  · rfl

/-- The judgement of an entry that forwarded with the cycle number. -/
theorem judgeEcho_of (he : s.cmds.entry? x = some e) (hp : (commandEntry s.map x).bind commandParams = some p)
    (hecho : echoEntry s.map x ≠ none) (hf : forwardedAt c e = true) :
    judgeEcho c s x =
      if echoMatches p.tolerance (s.board.echo? x) e then echoMatch x e s
      else if 0 < e.hold then s else echoMiss p.missLimit x e s := by
  obtain ⟨g, hg⟩ := Option.ne_none_iff_exists'.1 hecho
  simp only [judgeEcho, he, hp, hg, hf, if_true]

theorem judgeEcho_self (he : s.cmds.entry? x = some e) (hp : (commandEntry s.map x).bind commandParams = some p)
    (hecho : echoEntry s.map x ≠ none) (hf : forwardedAt c e = true) :
    (judgeEcho c s x).cmds.entry? x = some (calm s (judgeEcho c s x) (judgedEntry p (s.board.echo? x) e)) := by
  rw [judgeEcho_of he hp hecho hf]
  unfold judgedEntry
  split
  · rw [echoMatch_self he, calm_of_same (echoMatch_state x e s)]
  · split
    · rw [he, calm_of_same rfl]
    · exact echoMiss_self p.missLimit he

theorem judgeEcho_tripped (c : CycleNo) (s : State) (x : Role) (h : s.dryer.state = .tripped) :
    (judgeEcho c s x).dryer.state = .tripped := by
  unfold judgeEcho
  split
  · split
    · split
      · rw [echoMatch_state, h]
      · split
        · exact h
        · unfold echoMiss
          dsimp only
          split
          · exact (becameUnresponsive_calms x x _).2 h
          · exact h
    · exact h
  · exact h

/-- No judgement moves a hold count. -/
theorem judgeEcho_hold (q : Role) (c : CycleNo) (s : State) (x : Role) :
    ((judgeEcho c s x).cmds.entry? q).map CmdEntry.hold = (s.cmds.entry? q).map CmdEntry.hold := by
  by_cases hq : q = x
  · subst hq
    cases he : s.cmds.entry? q with
    | none => rw [show judgeEcho c s q = s by unfold judgeEcho; rw [he], he]
    | some e =>
      by_cases h : echoEntry s.map q = none ∨ forwardedAt c e = false
      · rw [judgeEcho_unjudged he h, he]
      · rw [not_or, Bool.not_eq_false] at h
        cases hp : (commandEntry s.map q).bind commandParams with
        | none => rw [show judgeEcho c s q = s by unfold judgeEcho; rw [he, hp], he]
        | some p =>
          rw [judgeEcho_self he hp h.1 h.2]
          exact congrArg some (judgedEntry_hold p _ e)
  · rw [(judgeEcho_other hq).1, Option.map_map]
    rfl

/-! ## The whole reaction (R143, R150) -/

theorem loadHolds_entry (r : Refresh) (s : State) (q : Role) : (loadHolds r s).cmds.entry? q =
    (s.cmds.entry? q).map fun e => { e with hold := holdAfter s.map r q e.hold } :=
  lookupKey_map_snd q (fun k (e : CmdEntry) => { e with hold := holdAfter s.map r k e.hold }) s.cmds.entries

theorem judgeEchoes_hold (q : Role) (r : Refresh) (s : State) :
    ((judgeEchoes r s).cmds.entry? q).map CmdEntry.hold = (s.cmds.entry? q).map CmdEntry.hold := by
  unfold judgeEchoes
  split
  · split
    · exact foldl_keeps (judgeEcho _) (fun u => (u.cmds.entry? q).map CmdEntry.hold) (fun u x => judgeEcho_hold q _ u x) _ _
    · rfl
  · rfl

/-- Every hold count after a refresh is the one R143 gives. -/
theorem commandReaction_hold (hc : s.commissioned = true) (he : s.cmds.entry? q = some e) :
    ∃ g, (commandReaction r s).cmds.entry? q = some g ∧ g.hold = holdAfter s.map r q e.hold := by
  have h := judgeEchoes_hold q r (loadHolds r s)
  rw [loadHolds_entry, he] at h
  simp only [Option.map_some, Option.map_eq_some_iff] at h
  obtain ⟨g, hg, hhold⟩ := h
  exact ⟨g, by rwa [commandReaction, if_pos hc], hhold⟩

/-- Settles O33: the values of the owners, the hold, the limits of a burner, the exhaust and the speed, and the hold
count of a refresh. -/
theorem ownerValuesHoldAndLimits : Obligations.OwnerValuesHoldAndLimits := by
  unfold Obligations.OwnerValuesHoldAndLimits
  intro p e w s held hheld
  refine ⟨fun c => ⟨fun r hp => ?_, fun q hq => ?_, fun _ => rfl, fun r v hv => ?_⟩, fun o v ho hpos => ?_,
    fun o v ho => ?_, fun k => ?_, fun h => ?_, fun q hq ha => ?_, ?_, fun c q hc hcap hq hweb hown => ?_, fun h => ?_,
    fun r hz hx hs => ?_, fun x u t r f hu ht hf => ?_⟩
  · cases r <;> simp [ownerValue, scheduleOwnerValue, scheduleValue, hp]
  · simp [ownerValue, scheduleOwnerValue, scheduleValue, hq]
  · simp [ownerValue, hv]
  · refine ⟨fun f hf => ?_, fun hf => ?_⟩
    · obtain rfl | rfl := ho <;> simp [applyHold, hpos, hf]
    · obtain rfl | rfl := ho <;> simp [applyHold, hf]
  · obtain rfl | rfl | h := ho
    · rfl
    · rfl
    · cases o <;> simp [applyHold, h]
  · rw [hheld]
    show (if s.dryer.state.burning = true then _ else _) = _
    simp only [DryerState.burning_iff]
  · rw [hheld]
    show floorExhaust p.authority _ s = _
    obtain h | h := h
    · unfold floorExhaust; split <;> simp [h]
    · simp [floorExhaust, h]
  · rw [hheld]
    show floorExhaust p.authority _ s = _
    simp [floorExhaust, hq, ha]
  · exact Int.min_le_right _ _
  · show capSpeed _ _ _ s = _
    have happlies : capApplies (resolveOwner .speedRef p e s) s = true := by
      simpa [capApplies, hc, hcap, hq, hown, or_assoc] using hweb
    rw [capSpeed, happlies, if_pos rfl, capFigure, hq, Int.min_comm, ← Int.min_assoc, Int.min_self]
  · rw [hheld]
    show capSpeed _ _ _ s = _
    have hnot : capApplies (resolveOwner .speedRef p e s) s = false := by
      obtain h | h | h | h | h := h
      · cases hc : s.scalars? with
        | none => simp [capApplies, hc]
        | some c => simp [capApplies, hc, h c hc]
      · simp [capApplies, h]
      · simp [capApplies, h]
      · simp [capApplies, h]
      · simp [capApplies, h]
    rw [capSpeed, hnot, if_neg Bool.false_ne_true]
  · rw [hheld]
    have hplain : ∀ o c v, applyLimits r o p c v s = v := fun o c v => by
      unfold applyLimits
      split
      · next k => exact absurd rfl (hz k)
      · exact absurd rfl hx
      · exact absurd rfl hs
      · rfl
    simp only [forwardValue, hplain, ne_eq, not_true_eq_false, decide_false]
  · obtain ⟨g, hg, hhold⟩ := commandReaction_hold (r := x) hu hf
    refine ⟨g, ht ▸ hg, fun h slot hh hslot hgood => ?_, fun h hh hno => ?_, fun hh => ?_⟩
    · simp [hhold, holdAfter, hh, hslot, hgood]
    · rw [hhold, holdAfter, hh]
      dsimp only
      split
      · next slot hslot => rw [if_neg (hno slot hslot)]
      · rfl
    · simp [hhold, holdAfter, hh]

end Sys2Proof.Machine
end

section
/-! PROOF. The echo judgements of a whole refresh: one entry through the judgements of all, the records they offer, and
the trip of an unresponsive exhaust (R150 to R152). -/

namespace Sys2Proof.Machine

open Sys2Proof Sys2Proof.Machine

variable {s t u : State} {r : Refresh} {q x : Role} {c : CycleNo} {e : CmdEntry} {p : CommandParams} {n m : Nat}

/-! ## The queue while it has room -/

/-- While the queue has room for `n` records more, what happens from the one state to the other only adds to it, and no
more than `n`. -/
def Adds (n : Nat) (s t : State) : Prop :=
  s.log.queue.length + n ≤ 32 → ∃ l, t.log.queue = s.log.queue ++ l ∧ l.length ≤ n

theorem Adds.refl (n : Nat) (s : State) : Adds n s s := fun _ => ⟨[], (List.append_nil _).symm, Nat.zero_le n⟩

theorem Adds.of_log (h : t.log = s.log) : Adds n s t := fun _ => ⟨[], by rw [h, List.append_nil], Nat.zero_le n⟩

theorem Adds.trans (h : Adds n s t) (g : Adds m t u) : Adds (n + m) s u := fun hs => by
  obtain ⟨a, ha, hn⟩ := h (by omega)
  obtain ⟨b, hb, hm⟩ := g (by rw [ha, List.length_append]; omega)
  exact ⟨a ++ b, by rw [hb, ha, List.append_assoc], by rw [List.length_append]; omega⟩

/-- What adds to the queue of a state adds to that of any state with the same log. -/
theorem Adds.same (h : t.log = s.log) (g : Adds n t u) : Adds n s u := by
  unfold Adds at g ⊢
  rwa [h] at g

theorem Adds.mem (h : Adds n s t) (hs : s.log.queue.length + n ≤ 32) {i : Incident} (hi : i ∈ s.log.queue) :
    i ∈ t.log.queue := by
  obtain ⟨l, hl, -⟩ := h hs
  rw [hl]
  exact List.mem_append_left l hi

theorem offer_adds (k : IncidentCode) (sub : Subject) (v : IncidentValue) (s : State) : Adds 1 s (offer k sub v s) :=
  fun hs => by
    by_cases h : rateLimited k s.log = true
    · rw [offer_limited s sub v h]
      exact ⟨[], (List.append_nil _).symm, Nat.zero_le 1⟩
    · exact ⟨_, (offer_room s sub v (by simpa using h) (by omega)).1, Nat.le_refl 1⟩

theorem discardResume_adds (k : DiscardCause) (s : State) : Adds 1 s (discardResume k s) := by
  cases h : s.web.record with
  | none => rw [discardResume_none s k h]; exact .refl 1 s
  | some r => rw [discardResume_some k h]; exact .same (t := { s with web := withoutRecord s.web }) rfl (offer_adds _ _ _ _)

theorem setDryer_adds (d : DryerState) (s : State) : Adds 1 s (setDryer d s) := by
  unfold setDryer
  dsimp only
  split
  · exact .same (by rfl) (discardResume_adds _ _)
  · exact .of_log rfl

/-- An onset offers its record last, and at most one before it. -/
theorem onset_adds (k : SafetyCondition) (sub : Subject) (v : Option Int) (s : State) :
    Adds 2 s (onset k sub v s) ∧ (s.log.queue.length + 2 ≤ 32 →
      ∃ i ∈ (onset k sub v s).log.queue, i.code = k.code ∧ i.subject = sub ∧ i.value = numValue v) := by
  have hlast : ∀ w : State, w.log.queue.length < 32 → ∃ i ∈ (offer k.code sub (numValue v) w).log.queue,
      i.code = k.code ∧ i.subject = sub ∧ i.value = numValue v := fun w hw => by
    rw [(offer_room w sub _ (k.code_unlimited w.log) hw).1]
    exact ⟨_, List.mem_append_right _ (.head _), rfl, rfl, rfl⟩
  by_cases h : s.dryer.state = .tripped
  · rw [onset_of_tripped k sub v h]
    refine ⟨fun hs => ?_, fun hs => hlast _ ?_⟩
    · exact (Adds.refl 1 s).trans (.same (by rfl) (offer_adds k.code sub (numValue v) _)) hs
    show s.log.queue.length < 32
    omega
  · rw [onset_of_untripped k sub v h]
    have htrip : Adds 1 s (trippedAt k sub v s) := fun hs => setDryer_adds .tripped s hs
    refine ⟨fun hs => htrip.trans (offer_adds k.code sub (numValue v) _) hs, fun hs => hlast _ ?_⟩
    obtain ⟨l, hl, hlen⟩ := htrip (by omega)
    rw [hl, List.length_append]
    omega

/-- How many records the judgement of a role may offer: two where an unresponsive exhaust trips the dryer. -/
def echoCost (x : Role) : Nat := if x = .exhaustSp then 2 else 1

theorem becameUnresponsive_adds (x : Role) (s : State) : Adds (echoCost x) s (becameUnresponsive x s) := by
  unfold becameUnresponsive echoCost exhaustUnresponsiveReport
  split
  · split
    · exact .refl 2 s
    · exact fun hs => (onset_adds _ _ _ _).1 hs
  · exact offer_adds _ _ _ _

theorem judgeEcho_adds (c : CycleNo) (s : State) (x : Role) : Adds (echoCost x) s (judgeEcho c s x) := by
  unfold judgeEcho
  split
  · split
    · split
      · exact .of_log (by simp)
      · split
        · exact .refl _ s
        · unfold echoMiss
          dsimp only
          split
          · exact fun hs => becameUnresponsive_adds x _ hs
          · exact .of_log rfl
    · exact .refl _ s
  · exact .refl _ s

/-- The judgements of roles that are all different offer at most one record each, and one more. -/
theorem foldl_echo_adds (l : List Role) (c : CycleNo) (s : State) :
    Adds ((l.map echoCost).sum) s (l.foldl (judgeEcho c) s) := by
  induction l generalizing s with
  | nil => exact .refl 0 s
  | cons x l ih => exact (judgeEcho_adds c s x).trans (ih _)

theorem echoCost_sum {l : List Role} (h : l.Nodup) :
    (l.map echoCost).sum = l.length + (if .exhaustSp ∈ l then 1 else 0) := by
  induction l with
  | nil => rfl
  | cons x l ih =>
    obtain ⟨hx, hl⟩ := List.nodup_cons.1 h
    rw [List.map_cons, List.sum_cons, ih hl, List.length_cons]
    by_cases hex : x = .exhaustSp
    · subst hex; simp [echoCost, hx]; omega
    · simp [echoCost, hex, Ne.symm hex]; omega

/-! ## The entry of one role through all the judgements -/

theorem foldl_echo_other {l : List Role} (h : q ∉ l) (c : CycleNo) (s : State) :
    Calms q s (l.foldl (judgeEcho c) s) := by
  induction l generalizing s with
  | nil => exact .refl q s
  | cons x l ih =>
    obtain ⟨hx, hl⟩ := not_or.1 (mt List.mem_cons.2 h)
    exact (judgeEcho_other hx).trans (ih hl _)

theorem echoMiss_dryer (h : x ≠ .exhaustSp) (n : Nat) (e : CmdEntry) (s : State) :
    (echoMiss n x e s).dryer = s.dryer := by
  unfold echoMiss becameUnresponsive
  simp only [h, if_false]
  split <;> simp

theorem echoMatch_dryer (h : x ≠ .exhaustSp) (e : CmdEntry) (s : State) : (echoMatch x e s).dryer = s.dryer := by
  simp [echoMatch, h]

/-- The judgement of a role that is not EXHAUST_SP leaves the dryer. -/
theorem judgeEcho_dryer (h : x ≠ .exhaustSp) (c : CycleNo) (s : State) : (judgeEcho c s x).dryer = s.dryer := by
  unfold judgeEcho
  split
  · split
    · split
      · exact echoMatch_dryer h _ s
      · split
        · rfl
        · exact echoMiss_dryer h _ _ s
    · rfl
  · rfl

theorem foldl_echo_dryer {l : List Role} (h : .exhaustSp ∉ l) (c : CycleNo) (s : State) :
    (l.foldl (judgeEcho c) s).dryer = s.dryer := by
  induction l generalizing s with
  | nil => rfl
  | cons x l ih =>
    obtain ⟨hx, hl⟩ := not_or.1 (mt List.mem_cons.2 h)
    exact (ih hl _).trans (judgeEcho_dryer (Ne.symm hx) c s)

theorem Calms.lastValue (h : Calms q s t) : t.cmds.lastValue q = s.cmds.lastValue q := by
  unfold CmdTable.lastValue
  rw [h.1]
  cases s.cmds.entry? q <;> rfl

/-- The judgements of a refresh seen from one role: those before it, its own, and those after it. -/
structure Turn (q : Role) (c : CycleNo) (n : Nat) (s u t : State) : Prop where
  before : Calms q s u
  after : Calms q (judgeEcho c u q) t
  comm : u.comm = s.comm
  board : u.board = s.board
  room : s.log.queue.length + n < 32 → u.log.queue.length + echoCost q ≤ 32
    ∧ ∀ i ∈ (judgeEcho c u q).log.queue, i ∈ t.log.queue
  dryerBefore : q = .exhaustSp → u.dryer = s.dryer
  dryerAfter : q = .exhaustSp → t.dryer = (judgeEcho c u q).dryer

theorem foldl_echo_keeps (l : List Role) (c : CycleNo) (s : State) :
    (l.foldl (judgeEcho c) s).comm = s.comm ∧ (l.foldl (judgeEcho c) s).board = s.board :=
  ⟨foldl_keeps _ State.comm (by simp) _ _, foldl_keeps _ State.board (by simp) _ _⟩

theorem turn_of_mem {l : List Role} (hd : l.Nodup) (hq : q ∈ l) (c : CycleNo) (s : State) :
    ∃ u, Turn q c l.length s u (l.foldl (judgeEcho c) s) := by
  obtain ⟨a, b, rfl⟩ := List.append_of_mem hq
  obtain ⟨ha, hb, hab⟩ := List.nodup_append.1 hd
  obtain ⟨hqb, hb⟩ := List.nodup_cons.1 hb
  have hqa : q ∉ a := fun h => hab q h q (.head _) rfl
  rw [List.foldl_append, List.foldl_cons]
  refine ⟨a.foldl (judgeEcho c) s, foldl_echo_other hqa c s, foldl_echo_other hqb c _, (foldl_echo_keeps a c s).1,
    (foldl_echo_keeps a c s).2, fun hroom => ?_, fun hex => foldl_echo_dryer (hex ▸ hqa) c s,
    fun hex => foldl_echo_dryer (hex ▸ hqb) c _⟩
  have hcost := echoCost_sum hd
  rw [List.map_append, List.map_cons, List.sum_append, List.sum_cons] at hcost
  have hone : (if Role.exhaustSp ∈ a ++ q :: b then 1 else 0) ≤ 1 := by split <;> decide
  obtain ⟨la, hla, hna⟩ := foldl_echo_adds a c s (by omega)
  obtain ⟨lq, hlq, hnq⟩ := judgeEcho_adds c (a.foldl (judgeEcho c) s) q (by rw [hla, List.length_append]; omega)
  refine ⟨by rw [hla, List.length_append]; omega, fun i hi => (foldl_echo_adds b c _).mem ?_ hi⟩
  rw [hlq, hla]
  simp only [List.length_append]
  omega

/-- An entry that becomes UNRESPONSIVE is offered, or, for EXHAUST_SP, trips the dryer (R151). -/
theorem becameUnresponsive_reports (x : Role) (s : State) (hroom : s.log.queue.length + echoCost x ≤ 32) :
    (x ≠ .exhaustSp → ∃ i ∈ (becameUnresponsive x s).log.queue, i.code = .actuatorUnresponsive
        ∧ i.subject = .role x ∧ i.value = (s.cmds.lastValue x).elim .absent .num)
      ∧ (x = .exhaustSp → s.dryer.exhaustUnresponsive = false → ∃ i ∈ (becameUnresponsive x s).log.queue,
          i.code = .exhaustUnresponsive ∧ i.subject = .role x
            ∧ i.value = (s.cmds.lastValue x).elim .absent .num) := by
  refine ⟨fun hx => ?_, fun hx hflag => ?_⟩
  · rw [echoCost, if_neg hx] at hroom
    rw [becameUnresponsive, if_neg hx, (offer_room s _ _ rfl (by omega)).1]
    exact ⟨_, List.mem_append_right _ (.head _), rfl, rfl, numValue_eq _⟩
  · subst hx
    rw [becameUnresponsive, if_pos rfl, exhaustUnresponsiveReport, if_neg (by simp [hflag]), ← numValue_eq]
    exact (onset_adds .exhaustUnresponsive (.role .exhaustSp) _ { s with dryer.exhaustUnresponsive := true }).2 hroom

theorem becameUnresponsive_trips (s : State) : (becameUnresponsive .exhaustSp s).dryer.exhaustUnresponsive = true
    ∧ (s.dryer.exhaustUnresponsive = false → (becameUnresponsive .exhaustSp s).dryer.state = .tripped) := by
  rw [becameUnresponsive, if_pos rfl, exhaustUnresponsiveReport]
  split
  · next h => exact ⟨h, fun hno => absurd h (by simp [hno])⟩
  · exact ⟨(onset_conditions _ _ _ _).2.2.2.1, fun _ => onset_tripped _ _ _ _⟩

theorem echoMatches_iff {b : Option BoardRec} : echoMatches n b e = true ↔
    ∃ x v f, b = some x ∧ x.quality = .good ∧ x.value = some v ∧ (e.last = some f ∨ e.previous = some f)
      ∧ (v - f.value).natAbs ≤ n := by
  have hwithin : ∀ v (o : Option Forwarded), within n v o = true ↔ ∃ f, o = some f ∧ (v - f.value).natAbs ≤ n := by
    intro v o; cases o <;> simp [within]
  cases b with
  | none => simp [echoMatches]
  | some x =>
    cases hq : x.quality <;> cases hv : x.value <;> simp [echoMatches, hq, hv, hwithin, or_and_right, exists_or]

theorem forwardedAt_iff : forwardedAt c e = true ↔
    e.last.map Forwarded.cycle = some c ∨ e.previous.map Forwarded.cycle = some c := by
  simp [forwardedAt]

end Sys2Proof.Machine
end

section
/-! PROOF. A command passage, and the echo judgement of a refresh, as one entry sees them (R137, R147 to R152). -/

namespace Sys2Proof.Machine

open Sys2Proof Sys2Proof.Machine

variable {s t u : State} {r : Refresh} {q x : Role} {c : CycleNo} {e : CmdEntry} {p : CommandParams} {n m : Nat}

/-! ## The refresh -/

theorem loadHolds_keys (r : Refresh) (s : State) :
    (loadHolds r s).cmds.entries.map Prod.fst = s.cmds.entries.map Prod.fst := by
  simp [loadHolds, Function.comp_def]

theorem commandReaction_turn (hlaw : TableLaw s) (hc : s.commissioned = true) (he : s.cmds.entry? x = some e)
    (hgood : r.good = true) (hcycle : r.cycle = some c) :
    ∃ u, Turn x c s.cmds.entries.length (loadHolds r s) u (commandReaction r s) := by
  obtain ⟨-, -, hnodup, -⟩ := hlaw
  rw [← loadHolds_keys r s] at hnodup
  have hmem : x ∈ (loadHolds r s).cmds.entries.map Prod.fst := by
    rw [loadHolds_keys]
    exact List.mem_map_of_mem (mem_of_lookupKey he)
  obtain ⟨u, hu⟩ := turn_of_mem hnodup hmem c (loadHolds r s)
  have hreaction : commandReaction r s =
      ((loadHolds r s).cmds.entries.map Prod.fst).foldl (judgeEcho c) (loadHolds r s) := by
    simp only [commandReaction, hc, if_true, judgeEchoes, hcycle, hgood]
  have hlen : ((loadHolds r s).cmds.entries.map Prod.fst).length = s.cmds.entries.length := by
    rw [loadHolds_keys, List.length_map]
  exact ⟨u, by rw [hreaction, ← hlen]; exact hu⟩

/-- The entry as its turn comes: its hold loaded, and calmed by a trip before. -/
theorem Turn.entry (h : Turn x c n (loadHolds r s) u t) (he : s.cmds.entry? x = some e) :
    u.cmds.entry? x = some (calm s u { e with hold := holdAfter s.map r x e.hold }) := by
  rw [h.before.1, loadHolds_entry, he]
  exact congrArg some (calm_congr rfl rfl _)

theorem Turn.map (h : Turn x c n (loadHolds r s) u t) : u.map = s.map := map_of_comm h.comm

/-- A refresh that judges no echo of the role: not good, or without a cycle number, or without an ECHO entry, or one the
entry did not forward with. -/
theorem commandReaction_unjudged (hlaw : TableLaw s) (hc : s.commissioned = true) (he : s.cmds.entry? x = some e)
    (h : r.good = false ∨ r.cycle = none ∨ echoEntry s.map x = none
      ∨ ∃ c, r.cycle = some c ∧ forwardedAt c e = false) :
    (commandReaction r s).cmds.entry? x =
      some (calm s (commandReaction r s) { e with hold := holdAfter s.map r x e.hold }) := by
  have hloaded : commandReaction r s = loadHolds r s → (commandReaction r s).cmds.entry? x =
      some (calm s (commandReaction r s) { e with hold := holdAfter s.map r x e.hold }) := fun heq => by
    rw [heq, loadHolds_entry, he]
    exact congrArg some (calm_of_same rfl _).symm
  cases hcycle : r.cycle with
  | none => exact hloaded (by simp only [commandReaction, hc, if_true, judgeEchoes, hcycle])
  | some c =>
    cases hgood : r.good with
    | false => exact hloaded (by
        simp only [commandReaction, hc, if_true, judgeEchoes, hcycle, hgood, Bool.false_eq_true, if_false])
    | true =>
      obtain ⟨u, hu⟩ := commandReaction_turn hlaw hc he hgood hcycle
      have hentry := hu.entry he
      have hnot : judgeEcho c u x = u := judgeEcho_unjudged hentry (by
        rw [hu.map]
        obtain h | h | h | ⟨c', hc', hf⟩ := h
        · simp [hgood] at h
        · simp [hcycle] at h
        · exact .inl h
        · rw [hcycle, Option.some.injEq] at hc'
          exact .inr (hc' ▸ hf))
      have hafter := hu.after
      rw [hnot] at hafter
      rw [hafter.1, hentry]
      exact congrArg some (calm_calm hu.before.2 hafter.2 _)

/-- What a refresh that judges the role's echo finds, and what it makes of the entry. -/
theorem Turn.judged (h : Turn x c n (loadHolds r s) u t) (he : s.cmds.entry? x = some e)
    (hp : (commandEntry s.map x).bind commandParams = some p) (hecho : echoEntry s.map x ≠ none)
    (hf : forwardedAt c e = true) :
    t.cmds.entry? x =
      some (calm s t (judgedEntry p (s.board.echo? x) { e with hold := holdAfter s.map r x e.hold })) := by
  have hentry := h.entry he
  have hself := judgeEcho_self (c := c) hentry (by rw [h.map]; exact hp) (by rw [h.map]; exact hecho) hf
  rw [h.after.1, hself, h.board]
  refine congrArg some ?_
  rw [calm_calm (judgeEcho_tripped c u x) h.after.2, judgedEntry_calm]
  exact calm_calm (s := s) h.before.2 (fun hu => h.after.2 (judgeEcho_tripped c u x hu)) _

/-! ## The passage (R7, R137, R147 to R149) -/

variable {i : Nat} {f : Transit} {slot : Slot} {rest : List Transit} {o : Owner} {v k : Int} {w : Word}

theorem commandPassage_of (hs : s.line.outStore = f :: rest) (h : SlotPasses i f slot) (ho : offered f s = true)
    (hk : slot.kind = .command) : commandPassage i s = passSlot i f slot (lateForward s) := by
  obtain ⟨hkind, hheader, hcursor, hslot⟩ := h
  unfold commandPassage
  rw [hs]
  simp only [hkind, hheader, hcursor, ho, and_self, if_true, hslot, hk]

theorem commandPassage_not (hs : s.line.outStore = f :: rest) (h : SlotPasses i f slot)
    (ho : offered f s = false ∨ slot.kind ≠ .command) : commandPassage i s = s := by
  obtain ⟨-, -, -, hslot⟩ := h
  unfold commandPassage
  rw [hs]
  dsimp only
  split
  · next hp =>
    rw [hslot]
    exact if_neg (ho.resolve_left (by simp [hp.2.2.2]))
  · rfl

theorem offered_iff : offered f s = true ↔
    s.line.state = .online ∧ f.sinceOnline = true ∧ s.commissioned = true := by
  simp [offered, and_assoc]

theorem lateForward_idle (h : (s.sched.job.isSome || s.solv.job.isSome) = false) : lateForward s = s := by
  simp only [lateForward, h, Bool.false_eq_true, if_false]

theorem lateForward_running (h : (s.sched.job.isSome || s.solv.job.isSome) = true) :
    lateForward s = offer .lateForward .none .absent { s with cmds.late := bump32 s.cmds.late } := by
  simp only [lateForward, h, if_true]

/-- A late forward moves the late count and the log alone. -/
theorem lateForward_eq (s : State) : lateForward s = { s with
    cmds.late := if s.sched.job.isSome || s.solv.job.isSome then bump32 s.cmds.late else s.cmds.late
    log := (if s.sched.job.isSome || s.solv.job.isSome then offer .lateForward .none .absent s else s).log } := by
  cases h : (s.sched.job.isSome || s.solv.job.isSome) with
  | false => rw [lateForward_idle h]; simp only [Bool.false_eq_true, if_false]
  | true =>
    rw [lateForward_running h, offer_eq_log,
      offer_log_congr (s := { s with cmds.late := bump32 s.cmds.late }) (t := s) .lateForward .none .absent rfl rfl rfl rfl rfl rfl]
    simp only [if_true]

theorem setOutHead_offer (g : Transit) (x : IncidentCode) (sub : Subject) (val : IncidentValue) (s : State) :
    setOutHead g (offer x sub val s) = offer x sub val (setOutHead g s) := by
  rw [offer_eq_log, offer_eq_log (s := setOutHead g s), offer_log_congr (t := s) x sub val (s := setOutHead g s) rfl rfl rfl rfl rfl rfl]
  rfl

theorem capApplies_iff : capApplies o s = true ↔ (∃ x, s.scalars? = some x ∧ x.speedCap = true)
    ∧ s.solv.publication ≠ none ∧ (s.web.state = .threading ∨ s.web.state = .running ∨ s.web.state = .resuming)
    ∧ o ≠ .safe := by
  unfold capApplies
  cases s.scalars? with
  | none => simp
  | some c => simp [Option.isSome_iff_ne_none, and_assoc, or_assoc]

/-- The judgement of SPEED_CAPPED by the table of R147. -/
theorem judgeCapped_onset (h : capApplies o s = true ∧ v < k) (hf : s.cmds.speedCapped = false) :
    judgeCapped o k v s = offer .speedCapped (.role .speedRef) (.num v) { s with cmds.speedCapped := true } := by
  rw [judgeCapped, if_pos h, if_neg (by simp [hf])]

theorem judgeCapped_again (h : capApplies o s = true ∧ v < k) (hf : s.cmds.speedCapped = true) :
    judgeCapped o k v s = s := by
  rw [judgeCapped, if_pos h, if_pos hf]

theorem judgeCapped_clear (h : v = k) : judgeCapped o k v s = { s with cmds.speedCapped := false } := by
  rw [judgeCapped, if_neg (fun hc => absurd hc.2 (by omega)), if_pos h]

theorem judgeCapped_stands (h : ¬ (capApplies o s = true ∧ v < k)) (hv : v ≠ k) : judgeCapped o k v s = s := by
  rw [judgeCapped, if_neg h, if_neg hv]

/-- The judgement of SPEED_CAPPED moves its flag and the log alone. -/
theorem judgeCapped_eq (o : Owner) (k v : Int) (s : State) : judgeCapped o k v s = { s with
    cmds.speedCapped := (judgeCapped o k v s).cmds.speedCapped, log := (judgeCapped o k v s).log } := by
  unfold judgeCapped
  split
  · split
    · rfl
    · rw [offer_eq_log]
  · split <;> rfl

/-- The entries and the kept values as a passage writes them (R29, R148). -/
def passageCmds (x : Role) (p : CommandParams) (e : CmdEntry) (w : Word) (c : CycleNo) (s : State) : CmdTable :=
  { s.cmds with
    entries := updateKey x (recordForwarding (forwardValue x p e w s).1 (forwardValue x p e w s).2.1
      (forwardValue x p e w s).2.2 c) s.cmds.entries
    kept := if x = .speedRef then keepArriving c w s.cmds.kept else s.cmds.kept }

theorem forwardRole_plain (h : x ≠ .speedRef) :
    forwardRole x p e w c s = { s with cmds := passageCmds x p e w c s } := by
  simp only [forwardRole, passageCmds, h, if_false]

theorem forwardRole_speed : forwardRole .speedRef p e w c s =
    judgeCapped (forwardValue .speedRef p e w s).1 (readValue .speedRef w) (forwardValue .speedRef p e w s).2.1
      { s with cmds := passageCmds .speedRef p e w c s } := rfl

theorem forwardRole_eq (x : Role) (p : CommandParams) (e : CmdEntry) (w : Word) (c : CycleNo) (s : State) :
    forwardRole x p e w c s = { s with
      cmds := { passageCmds x p e w c s with speedCapped := (forwardRole x p e w c s).cmds.speedCapped }
      log := (forwardRole x p e w c s).log } := by
  by_cases h : x = .speedRef
  · subst h
    rw [forwardRole_speed]
    exact judgeCapped_eq _ _ _ _
  · rw [forwardRole_plain h]

theorem passageCmds_self (he : s.cmds.entry? x = some e) : (passageCmds x p e w c s).entry? x = some { e with
    owner := resolveOwner x p e s, last := some ⟨(forwardValue x p e w s).2.1, c⟩, previous := e.last
    limited := (forwardValue x p e w s).2.2 } := by
  refine (lookupKey_updateKey_self x _ s.cmds.entries).trans ?_
  rw [show lookupKey x s.cmds.entries = some e from he]
  rfl

theorem passageCmds_ne (h : q ≠ x) : (passageCmds x p e w c s).entry? q = s.cmds.entry? q :=
  lookupKey_updateKey_ne h _ s.cmds.entries

theorem keepArriving_kept (c : CycleNo) (w : Word) (l : List (CycleNo × Word)) :
    lookupKey c (keepArriving c w l) = some w ∧ (keepArriving c w l).length ≤ 2 := by
  refine ⟨by simp [keepArriving, lookupKey], ?_⟩
  simp only [keepArriving, List.length_cons, List.length_take]
  omega

end Sys2Proof.Machine
end

section
/-! PROOF. The command passage and the echo judgement settled (R137, R147 to R152). -/

namespace Sys2Proof.Machine

open Sys2Proof Sys2Proof.Machine

variable {s t u : State} {r : Refresh} {q x : Role} {c : CycleNo} {e : CmdEntry} {p : CommandParams} {n i : Nat}
  {f : Transit} {slot : Slot} {rest : List Transit} {w : Word}

/-- Whether an evaluation runs, so that a passage is a late forward (R149). -/
def State.evaluating (s : State) : Bool := s.sched.job.isSome || s.solv.job.isSome

/-- The log after the LATE_FORWARD of a passage, where there is one. -/
def lateLog (s : State) : IncidentLog := (if s.evaluating then offer .lateForward .none .absent s else s).log

/-- The state of a mapped passage before SPEED_CAPPED is judged. -/
def passed (x : Role) (p : CommandParams) (e : CmdEntry) (w : Word) (c : CycleNo) (s : State) : State :=
  { s with
    cmds := { passageCmds x p e w c s with late := if s.evaluating then bump32 s.cmds.late else s.cmds.late }
    log := lateLog s }

theorem passed_eq (x : Role) (p : CommandParams) (e : CmdEntry) (w : Word) (c : CycleNo) (s : State) :
    { lateForward s with cmds := passageCmds x p e w c (lateForward s) } = passed x p e w c s := by
  rw [lateForward_eq]
  rfl

theorem forwardValue_late (x : Role) (p : CommandParams) (e : CmdEntry) (w : Word) (s : State) :
    forwardValue x p e w (lateForward s) = forwardValue x p e w s := by
  rw [lateForward_eq]
  rfl

/-- A mapped passage moves the table and the log alone. -/
theorem forwardRole_late (x : Role) (p : CommandParams) (e : CmdEntry) (w : Word) (c : CycleNo) (s : State) :
    forwardRole x p e w c (lateForward s) = { passed x p e w c s with
      cmds.speedCapped := (forwardRole x p e w c (lateForward s)).cmds.speedCapped
      log := (forwardRole x p e w c (lateForward s)).log } := by
  rw [← passed_eq]
  exact forwardRole_eq x p e w c (lateForward s)

theorem forwardRole_late_plain (h : x ≠ .speedRef) :
    forwardRole x p e w c (lateForward s) = passed x p e w c s := by
  rw [forwardRole_plain h, passed_eq]

theorem forwardRole_late_speed : forwardRole .speedRef p e w c (lateForward s) =
    judgeCapped (resolveOwner .speedRef p e s) (readValue .speedRef w) (forwardValue .speedRef p e w s).2.1
      (passed .speedRef p e w c s) := by
  rw [forwardRole_speed, passed_eq, forwardValue_late]
  rfl

theorem passSlot_mapped {m : SlotEntry} (hm : entryAt s.map slot.node slot.channel .command = some m)
    (hp : commandParams m = some p) (he : s.cmds.entry? m.role = some e) :
    passSlot i f slot (lateForward s) = setOutHead
      (rewriteSlot i (forwardValue m.role p e slot.value s).2.1 { f with cursor := i + 1 })
      (forwardRole m.role p e slot.value (cycleNumber f.arrived) (lateForward s)) := by
  have hmap : (lateForward s).map = s.map := map_of_comm (by simp)
  have hentry : (lateForward s).cmds.entry? m.role = s.cmds.entry? m.role := by rw [lateForward_eq]; rfl
  unfold passSlot
  rw [hmap, hm]
  simp only [hp, hentry, he, forwardValue_late]

theorem passSlot_unmapped (hm : entryAt s.map slot.node slot.channel .command = none) :
    passSlot i f slot (lateForward s) = setOutHead { f with cursor := i + 1 } (lateForward s) := by
  have hmap : (lateForward s).map = s.map := map_of_comm (by simp)
  unfold passSlot
  rw [hmap, hm]

/-- What a passage of SPEED_REF makes of SPEED_CAPPED, by the table of R147. -/
theorem speedPassage {capped : Prop} {l : State} {v k : Int}
    (hl : l = if s.evaluating then offer .lateForward .none .absent s else s)
    (hv : v = (forwardValue .speedRef p e w s).2.1) (hk : k = readValue .speedRef w)
    (hc : capped ↔ (∃ y, s.scalars? = some y ∧ y.speedCap = true) ∧ s.solv.publication ≠ none
      ∧ (s.web.state = .threading ∨ s.web.state = .running ∨ s.web.state = .resuming)
      ∧ resolveOwner .speedRef p e s ≠ .safe ∧ v < k)
    (hu : u = forwardRole .speedRef p e w c (lateForward s)) :
    (capped → u.cmds.speedCapped = true)
    ∧ (capped → s.cmds.speedCapped = false → u.log = (offer .speedCapped (.role .speedRef) (.num v) l).log)
    ∧ (¬ capped ∨ s.cmds.speedCapped = true → u.log = l.log)
    ∧ (v = k → u.cmds.speedCapped = false)
    ∧ (¬ capped → v ≠ k → u.cmds.speedCapped = s.cmds.speedCapped) := by
  have hcap : capped ↔ capApplies (resolveOwner .speedRef p e s) (passed .speedRef p e w c s) = true ∧ v < k := by
    rw [hc, show capApplies _ (passed .speedRef p e w c s) = capApplies (resolveOwner .speedRef p e s) s from rfl,
      capApplies_iff]
    simp only [and_assoc]
  have hlog : (passed .speedRef p e w c s).log = l.log := (congrArg State.log hl).symm
  have hframe : l = { s with log := l.log } := by
    rw [hl]; split
    · rw [offer_eq_log]
    · rfl
  rw [forwardRole_late_speed, ← hv, ← hk] at hu
  subst hu
  refine ⟨fun h => ?_, fun h hf => ?_, fun h => ?_, fun h => ?_, fun h hne => ?_⟩
  · cases hf : s.cmds.speedCapped with
    | true => rw [judgeCapped_again (hcap.1 h) hf]; exact hf
    | false => rw [judgeCapped_onset (hcap.1 h) hf]; simp
  · rw [judgeCapped_onset (hcap.1 h) hf]
    refine offer_log_congr _ _ _ hlog ?_ ?_ ?_ ?_ ?_ <;> rw [hframe] <;> rfl
  · obtain h | h := h
    · by_cases hvk : v = k
      · rw [judgeCapped_clear hvk]; exact hlog
      · rw [judgeCapped_stands (fun hn => h (hcap.2 hn)) hvk]; exact hlog
    · by_cases hcapped : capped
      · rw [judgeCapped_again (hcap.1 hcapped) h]; exact hlog
      · by_cases hvk : v = k
        · rw [judgeCapped_clear hvk]; exact hlog
        · rw [judgeCapped_stands (fun hn => hcapped (hcap.2 hn)) hvk]; exact hlog
  · rw [judgeCapped_clear h]
  · rw [judgeCapped_stands (fun hn => h (hcap.2 hn)) hne]; rfl

theorem evaluating_iff (s : State) : s.evaluating = true ↔ s.sched.job ≠ none ∨ s.solv.job ≠ none := by
  simp [State.evaluating, Option.isSome_iff_ne_none]

theorem evaluating_none (h1 : s.sched.job = none) (h2 : s.solv.job = none) : s.evaluating = false := by
  simp [State.evaluating, h1, h2]

/-- A passage of a mapped role, as the line, the entries, the counts and SPEED_CAPPED see it. -/
theorem mappedPassage (hs : s.line.outStore = f :: rest) {x : Role} (he : s.cmds.entry? x = some e)
    (hu : u = setOutHead (rewriteSlot i (forwardValue x p e w s).2.1 { f with cursor := i + 1 })
      (forwardRole x p e w c (lateForward s))) :
    u.line = { s.line with outStore :=
        { f with
          cursor := i + 1
          forwarded := overwrite f.forwarded (4 + 5 * i + 3) (be16Int (forwardValue x p e w s).2.1) } :: rest }
    ∧ u.cmds.entry? x = some { e with
        owner := resolveOwner x p e s, last := some ⟨(forwardValue x p e w s).2.1, c⟩
        previous := e.last, limited := (forwardValue x p e w s).2.2 }
    ∧ (∀ q, q ≠ x → u.cmds.entry? q = s.cmds.entry? q)
    ∧ (u.cmds.late = if s.evaluating then bump32 s.cmds.late else s.cmds.late)
    ∧ { u with line := s.line, cmds := s.cmds, log := s.log } = s
    ∧ u.cmds.kept = (if x = .speedRef then keepArriving c w s.cmds.kept else s.cmds.kept) := by
  have hrole := forwardRole_late x p e w c s
  generalize forwardRole x p e w c (lateForward s) = y at hu hrole
  subst hu
  rw [hrole]
  refine ⟨?_, passageCmds_self he, fun q hq => passageCmds_ne hq, rfl, rfl, rfl⟩
  have htail : s.line.outStore.tail = rest := by rw [hs]; rfl
  simp only [setOutHead, passed, rewriteSlot, slotOffset, htail]

/-- The records and the trip of a role that becomes UNRESPONSIVE in its turn. -/
theorem Turn.unresponsive {k : Nat} (h : Turn x c k (loadHolds r s) u t) (he : s.cmds.entry? x = some e)
    (hp : (commandEntry s.map x).bind commandParams = some p) (hecho : echoEntry s.map x ≠ none)
    (hf : forwardedAt c e = true) (hno : echoMatches p.tolerance (s.board.echo? x) e = false)
    (hhold : holdAfter s.map r x e.hold = 0) (hlimit : p.missLimit ≤ min 64 (e.miss + 1))
    (hresp : e.responsiveness ≠ .unresponsive) :
    (x = .exhaustSp → t.dryer.exhaustUnresponsive = true
      ∧ (s.dryer.exhaustUnresponsive = false → t.dryer.state = .tripped))
    ∧ (s.log.queue.length + k < 32 →
      (x ≠ .exhaustSp → ∃ i ∈ t.log.queue, i.code = .actuatorUnresponsive
        ∧ i.subject = .role x ∧ i.value = (s.cmds.lastValue x).elim .absent .num)
      ∧ (x = .exhaustSp → s.dryer.exhaustUnresponsive = false →
        ∃ i ∈ t.log.queue, i.code = .exhaustUnresponsive
          ∧ i.subject = .role x ∧ i.value = (s.cmds.lastValue x).elim .absent .num)) := by
  have hentry := h.entry he
  have hmiss : judgeEcho c u x = echoMiss p.missLimit x (calm s u { e with hold := holdAfter s.map r x e.hold }) u := by
    rw [judgeEcho_of hentry (by rw [h.map]; exact hp) (by rw [h.map]; exact hecho) hf, h.board]
    exact (if_neg (ne_true_of_eq_false hno)).trans (if_neg (Nat.not_lt.2 (Nat.le_of_eq hhold)))
  have hbecame : judgeEcho c u x = becameUnresponsive x { u with
      cmds.entries := updateKey x (fun y => { y with miss := min 64 (e.miss + 1), responsiveness := .unresponsive })
        u.cmds.entries } := by
    rw [hmiss]
    exact if_pos ⟨hlimit, hresp⟩
  generalize hy : ({ u with
      cmds.entries := updateKey x (fun y => { y with miss := min 64 (e.miss + 1), responsiveness := .unresponsive })
        u.cmds.entries } : State) = y at hbecame
  have hdryer : y.dryer = u.dryer := by rw [← hy]
  have hqueue : y.log = u.log := by rw [← hy]
  have hlast : y.cmds.lastValue x = s.cmds.lastValue x := by
    rw [← hy]
    unfold CmdTable.lastValue
    rw [entry?_update_self, hentry, he]
    rfl
  refine ⟨fun hx => ?_, fun hroom => ?_⟩
  · have hbefore := h.dryerBefore hx
    have htrips := becameUnresponsive_trips y
    rw [← hx, ← hbecame, ← h.dryerAfter hx, hdryer, hbefore] at htrips
    exact htrips
  · obtain ⟨hfits, hkeeps⟩ := h.room hroom
    obtain ⟨hactuator, hexhaust⟩ := becameUnresponsive_reports x y (by rw [hqueue]; exact hfits)
    rw [← hbecame, hlast] at hactuator hexhaust
    refine ⟨fun hx => ?_, fun hx hflag => ?_⟩
    · obtain ⟨i, hi, hrecord⟩ := hactuator hx
      exact ⟨i, hkeeps i hi, hrecord⟩
    · obtain ⟨i, hi, hrecord⟩ := hexhaust hx (by rw [hdryer, h.dryerBefore hx]; exact hflag)
      exact ⟨i, hkeeps i hi, hrecord⟩

/-- A match of an UNRESPONSIVE EXHAUST_SP takes the condition back. -/
theorem Turn.matched {k : Nat} (h : Turn x c k (loadHolds r s) u t) (he : s.cmds.entry? x = some e)
    (hp : (commandEntry s.map x).bind commandParams = some p) (hecho : echoEntry s.map x ≠ none)
    (hf : forwardedAt c e = true) (hm : echoMatches p.tolerance (s.board.echo? x) e = true)
    (hx : x = .exhaustSp) (hresp : e.responsiveness = .unresponsive) : t.dryer.exhaustUnresponsive = false := by
  have hjudge : judgeEcho c u x = echoMatch x (calm s u { e with hold := holdAfter s.map r x e.hold }) u := by
    rw [judgeEcho_of (h.entry he) (by rw [h.map]; exact hp) (by rw [h.map]; exact hecho) hf, h.board]
    exact if_pos hm
  rw [h.dryerAfter hx, hjudge]
  unfold echoMatch
  dsimp only
  rw [if_pos ⟨hresp, hx⟩]
  rfl

/-- Settles O34: the passages that are not offered, unmapped and mapped; and the entry of a role through a refresh. -/
theorem commandPassageForwards : Obligations.CommandPassageForwards := by
  unfold Obligations.CommandPassageForwards
  refine ⟨fun i s f rest slot hs hpass => ⟨fun hno => ?_, fun honline hsince hcomm hkind => ?_⟩, fun r s t ht => ?_⟩
  · refine congrArg Host.Outcome.next (commandPassage_not hs hpass ?_)
    by_cases hk : slot.kind = .command
    · refine .inl (Bool.eq_false_iff.2 fun ho => ?_)
      obtain ⟨h1, h2, h3⟩ := offered_iff.1 ho
      simp_all
    · exact .inr hk
  · have hexec : exec (.commandPassage i) s = .next (passSlot i f slot (lateForward s)) :=
      congrArg Host.Outcome.next (commandPassage_of hs hpass (offered_iff.2 ⟨honline, hsince, hcomm⟩) hkind)
    have hhead : ∀ g v, setOutHead g v = { v with line.outStore := g :: v.line.outStore.tail } := fun _ _ => rfl
    rw [hexec]
    refine ⟨fun hm => ⟨fun h1 h2 => ?_, fun h => ?_⟩, fun m p e hm hp he => ?_⟩
    · rw [passSlot_unmapped hm, lateForward_idle (evaluating_none h1 h2), hhead, hs]
      rfl
    · rw [passSlot_unmapped hm, lateForward_running ((evaluating_iff s).2 h), setOutHead_offer, hhead]
      show Host.Outcome.next (offer _ _ _ { s with line.outStore := _ :: s.line.outStore.tail, cmds.late := _ }) = _
      rw [hs]
      rfl
    · obtain ⟨hline, hself, hother, hlate, hframe, hkept⟩ := mappedPassage (u := passSlot i f slot (lateForward s))
        hs he (passSlot_mapped hm hp he)
      refine ⟨_, rfl, hline, hself, hother, fun h => ?_, fun h1 h2 => ?_, hframe, fun late l capped v k hlt hl hv hk hc =>
        ⟨fun hrole => ?_, fun hrole => ?_⟩⟩
      · rw [hlate, if_pos ((evaluating_iff s).2 h)]; rfl
      · rw [hlate, evaluating_none h1 h2]; rfl
      · rw [hkept, if_neg hrole, passSlot_mapped hm hp he, forwardRole_late_plain hrole]
        subst hl hlt
        exact ⟨rfl, rfl, rfl⟩
      · subst hlt
        rw [hrole] at hkept hv hk hc
        rw [hkept, if_pos rfl, passSlot_mapped hm hp he, hrole]
        obtain ⟨h1, h2⟩ := keepArriving_kept (cycleNumber f.arrived) slot.value s.cmds.kept
        exact ⟨h1, h2, speedPassage
          (u := forwardRole .speedRef p e slot.value (cycleNumber f.arrived) (lateForward s)) hl hv hk hc rfl⟩
  · replace ht : t = commandReaction r s := ht
    subst ht
    have haside := commandReaction_aside r s
    refine ⟨fun hc => by rw [commandReaction, if_neg (by simp [hc])], by simp, ?_, roles_of_aside haside,
      fun role e p c h matched hlaw hc he hp hh hmatched released hrel => ?_⟩
    · simp only [CmdTable.aside, Prod.mk.injEq] at haside
      obtain ⟨-, hlate, hkept, hflag⟩ := haside
      dsimp only
      rw [hlate, hkept, hflag]
    · have hcalm : ∀ y : CmdEntry, y.released = e.released →
          calm s (commandReaction r s) y = { y with released := released } := fun y hy => by
        rw [calm, hrel, hy]
      subst hh
      have hplain : (r.good = false ∨ r.cycle = none ∨ echoEntry s.map role = none
          ∨ ∃ c, r.cycle = some c ∧ forwardedAt c e = false) →
          (commandReaction r s).cmds.entry? role =
            some { e with hold := holdAfter s.map r role e.hold, released := released } := fun hno => by
        rw [commandReaction_unjudged hlaw hc he hno]
        exact congrArg some (hcalm _ (by rfl))
      refine ⟨fun hno => hplain ?_, fun hgood hcycle hecho => ⟨fun h1 h2 => hplain ?_, fun hf => ?_⟩⟩
      · obtain hno | hno | hno := hno
        · exact .inl hno
        · exact .inr (.inl hno)
        · exact .inr (.inr (.inl hno))
      · exact .inr (.inr (.inr ⟨c, hcycle, Bool.eq_false_iff.2 fun hf => (forwardedAt_iff.1 hf).elim h1 h2⟩))
      · have hf' := forwardedAt_iff.2 hf
        obtain ⟨u, hturn⟩ := commandReaction_turn hlaw hc he hgood hcycle
        have hjudged := hturn.judged he hp hecho hf'
        have hechoes : echoMatches p.tolerance (s.board.echo? role)
            { e with hold := holdAfter s.map r role e.hold } = true ↔ matched :=
          echoMatches_iff.trans hmatched.symm
        refine ⟨fun hm => ⟨?_, fun hx hresp => hturn.matched he hp hecho hf' (hechoes.2 hm) hx hresp⟩,
          fun hm hpos => ?_, fun hm hzero n hn => ⟨?_, fun hlimit hresp => ?_⟩⟩
        · rw [hjudged, judgedEntry, if_pos (hechoes.2 hm)]
          exact congrArg some (hcalm _ (by rfl))
        · rw [hjudged, judgedEntry, if_neg (fun hy => hm (hechoes.1 hy)), if_pos hpos]
          exact congrArg some (hcalm _ (by rfl))
        · rw [hjudged, judgedEntry, if_neg (fun hy => hm (hechoes.1 hy)),
            if_neg (by simp [hzero]), hn]
          exact congrArg some (hcalm _ (by rfl))
        · exact hturn.unresponsive he hp hecho hf' (Bool.eq_false_iff.2 fun hy => hm (hechoes.1 hy)) hzero
            (hn ▸ hlimit) hresp

end Sys2Proof.Machine
end

section
/-! PROOF. The frames of the line: arrival, the records and places of a service frame, the status slot, the ends of OUT
and service frames, and the trailers (R1 to R9, R17 to R19, R167 to R170, R189). -/

namespace Sys2Proof.Machine

open Sys2Proof Sys2Proof.Machine

variable {s t u : State} {f : Transit} {rest : List Transit} {i us : Nat} {p q : Place} {d : Dir}

/-! ## A service frame streams past (R167, R168, R170) -/

theorem requestTaking_of {rec : List Byte} (hs : s.line.outStore = f :: rest) (hb : s.line.state ≠ .bypass)
    (hk : kindOf f.arrived = .service) (hh : headerComplete f.arrived = true) (hc : f.cursor ≤ i)
    (hr : requestAt f.arrived i = some rec) : requestTaking i s =
      if byteAt rec 0 = s.node then setOutHead (blankRecord i f) (takeRequest rec s) else s := by
  unfold requestTaking
  rw [hs]
  simp only [hb, hk, hh, hc, hr, ne_eq, not_false_eq_true, and_self, if_true]

theorem setOutHead_eq (hs : s.line.outStore = f :: rest) (g : Transit) :
    setOutHead g s = { s with line.outStore := g :: rest } := by
  rw [setOutHead, hs]; rfl

/-- Settles O40: a record for another node, one with a place free, and one with all places held. -/
theorem requestTakenOrRefused : Obligations.RequestTakenOrRefused := by
  unfold Obligations.RequestTakenOrRefused
  intro i s f rest rec hs hb hk hh hc hr
  have hexec : exec (.requestTaking i) s = .next
      (if byteAt rec 0 = s.node then setOutHead (blankRecord i f) (takeRequest rec s) else s) :=
    congrArg Host.Outcome.next (requestTaking_of hs hb hk hh hc hr)
  rw [hexec]
  refine ⟨fun hn => by rw [if_neg hn], fun blanked hblank => ⟨fun hn hroom => ?_, fun hn hfull => ?_⟩⟩
  · have htake : takeRequest rec s = { s with agent.places := s.agent.places ++ [newPlace rec] } := if_pos hroom
    rw [if_pos hn, hblank, htake]
    exact congrArg Host.Outcome.next
      (setOutHead_eq (s := { s with agent.places := s.agent.places ++ [newPlace rec] }) hs _)
  · have htake : takeRequest rec s = refuseTaking rec s := if_neg (Nat.not_lt.2 hfull)
    rw [if_pos hn, hblank, htake]
    exact congrArg Host.Outcome.next (setOutHead_eq (s := refuseTaking rec s) hs _)

theorem partCount_eq (r : Reply) : partCount r = max 1 ((r.data.length + 11) / 12) := rfl

/-- The next part due is that of the first REPLY place. -/
theorem nextPart_append {ahead behind : List Place} {r : Reply} {n : Nat} {b : Bool}
    (ha : ∀ q ∈ ahead, ∀ r' n' f', q.stage ≠ .reply r' n' f') (hp : p.stage = .reply r n b) :
    nextPart (ahead ++ p :: behind) = some ((p.tag, r, n), ahead ++ placePart r n p :: behind) := by
  induction ahead with
  | nil => simp only [List.nil_append, nextPart, hp]
  | cons q ahead ih =>
    have hq := ha q (.head _)
    have hrest := ih fun x hx => ha x (.tail _ hx)
    cases hst : q.stage with
    | reply r' n' f' => exact absurd hst (hq r' n' f')
    | provisional | waiting | inFrame => simp only [List.cons_append, nextPart, hst, hrest]

theorem nextPart_none {l : List Place} (h : ∀ q ∈ l, ∀ r n b, q.stage ≠ .reply r n b) : nextPart l = none := by
  induction l with
  | nil => rfl
  | cons q l ih =>
    have hq := h q (.head _)
    have hrest := ih fun x hx => h x (.tail _ hx)
    cases hst : q.stage with
    | reply r' n' f' => exact absurd hst (hq r' n' f')
    | provisional | waiting | inFrame => simp only [nextPart, hst, hrest]

theorem replyPlaceFill_free (hs : s.line.backStore = f :: rest) (hb : s.line.state ≠ .bypass)
    (hk : kindOf f.arrived = .service) (hh : headerComplete f.arrived = true) (hc : f.cursor ≤ i)
    (hfree : freePlaceAt f.arrived i = true) : replyPlaceFill i s = fillFree i f s := by
  unfold replyPlaceFill
  rw [hs]
  simp only [hb, hk, hh, hc, hfree, ne_eq, not_false_eq_true, and_self, if_true]

theorem replyPlaceFill_taken (hs : s.line.backStore = f :: rest) (hfree : freePlaceAt f.arrived i = false) :
    replyPlaceFill i s = s := by
  unfold replyPlaceFill
  rw [hs]
  simp only [hfree, Bool.false_eq_true, and_false, if_false]

theorem setBackHead_eq (hs : s.line.backStore = f :: rest) (g : Transit) :
    setBackHead g s = { s with line.backStore := g :: rest } := by
  rw [setBackHead, hs]; rfl

/-- Settles O41: a place that is not free, and a free one with a mark, with a reply due, and with neither. -/
theorem replyPlaceFilled : Obligations.ReplyPlaceFilled := by
  unfold Obligations.ReplyPlaceFilled
  intro i s f rest hs hb hk hh hc
  refine ⟨fun hno => congrArg Host.Outcome.next (replyPlaceFill_taken hs hno), fun hfree => ?_⟩
  have hexec : exec (.replyPlaceFill i) s = .next (fillFree i f s) :=
    congrArg Host.Outcome.next (replyPlaceFill_free hs hb hk hh hc hfree)
  rw [hexec]
  refine ⟨fun m ms hm => ?_, fun ahead behind p r n b hm hplaces ha hp => ?_, fun hm hno => ?_⟩
  · rw [fillFree, hm]
    exact congrArg Host.Outcome.next (setBackHead_eq hs _)
  · rw [fillFree, hm, hplaces]
    simp only [nextPart_append ha hp, placePart, partCount_eq]
    rw [setBackHead_eq (f := f) (rest := rest) (by exact hs)]
    rw [fillPlace, hm]
    rfl
  · rw [fillFree, hm, nextPart_none hno]
    exact congrArg Host.Outcome.next (setBackHead_eq hs _)

/-! ## Arrival (R1, R3, R4) -/

theorem dropSync_eq (l : LineIf) : dropSync l = { l with syncCount := if l.state = .syncing then 0 else l.syncCount } := by
  unfold dropSync; split <;> rfl

theorem frameArrival_room (b : Byte) (l : List Byte) (h : s.line.state ≠ .bypass)
    (hroom : (s.line.store d).length < 2) : frameArrival d b l s =
      bindMarks d b { s with line := s.line.setStore d (s.line.store d ++ [newTransit d b l s]) } :=
  (if_neg h).trans (if_pos hroom)

theorem frameArrival_full (b : Byte) (l : List Byte) (h : s.line.state ≠ .bypass)
    (hfull : 2 ≤ (s.line.store d).length) : frameArrival d b l s = overrun (frameKind b) (bindMarks d b s) :=
  (if_neg h).trans (if_neg (Nat.not_lt.2 hfull))

/-- The standing marks go with a BACK service frame alone. -/
theorem bindMarks_keeps {b : Byte} (h : ¬ (d = .back ∧ frameKind b = .service)) : bindMarks d b s = s := if_neg h

theorem newTransit_plain {b : Byte} {l : List Byte} (h : ¬ (d = .back ∧ frameKind b = .service)) :
    newTransit d b l s = ⟨b :: l, b :: l, decide (s.line.state = .online), 0, [], []⟩ := by
  rw [newTransit, if_neg h]

/-- Settles O42: BYPASS, a free place in either direction, and the overrun of each kind. -/
theorem frameArrives : Obligations.FrameArrives := by
  unfold Obligations.FrameArrives
  intro d b l s
  refine ⟨fun h => congrArg Host.Outcome.next (if_pos h), fun h place hplace => ?_⟩
  have hexec : ∀ d, exec (.frameArrival d b l) s = .next (frameArrival d b l s) := fun _ => rfl
  rw [hexec]
  subst hplace
  refine ⟨fun hd hroom => ?_, fun hd hk hroom => ?_, fun hd hk hroom => ?_, fun hfull => ⟨fun hk => ?_, fun hk => ?_,
    fun hk => ?_⟩⟩
  · subst hd
    have hno : ¬ (Dir.out = .back ∧ frameKind b = .service) := nofun
    rw [frameArrival_room (d := .out) b l h hroom, bindMarks_keeps hno, newTransit_plain hno]
    rfl
  · subst hd
    have hno : ¬ (Dir.back = .back ∧ frameKind b = .service) := fun hn => hk hn.2
    rw [frameArrival_room (d := .back) b l h hroom, bindMarks_keeps hno, newTransit_plain hno]
    rfl
  · subst hd
    rw [frameArrival_room (d := .back) b l h hroom, bindMarks, if_pos ⟨rfl, hk⟩, newTransit, if_pos ⟨rfl, hk⟩]
    rfl
  · rw [frameArrival_full b l h hfull, bindMarks_keeps (by simp [hk]), hk]
    rfl
  · rw [frameArrival_full b l h hfull, bindMarks_keeps (by simp [hk]), hk]
    show Host.Outcome.next (frameErrors { s with line := dropSync { s.line with overruns := bump32 s.line.overruns } }) = _
    rw [dropSync_eq]
    rfl
  · rw [frameArrival_full b l h hfull, hk]
    cases d with
    | out => rw [bindMarks_keeps (by simp)]; rfl
    | back => rw [bindMarks, if_pos ⟨rfl, hk⟩]; rfl

/-! ## The end of a frame (R2, R5, R14, R17 to R19) -/

theorem longFrame_iff (bs : List Byte) : longFrame bs = true ↔
    kindOf bs = .cycle ∧ headerComplete bs = true ∧ 96 < slotCount bs := by
  simp only [longFrame, Bool.and_eq_true, decide_eq_true_eq]
  rw [and_comm (a := headerComplete bs = true), and_assoc]

theorem longFrame_service {bs : List Byte} (h : kindOf bs = .service) : longFrame bs = false :=
  Bool.eq_false_iff.2 fun hl => by have hk := ((longFrame_iff bs).1 hl).1; simp [h] at hk

theorem slotAt_beyond {bs : List Byte} (h : 96 ≤ i) : slotAt bs i = none := if_neg fun hn => by omega

theorem commandPassage_beyond (h : 96 ≤ i) : commandPassage i s = s := by
  unfold commandPassage
  split
  · rfl
  · split
    · rw [slotAt_beyond h]
    · rfl

theorem statusSlotWrite_beyond (h : 96 ≤ i) : statusSlotWrite i s = s := by
  unfold statusSlotWrite
  split
  · rfl
  · split
    · rw [slotAt_beyond h]
    · rfl

/-- The line as a frame leaves it (R2, R3). -/
theorem frameEnd_out (h : Leaving .out f s) : exec (.frameEnd .out us) s = .next (endOf (Config.reactionOrder s.choices)
    .out f { s with
      now := s.now + us
      line := { s.line with outStore := s.line.outStore.tail, sentOut := some (sentBytes f) } }) :=
  congrArg Host.Outcome.next (frameEnd_leaving h _ us)

theorem frameEnd_back (h : Leaving .back f s) : exec (.frameEnd .back us) s =
    .next (endOf (Config.reactionOrder s.choices) .back f { s with
      now := s.now + us
      line := { s.line with backStore := s.line.backStore.tail, sentBack := some (sentBytes f) } }) :=
  congrArg Host.Outcome.next (frameEnd_leaving h _ us)

theorem offerErrors_plain (hg : goodFrame f.arrived = true) (hl : longFrame f.arrived = false) : offerErrors f s = s :=
  if_neg (by simp [hasErrors, hg, hl])

theorem offerErrors_offers (h : goodFrame f.arrived = false ∨ longFrame f.arrived = true) :
    offerErrors f s = offer .frameErrors .none .absent s :=
  if_pos (by obtain h | h := h <;> simp [hasErrors, h])

theorem endOf_outCycle (hk : kindOf f.arrived = .cycle) (k : Nat) : endOf k .out f s = outCycleEnd f s := by
  simp only [endOf, hk]

theorem endOf_outService (hk : kindOf f.arrived = .service) (k : Nat) : endOf k .out f s = outServiceEnd f s := by
  simp only [endOf, hk]

theorem endOf_backService (hk : kindOf f.arrived = .service) (k : Nat) : endOf k .back f s = backServiceEnd f s := by
  simp only [endOf, hk]

theorem confirmTaking_eq (p : Place) : confirmTaking p = if p.stage = .provisional then { p with stage := .waiting } else p := by
  unfold confirmTaking
  cases h : p.stage <;> simp

theorem bump32_eq (n : Nat) : bump32 n = min 4294967295 (n + 1) := rfl

/-- Settles O43: each kind of OUT frame, good and poisoned, long or not; what is long; and the slots beyond the 96th. -/
theorem outFrameEnds : Obligations.OutFrameEnds := by
  unfold Obligations.OutFrameEnds
  refine ⟨fun us s f l hleave hl => ?_, fun f => longFrame_iff f.arrived, fun i s h =>
    ⟨congrArg Host.Outcome.next (commandPassage_beyond h), congrArg Host.Outcome.next (statusSlotWrite_beyond h)⟩⟩
  rw [frameEnd_out hleave, ← hl]
  refine ⟨fun hk => ?_, fun hk hlong => ⟨fun hg => ?_, fun hg => ?_⟩, fun hk hlong => ⟨fun hg => ?_, fun hg => ?_⟩,
    fun hk => ⟨fun hg => ?_, fun hg => ?_⟩⟩
  · simp only [endOf, hk]
  · rw [endOf_outCycle hk, outCycleEnd, offerErrors_plain hg hlong]
    simp [outCycleLine, countFrame, remember, hg, hlong, hk, bump32_eq]
  · rw [endOf_outCycle hk, outCycleEnd, offerErrors_offers (.inl hg)]
    simp [outCycleLine, countFrame, dropSync_eq, hg, hlong, bump32_eq]
  · rw [endOf_outCycle hk, outCycleEnd, offerErrors_offers (.inr hlong)]
    simp [outCycleLine, countFrame, remember, hg, hlong, hk, bump32_eq]
  · rw [endOf_outCycle hk, outCycleEnd, offerErrors_offers (.inl hg)]
    simp [outCycleLine, countFrame, dropSync_eq, hg, hlong, bump32_eq]
  · rw [endOf_outService hk, outServiceEnd, offerErrors_plain hg (longFrame_service hk)]
    simp [countFrame, settleTakings, confirmTaking_eq, hg, longFrame_service hk, hk, bump32_eq]
  · rw [endOf_outService hk, outServiceEnd, offerErrors_offers (.inl hg)]
    simp [countFrame, settleTakings, Place.isProvisional, hg, longFrame_service hk, bump32_eq]

/-! ## The end of a BACK service frame (R167, R170, R179) -/

theorem deliversReset_of {d : Nat} (hw : s.agent.resetWait = some d) (hp : p ∈ s.agent.places) (hc : p.code = 25)
    (hst : p.stage = .inFrame { status := .done, data := [] }) : deliversReset s.agent = true := by
  simp only [deliversReset, hw, Option.isSome_some, Bool.true_and, List.any_eq_true]
  exact ⟨p, hp, by simp [hc, hst]⟩

theorem deliversReset_idle (hw : s.agent.resetWait = none) : deliversReset s.agent = false := by
  simp [deliversReset, hw]

theorem mem_settled {l : List Place} : p ∈ settleReplies true l ↔
    ∃ q ∈ l, (∀ r, q.stage ≠ .inFrame r) ∧ keepPlaced q = p := by
  have hin : ∀ q : Place, q.isInFrame = false ↔ ∀ r, q.stage ≠ .inFrame r := fun q => by
    unfold Place.isInFrame
    cases q.stage <;> simp
  simp only [settleReplies, if_true, List.mem_map, List.mem_filter, Bool.not_eq_true', hin, and_assoc]

theorem keepPlaced_stage (q : Place) (r : Reply) (h : (keepPlaced q).stage = .inFrame r) : q.stage = .inFrame r := by
  unfold keepPlaced at h
  split at h
  · cases h
  all_goals exact h

theorem returnReply_eq (p : Place) : returnReply p = match p.stage with
    | .inFrame r => { p with stage := .reply r 0 false }
    | .reply r n f => { p with stage := .reply r (if f then 0 else n) false }
    | .provisional => p
    | .waiting => p := by
  unfold returnReply
  cases h : p.stage with
  | reply r n f =>
    cases f with
    | true => rfl
    | false => exact (congrArg (fun st => { p with stage := st }) h : _)
  | provisional | waiting | inFrame => rfl

/-- Settles O44: a good end settles the places, or delivers the answer to RESET_PART; a poisoned one places the replies
again. -/
theorem backServiceFrameEnds : Obligations.BackServiceFrameEnds := by
  unfold Obligations.BackServiceFrameEnds
  intro us s f l hleave hk hl
  rw [frameEnd_back hleave, ← hl, endOf_backService hk, backServiceEnd]
  refine ⟨fun hg => ⟨fun hw => ?_, fun d p hw hp hc hst => ?_⟩, fun hg => ?_⟩
  · refine ⟨settleReplies true s.agent.places, ?_, fun p hp hmem => ?_, fun p hp hst => ?_, fun p hp r n b hst => ?_⟩
    · rw [offerErrors_plain hg (longFrame_service hk)]
      simp [countFrame, hg, longFrame_service hk, deliversReset_idle hw, bump32_eq]
    · obtain ⟨r, hr⟩ := hp
      obtain ⟨q, -, hq, rfl⟩ := mem_settled.1 hmem
      exact hq r (keepPlaced_stage q r hr)
    · refine mem_settled.2 ⟨p, hp, ?_, ?_⟩
      · obtain hst | hst := hst <;> simp [hst]
      · obtain hst | hst := hst <;> simp [keepPlaced, hst]
    · exact mem_settled.2 ⟨p, hp, by simp [hst], by simp [keepPlaced, hst]⟩
  · rw [offerErrors_plain hg (longFrame_service hk)]
    have hreset : (goodFrame f.arrived && deliversReset s.agent) = true := by
      rw [hg, deliversReset_of hw hp hc hst]; rfl
    rw [if_pos hreset]
    exact ⟨_, rfl, rfl, rfl, rfl, rfl, rfl⟩
  · rw [offerErrors_offers (.inl hg), if_neg (by simp [hg])]
    simp [countFrame, settleReplies, hg, longFrame_service hk, bump32_eq, funext returnReply_eq] <;> rfl

end Sys2Proof.Machine
end

section
/-! PROOF. The trailer of a frame as it leaves (R5, R189), and the status items (R194). -/

namespace Sys2Proof.Machine

open Sys2Proof Sys2Proof.Machine

variable {s : State} {f : Transit} {bs cs xs : List Byte} {i : Nat}

/-! ## The trailers (R5, R189) -/

theorem freshTrailer_length (bs : List Byte) : (freshTrailer bs).length = 4 := rfl

theorem poisonedTrailer_length (bs : List Byte) : (poisonedTrailer bs).length = 4 := rfl

/-- No byte is its own complement. -/
theorem poisoned_ne_fresh (bs : List Byte) : poisonedTrailer bs ≠ freshTrailer bs := fun h => by
  have hhead : ~~~(byte (crc32 bs / 16777216)) = byte (crc32 bs / 16777216) := (List.cons.inj h).1
  have hbit := congrArg (fun b : Byte => b.getLsbD 0) hhead
  simp at hbit

theorem kindOf_cons_of_ne (h : kindOf bs ≠ .foreign) : ∃ b l, bs = b :: l := by
  cases bs with
  | nil => exact absurd rfl h
  | cons b l => exact ⟨b, l, rfl⟩

theorem kindOf_append (h : bs ≠ []) (xs : List Byte) : kindOf (bs ++ xs) = kindOf bs := by
  cases bs with
  | nil => exact absurd rfl h
  | cons b l => rfl

theorem byteAt_append (h : i < bs.length) (xs : List Byte) : byteAt (bs ++ xs) i = byteAt bs i := by
  unfold byteAt
  rw [List.getD_eq_getElem?_getD, List.getElem?_append_left h, List.getD_eq_getElem?_getD]

theorem headerComplete_iff : headerComplete bs = true ↔ headerLength (kindOf bs) ≤ bs.length := by
  simp [headerComplete]

theorem ne_nil_of_kind (h : kindOf bs ≠ .foreign) : bs ≠ [] := fun e => h (by rw [e]; rfl)

/-- The body a header announces is told by the header alone. -/
theorem bodyLength_congr (hk : kindOf cs = kindOf bs) (h : ∀ i, i < headerLength (kindOf bs) → byteAt cs i = byteAt bs i) :
    bodyLength cs = bodyLength bs := by
  unfold bodyLength
  rw [hk]
  cases hb : kindOf bs with
  | foreign => rfl
  | cycle => simp only [slotCount, h 1 (by rw [hb]; decide)]
  | service => simp only [requestPlaces, replyPlaces, h 1 (by rw [hb]; decide), h 2 (by rw [hb]; decide)]

theorem bodyLength_append (hk : kindOf bs ≠ .foreign) (hh : headerComplete bs = true) (xs : List Byte) :
    bodyLength (bs ++ xs) = bodyLength bs :=
  bodyLength_congr (kindOf_append (ne_nil_of_kind hk) xs) fun _ hi =>
    byteAt_append (Nat.lt_of_lt_of_le hi (headerComplete_iff.1 hh)) xs

/-- A frame made of header, body and four bytes more is good exactly when the length is the announced one and the four
bytes are the fresh trailer. -/
theorem goodFrame_append (hk : kindOf bs ≠ .foreign) (hh : headerComplete bs = true) (hx : xs.length = 4) :
    goodFrame (bs ++ xs) = (decide (bs.length = headerLength (kindOf bs) + bodyLength bs)
      && decide (xs = freshTrailer bs)) := by
  have hkind := kindOf_append (ne_nil_of_kind hk) xs
  have hcomplete : headerComplete (bs ++ xs) = true := by
    rw [headerComplete_iff, hkind, List.length_append]
    have := headerComplete_iff.1 hh
    omega
  have hlen : (bs ++ xs).length - 4 = bs.length := by rw [List.length_append, hx]; omega
  unfold goodFrame
  rw [hcomplete, hkind, bodyLength_append hk hh, hlen, List.drop_left, List.take_left, List.length_append, hx,
    Bool.true_and]
  congr 1
  rw [decide_eq_decide]
  omega

/-- A frame cut short within its header is not good, whatever is put after it. -/
theorem goodFrame_short (hh : headerComplete bs = false) (hk : kindOf bs ≠ .foreign) (hx : xs.length = 4) :
    goodFrame (bs ++ xs) = false := by
  have hshort : bs.length < headerLength (kindOf bs) := by
    rw [← Nat.not_le, ← headerComplete_iff, hh]
    exact Bool.false_ne_true
  refine Bool.eq_false_iff.2 fun h => ?_
  simp only [goodFrame, Bool.and_eq_true, decide_eq_true_eq, List.length_append, hx,
    kindOf_append (ne_nil_of_kind hk)] at h
  omega

theorem goodFrame_complete (h : goodFrame bs = true) : headerComplete bs = true
    ∧ bs.length = headerLength (kindOf bs) + bodyLength bs + 4 := by
  simp only [goodFrame, Bool.and_eq_true, decide_eq_true_eq] at h
  exact h.1

theorem headerLength_pos {k : FrameKind} (h : k ≠ .foreign) : 0 < headerLength k := by
  cases k with
  | foreign => exact absurd rfl h
  | cycle | service => decide

/-- What is written into a frame keeps its header: the kind, and the bytes that announce the body. -/
theorem forwarded_header (h : TransitKept f) (hk : kindOf f.arrived ≠ .foreign) :
    kindOf f.forwarded = kindOf f.arrived
      ∧ ∀ i, i < headerLength (kindOf f.arrived) → byteAt f.forwarded i = byteAt f.arrived i := by
  obtain ⟨-, htake, -⟩ := h
  have hbyte : ∀ i, i < headerLength (kindOf f.arrived) → f.forwarded.getD i 0 = f.arrived.getD i 0 := fun i hi => by
    have hget := congrArg (fun l => l.getD i 0) htake
    simpa [List.getD_eq_getElem?_getD, List.getElem?_take, hi] using hget
  refine ⟨?_, fun i hi => congrArg BitVec.toNat (hbyte i hi)⟩
  have hpos := headerLength_pos hk
  obtain ⟨n, hn⟩ := Nat.exists_eq_succ_of_ne_zero (Nat.ne_of_gt hpos)
  rw [hn] at htake
  obtain ⟨b, l, hb⟩ := kindOf_cons_of_ne hk
  cases hf : f.forwarded with
  | nil => simp [hf, hb] at htake
  | cons c m =>
    rw [hf, hb] at htake
    rw [hb]
    exact congrArg frameKind (List.cons.inj htake).1

theorem headAndBody_complete (hh : headerComplete bs = true) :
    headAndBody bs = bs.take (max (headerLength (kindOf bs)) (bs.length - 4)) := if_pos hh

/-- Header and body keep the header. -/
theorem headAndBody_header (hh : headerComplete bs = true) (hk : kindOf bs ≠ .foreign) :
    kindOf (headAndBody bs) = kindOf bs ∧ headerComplete (headAndBody bs) = true
      ∧ bodyLength (headAndBody bs) = bodyLength bs
      ∧ (headAndBody bs).length = min (max (headerLength (kindOf bs)) (bs.length - 4)) bs.length := by
  have hlen : (headAndBody bs).length = min (max (headerLength (kindOf bs)) (bs.length - 4)) bs.length := by
    rw [headAndBody_complete hh, List.length_take]
  have hle := headerComplete_iff.1 hh
  have hpos := headerLength_pos hk
  have hsplit : bs = headAndBody bs ++ bs.drop (max (headerLength (kindOf bs)) (bs.length - 4)) := by
    rw [headAndBody_complete hh, List.take_append_drop]
  have hne : headAndBody bs ≠ [] := fun e => by rw [e, List.length_nil] at hlen; omega
  have hkind : kindOf (headAndBody bs) = kindOf bs := by
    conv => rhs; rw [hsplit]
    exact (kindOf_append hne _).symm
  have hcomplete : headerComplete (headAndBody bs) = true := by rw [headerComplete_iff, hkind, hlen]; omega
  refine ⟨hkind, hcomplete, ?_, hlen⟩
  conv => rhs; rw [hsplit]
  exact (bodyLength_append (hkind ▸ hk) hcomplete _).symm

/-- A frame in transit leaves good exactly when it arrived good. -/
theorem sentBytes_good (h : TransitKept f) (hk : kindOf f.arrived ≠ .foreign) :
    goodFrame (sentBytes f) = goodFrame f.arrived := by
  obtain ⟨hkind, hbytes⟩ := forwarded_header h hk
  have hbody := bodyLength_congr hkind hbytes
  have hlen : f.forwarded.length = f.arrived.length := h.1
  have hsent : sentBytes f = headAndBody f.forwarded ++
      (if goodFrame f.arrived then freshTrailer (headAndBody f.forwarded)
        else poisonedTrailer (headAndBody f.forwarded)) := if_neg hk
  have hcomplete : headerComplete f.forwarded = headerComplete f.arrived := by
    rw [headerComplete, headerComplete, hkind, hlen]
  have hk' : kindOf f.forwarded ≠ .foreign := hkind ▸ hk
  cases hh : headerComplete f.arrived with
  | false =>
    have hbad : goodFrame f.arrived = false := Bool.eq_false_iff.2 fun hg => by
      rw [(goodFrame_complete hg).1] at hh; cases hh
    rw [hsent, hbad, if_neg Bool.false_ne_true]
    have hself : headAndBody f.forwarded = f.forwarded := if_neg (by rw [hcomplete, hh]; exact Bool.false_ne_true)
    rw [hself, goodFrame_short (hcomplete.trans hh) hk' (poisonedTrailer_length _)]
  | true =>
    obtain ⟨hk1, hc1, hb1, hl1⟩ := headAndBody_header (hcomplete.trans hh) hk'
    rw [hsent]
    cases hg : goodFrame f.arrived with
    | true =>
      obtain ⟨-, hlength⟩ := goodFrame_complete hg
      rw [if_pos rfl, goodFrame_append (hk1 ▸ hk') hc1 (freshTrailer_length _), hb1, hl1, hk1, hkind, hbody, hlen]
      simp
      omega
    | false =>
      rw [if_neg Bool.false_ne_true, goodFrame_append (hk1 ▸ hk') hc1 (poisonedTrailer_length _)]
      simp [poisoned_ne_fresh]

/-- Settles O46. -/
theorem trailersTellGood : Obligations.TrailersTellGood := by
  unfold Obligations.TrailersTellGood
  refine ⟨fun bs hk hh hlen => ⟨?_, ?_⟩, fun f h hk => sentBytes_good h hk⟩
  · rw [goodFrame_append hk hh (freshTrailer_length bs)]
    simp [hlen]
  · rw [goodFrame_append hk hh (poisonedTrailer_length bs)]
    simp [poisoned_ne_fresh]

end Sys2Proof.Machine
end

section
/-! PROOF. The status slot and its items (R9, R56, R86, R165, R175, R194). -/

namespace Sys2Proof.Machine

open Sys2Proof Sys2Proof.Machine

variable {s : State} {f : Transit} {rest : List Transit} {slot : Slot} {i m : Nat} {q : Four Bank} {b : BankNo}

theorem ownStatus_iff (slot : Slot) (s : State) : ownStatus slot s = true ↔
    slot.kind = .status ∧ slot.node = s.node ∧ slot.channel ≤ 7 := by
  simp [ownStatus, and_assoc]

theorem statusSlotWrite_of (hs : s.line.backStore = f :: rest) (h : SlotPasses i f slot) (ho : s.line.state = .online)
    (hf : f.sinceOnline = true) : statusSlotWrite i s =
      if ownStatus slot s then setBackHead (writeStatus s.map i (statusItem slot.channel s) f) s else s := by
  obtain ⟨hkind, hheader, hcursor, hslot⟩ := h
  unfold statusSlotWrite
  rw [hs]
  simp only [ho, hkind, hheader, hf, hcursor, and_self, if_true, hslot]

theorem statusSlotWrite_not (hs : s.line.backStore = f :: rest) (h : s.line.state ≠ .online ∨ f.sinceOnline = false) :
    statusSlotWrite i s = s := by
  unfold statusSlotWrite
  rw [hs]
  refine if_neg fun hn => ?_
  obtain ⟨ho, -, -, hf, -⟩ := hn
  obtain h | h := h
  · exact h ho
  · simp [h] at hf

/-- The highest class of a queue is the least bound of its ranks. -/
theorem highestClass_eq {l : List Incident} (hle : ∀ x ∈ l, x.code.cls.rank ≤ m)
    (h : m = 0 ∧ l = [] ∨ ∃ x ∈ l, x.code.cls.rank = m) : highestClass l = m := by
  have hfold : ∀ (l : List Incident) (k : Nat), (∀ x ∈ l, x.code.cls.rank ≤ m) → k ≤ m →
      (k = m ∨ ∃ x ∈ l, x.code.cls.rank = m) → l.foldl (fun n r => max n r.code.cls.rank) k = m := by
    intro l
    induction l with
    | nil => exact fun k _ _ h => h.elim id fun ⟨x, hx, _⟩ => (nomatch hx)
    | cons y l ih =>
      intro k hle hk h
      have hy := hle y (.head _)
      refine ih (max k y.code.cls.rank) (fun x hx => hle x (.tail _ hx)) (by omega) ?_
      obtain rfl | ⟨x, hx, hm⟩ := h
      · exact .inl (by omega)
      · obtain rfl | hx := List.mem_cons.1 hx
        · exact .inl (by omega)
        · exact .inr ⟨x, hx, hm⟩
  obtain ⟨rfl, rfl⟩ | h := h
  · rfl
  · exact hfold l 0 hle (Nat.zero_le m) (.inr h)

theorem activeBank_none_of (h : ∀ b, (q.get b).state ≠ .active) : activeBank q = none := by
  cases ha : activeBank q with
  | none => rfl
  | some b => exact absurd (activeBank_spec ha) (h b)

theorem activeBank_only (hb : (q.get b).state = .active) (h : ∀ c, (q.get c).state = .active → c = b) :
    activeBank q = some b := by
  obtain ⟨c, hc⟩ := Option.isSome_iff_exists.1 (activeBank_isSome hb)
  rw [hc, h c (activeBank_spec hc)]

theorem pendingBank_none_of (h : ∀ b, (q.get b).state.isPending = false) : pendingBank q = none := by
  cases ha : pendingBank q with
  | none => rfl
  | some b => exact absurd (pendingBank_spec ha) (by simp [h b])

theorem pendingBank_only (hb : (q.get b).state.isPending = true)
    (h : ∀ c, (q.get c).state.isPending = true → c = b) : pendingBank q = some b := by
  obtain ⟨c, hc⟩ := Option.isSome_iff_exists.1 (pendingBank_isSome hb)
  rw [hc, h c (pendingBank_spec hc)]

/-- The code of the ACTIVE bank. -/
theorem activeCode_eq {a : Nat} (h : a = 15 ∧ (∀ b, (q.get b).state ≠ .active)
    ∨ ∃ b : BankNo, a = b.val ∧ (q.get b).state = .active ∧ ∀ c, (q.get c).state = .active → c = b) :
    bankCode 15 (activeBank q) = a := by
  obtain ⟨rfl, h⟩ | ⟨b, rfl, hb, h⟩ := h
  · rw [activeBank_none_of h]; rfl
  · rw [activeBank_only hb h]; rfl

/-- The codes of the PENDING bank and of its mode. -/
theorem pendingCode_eq {p m : Nat} (h : p = 15 ∧ m = 255 ∧ (∀ b, (q.get b).state.isPending = false)
    ∨ ∃ b : BankNo, p = b.val ∧ (∀ c, (q.get c).state.isPending = true → c = b)
      ∧ ((q.get b).state = .pending .atSplice ∧ m = 0 ∨ (q.get b).state = .pending .atStop ∧ m = 1)) :
    bankCode 15 (pendingBank q) = p ∧ pendingModeCode q = m := by
  obtain ⟨rfl, rfl, h⟩ | ⟨b, rfl, h, hb⟩ := h
  · rw [pendingModeCode, pendingBank_none_of h]; exact ⟨rfl, rfl⟩
  · have hsome : pendingBank q = some b := by
      refine pendingBank_only ?_ h
      obtain ⟨hb, -⟩ | ⟨hb, -⟩ := hb <;> rw [hb] <;> rfl
    rw [pendingModeCode, hsome]
    refine ⟨rfl, ?_⟩
    obtain ⟨hb, rfl⟩ | ⟨hb, rfl⟩ := hb <;> simp only [hb]

/-- Settles O47: the slot that is the part's to write, any other, and the items channel by channel. -/
theorem statusSlotWritten : Obligations.StatusSlotWritten := by
  unfold Obligations.StatusSlotWritten
  refine ⟨fun i s f rest slot hs hpass => ⟨fun ho hf hk hn hc => ?_, fun hno => ?_⟩, fun s =>
    ⟨?_, fun h => ?_, fun p h => ?_, fun h => ?_, fun v h => ?_, fun m hle hm => ?_, fun a p m ha hp => ?_,
      fun c hc => ?_, rfl, rfl, rfl, rfl⟩⟩
  · refine congrArg Host.Outcome.next ((statusSlotWrite_of hs hpass ho hf).trans ?_)
    rw [if_pos ((ownStatus_iff slot s).2 ⟨hk, hn, hc⟩)]
    exact setBackHead_eq hs _
  · refine congrArg Host.Outcome.next ?_
    by_cases hseen : s.line.state = .online ∧ f.sinceOnline = true
    · rw [statusSlotWrite_of hs hpass hseen.1 hseen.2]
      refine if_neg fun hown => ?_
      obtain ⟨hk, hn, hc⟩ := (ownStatus_iff slot s).1 hown
      obtain h | h | h | h | h := hno
      · exact h hseen.1
      · simp [hseen.2] at h
      · exact h hk
      · exact h hn
      · omega
    · refine statusSlotWrite_not hs ?_
      by_cases ho : s.line.state = .online
      · exact .inr (by simpa [ho] using hseen)
      · exact .inl ho
  · rfl
  · simp [statusItem, publishedItem, h, noneCode]
  · simp only [statusItem, publishedItem, h, Option.bind_some, Option.getD_some]
    refine ⟨trivial, Nat.min_comm .., fun v hv => by rw [hv]; rfl, fun hv => by rw [hv]; rfl⟩
  · simp [statusItem, h, noneCode]
  · simp [statusItem, h]
  · show s.log.queue.length * 256 + highestClass s.log.queue = _
    rw [highestClass_eq hle hm]
  · obtain ⟨hpending, hmode⟩ := pendingCode_eq hp
    show bankCode 15 (activeBank s.banks) * 4096 + bankCode 15 (pendingBank s.banks) * 256
      + pendingModeCode s.banks = _
    rw [activeCode_eq ha, hpending, hmode]
  · have hcode : bankCode 255 s.agent.checking = c := by
      obtain ⟨h, rfl⟩ | ⟨b, h, rfl⟩ := hc <;> rw [h] <;> rfl
    show (if s.agent.storeRunning then 256 else 0) + bankCode 255 s.agent.checking = _
    rw [hcode]
    split <;> rfl

end Sys2Proof.Machine
end

section
/-! PROOF. The Sample Board at a refresh: one record, the figures formed from the records, and the board's own two
conditions (R26 to R38). -/

namespace Sys2Proof.Machine

open Sys2Proof Sys2Proof.Machine

variable {s t : State} {r : Refresh} {k : RecKey} {x : BoardRec} {e : SlotEntry} {slot : Slot} {w : Word} {c : CycleNo}

/-! ## One record (R26, R27, R29) -/

theorem isSpeedRef_iff (k : RecKey) : k.isSpeedRef = true ↔ k.role = .speedRef ∧ k.echo = false := by
  simp [RecKey.isSpeedRef]

theorem keptValue_eq (s : State) (r : Refresh) : keptValue s r = r.cycle.bind fun c => lookupKey c s.cmds.kept := by
  unfold keptValue; cases r.cycle <;> rfl

theorem feedingSlot_iff : feedingSlot s r k = some slot ↔
    ∃ e, recordEntry s.map k = some e ∧ lastSlotFor e r.slots = some slot := by
  unfold feedingSlot; cases recordEntry s.map k <;> simp

theorem feedingSlot_none : feedingSlot s r k = none ↔
    ∀ e, recordEntry s.map k = some e → lastSlotFor e r.slots = none := by
  unfold feedingSlot; cases recordEntry s.map k <;> simp

/-- A refresh brings a record a word exactly when its last captured slot is GOOD: the slot's, or the kept one. -/
theorem freshWord_iff : freshWord s r k = some w ↔ ∃ e slot, recordEntry s.map k = some e
    ∧ lastSlotFor e r.slots = some slot ∧ slot.quality = .good
    ∧ w = (if k.role = .speedRef ∧ k.echo = false then
        (r.cycle.bind fun c => lookupKey c s.cmds.kept).getD slot.value else slot.value) := by
  have hword : ∀ slot : Slot, (if k.isSpeedRef = true then (keptValue s r).getD slot.value else slot.value) =
      if k.role = .speedRef ∧ k.echo = false then
        (r.cycle.bind fun c => lookupKey c s.cmds.kept).getD slot.value else slot.value := fun slot => by
    rw [keptValue_eq]
    simp only [isSpeedRef_iff]
  cases hf : feedingSlot s r k with
  | none =>
    have hnone : freshWord s r k = none := by rw [freshWord, hf]
    rw [hnone]
    refine ⟨nofun, fun ⟨e, slot, he, hslot, _⟩ => ?_⟩
    rw [feedingSlot_none.1 hf e he] at hslot
    cases hslot
  | some slot =>
    obtain ⟨e, he, hslot⟩ := feedingSlot_iff.1 hf
    have hsome : freshWord s r k = if slot.quality = .good then
        some (if k.isSpeedRef = true then (keptValue s r).getD slot.value else slot.value) else none := by
      rw [freshWord, hf]
    rw [hsome, hword]
    refine ⟨fun h => ?_, fun ⟨e', slot', he', hslot', hgood, hw⟩ => ?_⟩
    · rw [Option.ite_none_right_eq_some] at h
      obtain ⟨hgood, hw⟩ := h
      exact ⟨e, slot, he, hslot, hgood, (Option.some.inj hw).symm⟩
    · rw [he] at he'
      cases he'
      rw [hslot] at hslot'
      cases hslot'
      rw [if_pos hgood, hw]

theorem freshWord_none (h : ∀ e slot, recordEntry s.map k = some e → lastSlotFor e r.slots = some slot →
    slot.quality ≠ .good) : freshWord s r k = none := by
  cases hw : freshWord s r k with
  | none => rfl
  | some w =>
    obtain ⟨e, slot, he, hslot, hgood, -⟩ := freshWord_iff.1 hw
    exact absurd hgood (h e slot he hslot)

theorem takeRecord_updated (h : freshWord s r k = some w) : takeRecord s r k x = updateRec k.role w x := by
  rw [takeRecord, h]

theorem takeRecord_aged (h : freshWord s r k = none) :
    takeRecord s r k x = ageRec (stalenessLimit s.map k) r.step x := by
  rw [takeRecord, h]

theorem ageRec_kept (n step : Nat) (x : BoardRec) : (ageRec n step x).age = min 255 (x.age + step)
    ∧ (ageRec n step x).lastGood = x.lastGood ∧ (ageRec n step x).clamps = x.clamps := by
  unfold ageRec
  dsimp only
  split
  · exact ⟨rfl, rfl, rfl⟩
  · split <;> exact ⟨rfl, rfl, rfl⟩

theorem ageRec_held {n step : Nat} {v : Int} (h : x.lastGood = some v) (hn : min 255 (x.age + step) ≤ n) :
    (ageRec n step x).quality = .held ∧ (ageRec n step x).value = some v := by
  have hage : ageRec n step x =
      if min 255 (x.age + step) ≤ n then { x with age := min 255 (x.age + step), quality := .held, value := some v }
      else { x with age := min 255 (x.age + step), quality := .lost, value := none } := by
    simp only [ageRec, h]; rfl
  rw [hage, if_pos hn]
  exact ⟨rfl, rfl⟩

theorem ageRec_lost {n step : Nat} (h : x.lastGood = none ∨ n < min 255 (x.age + step)) :
    (ageRec n step x).quality = .lost ∧ (ageRec n step x).value = none := by
  unfold ageRec
  dsimp only
  split
  · exact ⟨rfl, rfl⟩
  · next v hv =>
    have hn : ¬ satAdd 255 x.age step ≤ n := Nat.not_le.2 (h.resolve_left (by simp [hv]))
    rw [if_neg hn]
    exact ⟨rfl, rfl⟩

/-- A binary role carries 0 or 1. -/
theorem readValue_binary {role : Role} (h : role.isBinary = true) (w : Word) :
    readValue role w = if w.toNat = 0 then 0 else 1 := by
  have hunsigned : role.isSigned = false := by
    cases role with
    | impression | lineBreak | zoneFlame | breakSensor | zoneBurnerEn => rfl
    | webSpeed | splice | zoneTemp | exhaustFlow | lel | webExitTemp | chillWebTemp | liveCoverage | zoneTempSp
    | zoneFanSp | exhaustSp | chillWaterSp | speedRef => cases h
  simp only [readValue, h, if_true, readWord, hunsigned, Bool.false_eq_true, if_false, Int.natCast_eq_zero]

theorem readValue_within {role : Role} (hb : role.isBinary = false) (hl : role.lowest ≤ readWord role w)
    (hh : readWord role w ≤ role.highest) : readValue role w = readWord role w := by
  simp only [readValue, hb, Bool.false_eq_true, if_false, clampToRange]
  omega

/-! ## The figures (R30, R33 to R38) -/

/-- The record's word is clamped at this refresh. -/
def clampedAt (s : State) (r : Refresh) (k : RecKey) : Bool :=
  match freshWord s r k with
  | some w => wasClamped k.role w
  | none => false

theorem clampsAt_eq (s : State) (r : Refresh) :
    clampsAt s r = (s.board.records.filter fun p => clampedAt s r p.1).length := rfl

theorem clampedAt_iff : clampedAt s r k = true ↔ ∃ w, freshWord s r k = some w ∧ k.role.isBinary = false
    ∧ (readWord k.role w < k.role.lowest ∨ k.role.highest < readWord k.role w) := by
  unfold clampedAt
  cases freshWord s r k <;> simp [wasClamped]

theorem keptAfter_none (h : r.cycle = none ∨ feedingSlot s r ⟨.speedRef, false⟩ ≠ none) :
    keptAfter s r = s.cmds.kept := by
  unfold keptAfter
  split
  · next c hc => exact if_neg (h.resolve_left (by simp [hc]))
  · rfl

theorem keptAfter_some (hc : r.cycle = some c) (h : feedingSlot s r ⟨.speedRef, false⟩ = none) :
    keptAfter s r = s.cmds.kept.filter fun p => decide (p.1 ≠ c) := by
  simp only [keptAfter, hc, h, if_true, decide_not]

/-- What a refresh leaves of the board's figures, told by the records it leaves. -/
theorem takeSamples_figures (r : Refresh) (s : State) :
    (takeSamples r s).board.actual = actualSpeed (takeSamples r s).board
    ∧ (takeSamples r s).board.lead = leadSpeed (takeSamples r s).board
    ∧ (takeSamples r s).board.measuredLel = measuredLel (takeSamples r s).board
    ∧ (takeSamples r s).board.mode = analyzerMode (takeSamples r s).board
    ∧ (takeSamples r s).board.splice = spliceEvent s.board (takeSamples r s).board := ⟨rfl, rfl, rfl, rfl, rfl⟩

theorem analyzerMode_iff (b : Board) : analyzerMode b = .monitored ↔ measuredLel b ≠ none := by
  unfold analyzerMode
  cases measuredLel b <;> simp

theorem spliceEvent_iff (a b : Board) : spliceEvent a b = true ↔
    ∃ x y, a.lastGood .splice = some x ∧ b.fresh .splice = some y ∧ x ≠ y := by
  unfold spliceEvent
  cases a.lastGood .splice <;> cases b.fresh .splice <;> simp

/-! ## The board's conditions (R34, R36) -/

/-- SPEED_LOST stands exactly while both speed records are LOST, and its onset is offered. -/
theorem judgeSpeedLost_eq (s : State) : judgeSpeedLost s =
    if s.board.speedsLost = true ∧ s.board.speedLost = false then
      offer .speedLost .none (.num (s.board.actual : Int)) { s with board.speedLost := s.board.speedsLost }
    else { s with board.speedLost := s.board.speedsLost } := by
  unfold judgeSpeedLost
  cases hl : s.board.speedsLost <;> cases hf : s.board.speedLost <;>
    simp only [Bool.false_eq_true, if_true, if_false, and_self, and_true, and_false, reduceCtorEq]
  exact congrArg (fun b => { s with board := { s.board with speedLost := b } }) hf

/-- Whether a part with analyzers is UNMONITORED. -/
def unmonitoredAt (s : State) : Bool := decide (s.analyzerCount ≠ 0 ∧ s.board.mode = .unmonitored)

theorem judgeUnmonitored_eq (s : State) : judgeUnmonitored s =
    if unmonitoredAt s = true ∧ s.board.lelUnmonitored = false then
      offer .lelUnmonitored .none .absent { s with board.lelUnmonitored := unmonitoredAt s }
    else { s with board.lelUnmonitored := unmonitoredAt s } := by
  have hcase : judgeUnmonitored s = if unmonitoredAt s = true then
      (if s.board.lelUnmonitored then s
        else offer .lelUnmonitored .none .absent { s with board.lelUnmonitored := true })
      else { s with board.lelUnmonitored := false } := by
    unfold judgeUnmonitored unmonitoredAt
    simp only [decide_eq_true_eq]
  rw [hcase]
  cases unmonitoredAt s <;> cases hf : s.board.lelUnmonitored <;>
    simp only [Bool.false_eq_true, if_true, if_false, and_self, and_true, and_false, reduceCtorEq]
  exact congrArg (fun b => { s with board := { s.board with lelUnmonitored := b } }) hf

/-- The board after its own judgements, and what they offered. -/
theorem boardReaction_board (hj : judged r s = true) : boardReaction r s = { s with
    log := (boardReaction r s).log
    board := { s.board with speedLost := s.board.speedsLost, lelUnmonitored := unmonitoredAt s } } := by
  have hreaction : boardReaction r s = judgeUnmonitored (judgeSpeedLost s) := if_pos hj
  have hspeed : judgeSpeedLost s = { s with
      board.speedLost := s.board.speedsLost, log := (judgeSpeedLost s).log } := by
    rw [judgeSpeedLost_eq]; split
    · rw [offer_eq_log]
    · rfl
  have hlel : ∀ u : State, judgeUnmonitored u = { u with
      board.lelUnmonitored := unmonitoredAt u, log := (judgeUnmonitored u).log } := fun u => by
    rw [judgeUnmonitored_eq]; split
    · rw [offer_eq_log]
    · rfl
  rw [hreaction, hlel]
  generalize (judgeUnmonitored (judgeSpeedLost s)).log = l
  rw [hspeed]
  rfl

theorem analyzerCount_of {c : Scalars} (hc : s.scalars? = some c) : s.analyzerCount = c.analyzers := by
  simp only [State.analyzerCount, hc]

/-- The records the board's judgements offer. -/
theorem boardReaction_log (hj : judged r s = true) :
    ((s.board.speedsLost = true → s.board.speedLost = true) →
      (unmonitoredAt s = true → s.board.lelUnmonitored = true) → (boardReaction r s).log = s.log)
    ∧ (s.log.queue.length ≤ 30 →
      (s.board.speedsLost = true → s.board.speedLost = false → ∃ i ∈ (boardReaction r s).log.queue,
        i.code = .speedLost ∧ i.subject = .none ∧ i.value = .num (s.board.actual : Int))
      ∧ (unmonitoredAt s = true → s.board.lelUnmonitored = false → ∃ i ∈ (boardReaction r s).log.queue,
        i.code = .lelUnmonitored ∧ i.subject = .none ∧ i.value = .absent)) := by
  have hreaction : boardReaction r s = judgeUnmonitored (judgeSpeedLost s) := if_pos hj
  have hat : unmonitoredAt (judgeSpeedLost s) = unmonitoredAt s := by
    rw [judgeSpeedLost_eq]; split
    · rw [offer_eq_log]; rfl
    · rfl
  have hflag : (judgeSpeedLost s).board.lelUnmonitored = s.board.lelUnmonitored := by
    rw [judgeSpeedLost_eq]; split
    · rw [offer_eq_log]
    · rfl
  have hadds : Adds 1 s (judgeSpeedLost s) := by
    rw [judgeSpeedLost_eq]; split
    · exact .same (by rfl) (offer_adds _ _ _ _)
    · exact .of_log rfl
  have hadds' : ∀ u, Adds 1 u (judgeUnmonitored u) := fun u => by
    rw [judgeUnmonitored_eq]; split
    · exact .same (by rfl) (offer_adds _ _ _ _)
    · exact .of_log rfl
  rw [hreaction]
  refine ⟨fun h1 h2 => ?_, fun hroom => ⟨fun h1 h2 => ?_, fun h1 h2 => ?_⟩⟩
  · rw [judgeUnmonitored_eq, if_neg (by rw [hat, hflag]; exact fun h => absurd (h2 h.1) (by simp [h.2])),
      judgeSpeedLost_eq, if_neg (fun h => absurd (h1 h.1) (by simp [h.2]))]
  · obtain ⟨l, hl, hlen⟩ := hadds (by omega)
    refine ⟨incidentOf .speedLost .none (.num (s.board.actual : Int)) { s with board.speedLost := s.board.speedsLost },
      (hadds' _).mem (by rw [hl, List.length_append]; omega) ?_, rfl, rfl, rfl⟩
    rw [judgeSpeedLost_eq, if_pos ⟨h1, h2⟩,
      (offer_room { s with board.speedLost := s.board.speedsLost } _ _ rfl (by show s.log.queue.length < 32; omega)).1]
    exact List.mem_append_right _ (.head _)
  · obtain ⟨l, hl, hlen⟩ := hadds (by omega)
    rw [judgeUnmonitored_eq, if_pos (by rw [hat, hflag]; exact ⟨h1, h2⟩)]
    refine ⟨incidentOf .lelUnmonitored .none .absent
      { judgeSpeedLost s with board.lelUnmonitored := unmonitoredAt (judgeSpeedLost s) }, ?_, rfl, rfl, rfl⟩
    rw [(offer_room { judgeSpeedLost s with board.lelUnmonitored := unmonitoredAt (judgeSpeedLost s) } _ _ rfl
      (by show (judgeSpeedLost s).log.queue.length < 32; rw [hl, List.length_append]; omega)).1]
    exact List.mem_append_right _ (.head _)

theorem natOf_some {o : Option Int} {v : Int} (h : o = some v) : natOf o = some v.toNat := by rw [h]; rfl

theorem natOf_none {o : Option Int} (h : o = none) : natOf o = none := by rw [h]; rfl

/-- Settles O50: one record, the figures of the board, and the board's own judgements. -/
theorem recordsFollowRefresh : Obligations.RecordsFollowRefresh := by
  unfold Obligations.RecordsFollowRefresh
  refine ⟨fun s r k x => ⟨fun e slot he hslot hgood hk => ?_, fun hno => ?_, fun e slot c he hslot hgood hrole hecho hc =>
    ?_, fun role w => ?_⟩, fun r s t ht => ?_, fun r s t ht => ⟨fun hj => ?_, fun c hj hc => ?_⟩⟩
  · have hw : freshWord s r k = some slot.value := freshWord_iff.2 ⟨e, slot, he, hslot, hgood, by
      rw [if_neg]; rintro ⟨h1, h2⟩; obtain h | h := hk
      · exact h h1
      · simp [h2] at h⟩
    rw [takeRecord_updated hw]
    rfl
  · rw [takeRecord_aged (freshWord_none hno)]
    obtain ⟨h1, h2, h3⟩ := ageRec_kept (stalenessLimit s.map k) r.step x
    exact ⟨h1, h2, h3, fun v hv hn => ageRec_held hv hn, fun h => ageRec_lost h⟩
  · have hw : freshWord s r k = some ((lookupKey c s.cmds.kept).getD slot.value) :=
      freshWord_iff.2 ⟨e, slot, he, hslot, hgood, by rw [if_pos ⟨hrole, hecho⟩, hc]; rfl⟩
    rw [takeRecord_updated hw, hrole]
    refine ⟨fun w hk => ?_, fun hk => ?_⟩
    · rw [hk]; rfl
    · rw [hk]; rfl
  · obtain ⟨hl, hh⟩ := readValue_range role w
    exact ⟨hl, hh, fun hb => readValue_binary hb w, readValue_within⟩
  · obtain ⟨hactual, hlead, hlel, hmode, hsplice⟩ := takeSamples_figures r s
    have hcl : (takeSamples r s).board.clamped = min 4294967295 (s.board.clamped + clampsAt s r) := rfl
    have hkept : (takeSamples r s).cmds.kept = keptAfter s r := rfl
    have hframe : { takeSamples r s with board := s.board, cmds.kept := s.cmds.kept } = s := rfl
    have hrec : (takeSamples r s).board.records = s.board.records.map fun p => (p.1, takeRecord s r p.1 p.2) := rfl
    have hflags : (takeSamples r s).board.speedLost = s.board.speedLost
      ∧ (takeSamples r s).board.lelUnmonitored = s.board.lelUnmonitored := ⟨rfl, rfl⟩
    rw [← ht] at hactual hlead hlel hmode hsplice hcl hkept hframe hrec hflags
    obtain ⟨hlost, hunmonitored⟩ := hflags
    refine ⟨hframe, hrec, fun v hv => ?_, fun v hv hw => ?_, fun hv hw => ⟨?_, ?_⟩, fun v w hv hw => ?_,
      fun v hv hw => ?_, fun w hv hw => ?_, fun v w hv hw => ?_, fun a b v hab hv hw => ?_, fun hv hw => ?_, ?_, ?_,
      hlost, hunmonitored, fun f hf => ?_, fun c hc hno => ?_, fun h => ?_⟩
    · simp only [hactual, actualSpeed, natOf_some hv]
    · simp only [hactual, actualSpeed, natOf_none hv, natOf_some hw]
    · simp only [hactual, actualSpeed, natOf_none hv, natOf_none hw]; rfl
    · simp only [hlead, leadSpeed, natOf_none hv, natOf_none hw, hactual]
    · simp only [hlead, leadSpeed, natOf_some hv, natOf_some hw]
    · simp only [hlead, leadSpeed, natOf_some hv, natOf_none hw]
    · simp only [hlead, leadSpeed, natOf_none hv, natOf_some hw]
    · simp only [hlel, measuredLel, natOf_some hv, natOf_some hw]
    · obtain ⟨rfl, rfl⟩ | ⟨rfl, rfl⟩ := hab
      · simp only [hlel, measuredLel, natOf_some hv, natOf_none hw]
      · simp only [hlel, measuredLel, natOf_some hv, natOf_none hw]
    · simp only [hlel, measuredLel, natOf_none hv, natOf_none hw]
    · rw [hmode, hlel]; exact analyzerMode_iff _
    · rw [hsplice]; exact spliceEvent_iff _ _
    · have hfun : f = clampedAt s r := by
        funext k
        rw [Bool.eq_iff_iff, hf, clampedAt_iff]
        refine ⟨fun ⟨e, slot, w, he, hslot, hgood, hw, hclamp⟩ => ⟨w, freshWord_iff.2 ⟨e, slot, he, hslot, hgood, hw⟩,
          hclamp⟩, fun ⟨w, hw, hclamp⟩ => ?_⟩
        obtain ⟨e, slot, he, hslot, hgood, hword⟩ := freshWord_iff.1 hw
        exact ⟨e, slot, w, he, hslot, hgood, hword, hclamp⟩
      rw [hcl, clampsAt_eq, hfun]
    · rw [hkept, keptAfter_some hc (feedingSlot_none.2 hno)]
    · rw [hkept]
      refine keptAfter_none (h.imp_right fun ⟨e, slot, he, hslot⟩ => ?_)
      rw [feedingSlot_iff.2 ⟨e, he, hslot⟩]
      exact Option.some_ne_none slot
  · exact ht.trans (if_neg (by simp [hj]))
  · have hboard := boardReaction_board hj
    have hspeeds : s.board.speedsLost =
        decide (s.board.quality .webSpeed = .lost ∧ s.board.quality .speedRef = .lost) := (Bool.decide_and _ _).symm
    have hat : unmonitoredAt s = decide (c.analyzers ≠ 0 ∧ s.board.mode = .unmonitored) := by
      rw [unmonitoredAt, analyzerCount_of hc]
    obtain ⟨hquiet, hoffers⟩ := boardReaction_log hj
    have hlost : t.board.speedLost = s.board.speedsLost := by rw [ht]; exact congrArg (·.board.speedLost) hboard
    have hlel : t.board.lelUnmonitored = unmonitoredAt s := by rw [ht]; exact congrArg (·.board.lelUnmonitored) hboard
    replace ht : t = boardReaction r s := ht
    rw [hlost, hlel]
    rw [← ht] at hboard hquiet hoffers
    refine ⟨?_, hquiet, hoffers⟩
    rw [← hspeeds, ← hat]
    exact hboard

end Sys2Proof.Machine
end

section
/-! PROOF. A schedule read at a speed, and the speed a temperature supports (R64, R66). -/

namespace Sys2Proof.Machine

open Sys2Proof Sys2Proof.Machine

variable {l before after : List Breakpoint} {p q : Breakpoint} {v : Nat} {x y : Int}

/-! ## Rounding to the nearest (R64) -/

theorem roundDiv_nonneg {a : Int} {b : Nat} (h : 0 ≤ a) : roundDiv a b = (2 * a + b) / (2 * b) := by
  unfold roundDiv
  dsimp only
  rw [if_neg (Int.not_lt.2 h)]
  obtain ⟨n, rfl⟩ := Int.eq_ofNat_of_zero_le h
  rfl

theorem roundDiv_nonpos {a : Int} {b : Nat} (h : a ≤ 0) : roundDiv a b = -((2 * -a + b) / (2 * b)) := by
  obtain h | rfl := Int.lt_or_eq_of_le h
  · unfold roundDiv
    dsimp only
    rw [if_pos h]
    obtain ⟨n, hn⟩ := Int.eq_ofNat_of_zero_le (show 0 ≤ -a by omega)
    obtain rfl : a = -(n : Int) := by omega
    rw [Int.neg_neg, Int.natAbs_neg]
    rfl
  · rw [roundDiv_nonneg (Int.le_refl 0)]
    rcases Nat.eq_zero_or_pos b with rfl | hb
    · simp
    · have : (b : Int) / (2 * b) = 0 := Int.ediv_eq_zero_of_lt (by omega) (by omega)
      simp [this]

theorem mul_two_mul (m d : Int) : m * (2 * d) = 2 * (d * m) := by
  rw [Int.mul_comm, Int.mul_assoc]

/-- A fraction of a step, rounded to the nearest, lies within the step. -/
theorem roundedStep_bounds {d n h : Int} (hn : 0 ≤ n) (hd : 0 < d) (hnd : n ≤ d) (hh : 0 ≤ h) :
    0 ≤ (2 * n * h + d) / (2 * d) ∧ (2 * n * h + d) / (2 * d) ≤ h := by
  have hnh : 0 ≤ n * h := Int.mul_nonneg hn hh
  have hdh : n * h ≤ d * h := Int.mul_le_mul_of_nonneg_right hnd hh
  rw [Int.mul_assoc]
  refine ⟨Int.ediv_nonneg (by omega) (by omega), ?_⟩
  refine Int.lt_add_one_iff.1 (Int.ediv_lt_of_lt_mul (by omega) ?_)
  rw [Int.add_mul, mul_two_mul]
  omega

/-! ## Interpolation (R64) -/

theorem interpolateFrom_low (h : v ≤ p.speed) (l : List Breakpoint) : interpolateFrom p v l = p.value := by
  cases l with
  | nil => rfl
  | cons q l => simp only [interpolateFrom, h, if_true]

/-- A breakpoint that the speed has reached is passed. -/
theorem interpolateFrom_reached (hpq : p.speed < q.speed) (h : q.speed ≤ v) (l : List Breakpoint) :
    interpolateFrom p v (q :: l) = interpolateFrom q v l := by
  rw [interpolateFrom, if_neg (by omega), if_neg (by omega)]

/-- The search reaches the breakpoint behind any run of slower ones. -/
theorem interpolateFrom_skip (hs : (p :: (before ++ q :: after)).Pairwise fun a b => a.speed < b.speed)
    (h : q.speed ≤ v) : interpolateFrom p v (before ++ q :: after) = interpolateFrom q v after := by
  induction before generalizing p with
  | nil => exact interpolateFrom_reached ((List.pairwise_cons.1 hs).1 q (.head _)) h after
  | cons b before ih =>
    obtain ⟨hp, hrest⟩ := List.pairwise_cons.1 hs
    have hbq : b.speed < q.speed :=
      (List.pairwise_cons.1 hrest).1 q (List.mem_append_right _ (.head _))
    rw [List.cons_append, interpolateFrom_reached (hp b (.head _)) (by omega)]
    exact ih hrest

theorem interpolate_skip (hs : (before ++ q :: after).Pairwise fun a b => a.speed < b.speed) (h : q.speed ≤ v) :
    interpolate (before ++ q :: after) v = interpolateFrom q v after := by
  cases before with
  | nil => rfl
  | cons b before => exact interpolateFrom_skip hs h

/-- Between two neighbours the schedule is the straight line, rounded (R64). -/
theorem interpolate_between (hs : (before ++ p :: q :: after).Pairwise fun a b => a.speed < b.speed)
    (hp : p.speed ≤ v) (hq : v ≤ q.speed) :
    p.speed < q.speed ∧ interpolate (before ++ p :: q :: after) v =
      p.value + roundDiv (((v : Int) - p.speed) * (q.value - p.value)) (q.speed - p.speed) := by
  have hpq : p.speed < q.speed := by
    have hright := (List.pairwise_append.1 hs).2.1
    exact (List.pairwise_cons.1 hright).1 q (.head _)
  refine ⟨hpq, ?_⟩
  have hpos : (0 : Int) < ((q.speed - p.speed : Nat) : Int) := by omega
  obtain hlt | heq := Nat.lt_or_eq_of_le hq
  · rw [interpolate_skip hs hp]
    by_cases hlow : v ≤ p.speed
    · rw [interpolateFrom_low hlow, show (v : Int) - p.speed = 0 by omega, Int.zero_mul, roundDiv_nonneg (Int.le_refl 0)]
      rw [Int.mul_zero, Int.zero_add, Int.ediv_eq_zero_of_lt (by omega) (by omega), Int.add_zero]
    · rw [interpolateFrom, if_neg hlow, if_pos hlt, onSegment]
  · have hs' : ((before ++ [p]) ++ q :: after).Pairwise fun a b => a.speed < b.speed := by simpa using hs
    have hread := interpolate_skip hs' (Nat.le_of_eq heq.symm)
    rw [List.append_assoc] at hread
    rw [show before ++ p :: q :: after = before ++ ([p] ++ q :: after) from rfl, hread,
      interpolateFrom_low (Nat.le_of_eq heq)]
    have hstep : (v : Int) - p.speed = ((q.speed - p.speed : Nat) : Int) := by omega
    rw [hstep]
    generalize ((q.speed - p.speed : Nat)) = d at hpos
    have hround : roundDiv ((d : Int) * (q.value - p.value)) d = q.value - p.value := by
      obtain h | h := Int.le_total 0 (q.value - p.value)
      · rw [roundDiv_nonneg (Int.mul_nonneg (by omega) h),
          show 2 * ((d : Int) * (q.value - p.value)) + d = (d : Int) + (q.value - p.value) * (2 * d) by
            rw [mul_two_mul, Int.add_comm],
          Int.add_mul_ediv_right _ _ (by omega), Int.ediv_eq_zero_of_lt (by omega) (by omega), Int.zero_add]
      · rw [roundDiv_nonpos (Int.mul_nonpos_of_nonneg_of_nonpos (by omega) h),
          show 2 * -((d : Int) * (q.value - p.value)) + d = (d : Int) + (-(q.value - p.value)) * (2 * d) by
            rw [mul_two_mul, Int.mul_neg (d : Int), Int.add_comm],
          Int.add_mul_ediv_right _ _ (by omega), Int.ediv_eq_zero_of_lt (by omega) (by omega)]
        omega
    rw [hround]
    omega

/-- What a sound schedule reads at a speed: flat outside, exact at a breakpoint, rounded between two. -/
theorem interpolate_sound (hs : SoundSchedule l) :
    (∀ p, l.head? = some p → v ≤ p.speed → interpolate l v = p.value)
    ∧ (∀ p, l.getLast? = some p → p.speed ≤ v → interpolate l v = p.value)
    ∧ (∀ p ∈ l, interpolate l p.speed = p.value)
    ∧ ∀ before after p q, l = before ++ p :: q :: after → p.speed ≤ v → v ≤ q.speed →
        min p.value q.value ≤ interpolate l v ∧ interpolate l v ≤ max p.value q.value
        ∧ (p.value ≤ q.value → interpolate l v = p.value
            + (2 * ((v : Int) - p.speed) * (q.value - p.value) + ((q.speed : Int) - p.speed))
              / (2 * ((q.speed : Int) - p.speed)))
        ∧ (q.value ≤ p.value → interpolate l v = p.value
            - (2 * ((v : Int) - p.speed) * (p.value - q.value) + ((q.speed : Int) - p.speed))
              / (2 * ((q.speed : Int) - p.speed))) := by
  obtain ⟨-, -, hrise⟩ := hs
  refine ⟨fun p hp hv => ?_, fun p hp hv => ?_, fun p hp => ?_, fun before after p q hl hp hq => ?_⟩
  · obtain ⟨rest, rfl⟩ := List.head?_eq_some_iff.1 hp
    exact interpolateFrom_low hv rest
  · obtain ⟨before, rfl⟩ := List.getLast?_eq_some_iff.1 hp
    rw [interpolate_skip hrise hv]
    rfl
  · obtain ⟨before, after, rfl⟩ := List.append_of_mem hp
    rw [interpolate_skip hrise (Nat.le_refl _), interpolateFrom_low (Nat.le_refl _)]
  · subst hl
    obtain ⟨hpq, hline⟩ := interpolate_between hrise hp hq
    have hspan : ((q.speed - p.speed : Nat) : Int) = (q.speed : Int) - p.speed := by omega
    have hup : p.value ≤ q.value → interpolate (before ++ p :: q :: after) v = p.value
        + (2 * ((v : Int) - p.speed) * (q.value - p.value) + ((q.speed : Int) - p.speed))
          / (2 * ((q.speed : Int) - p.speed)) := fun hle => by
      rw [hline, roundDiv_nonneg (Int.mul_nonneg (by omega) (by omega)), hspan, ← Int.mul_assoc]
    have hdown : q.value ≤ p.value → interpolate (before ++ p :: q :: after) v = p.value
        - (2 * ((v : Int) - p.speed) * (p.value - q.value) + ((q.speed : Int) - p.speed))
          / (2 * ((q.speed : Int) - p.speed)) := fun hle => by
      rw [hline, roundDiv_nonpos (Int.mul_nonpos_of_nonneg_of_nonpos (by omega) (by omega)), hspan,
        show 2 * -(((v : Int) - p.speed) * (q.value - p.value)) = 2 * ((v : Int) - p.speed) * (p.value - q.value) by
          rw [← Int.mul_neg, Int.neg_sub, Int.mul_assoc]]
      rfl
    have hn : (0 : Int) ≤ (v : Int) - p.speed := by omega
    have hd : (0 : Int) < (q.speed : Int) - p.speed := by omega
    have hnd : (v : Int) - p.speed ≤ (q.speed : Int) - p.speed := by omega
    refine ⟨?_, ?_, hup, hdown⟩
    · obtain hle | hle := Int.le_total p.value q.value
      · have hb := roundedStep_bounds hn hd hnd (h := q.value - p.value) (by omega)
        rw [hup hle]; omega
      · have hb := roundedStep_bounds hn hd hnd (h := p.value - q.value) (by omega)
        rw [hdown hle]; omega
    · obtain hle | hle := Int.le_total p.value q.value
      · have hb := roundedStep_bounds hn hd hnd (h := q.value - p.value) (by omega)
        rw [hup hle]; omega
      · have hb := roundedStep_bounds hn hd hnd (h := p.value - q.value) (by omega)
        rw [hdown hle]; omega

/-! ## The thermal ceiling (R66, R67) -/

/-- On a segment the ceiling lies within the segment's speeds. -/
theorem ceilingOnSegment_le (hs : p.speed ≤ q.speed) (hp : p.value ≤ x) (hq : x < q.value) :
    ceilingOnSegment p q x ≤ q.speed := by
  have hstep : (x - p.value) * ((q.speed : Int) - p.speed) / (q.value - p.value) ≤ (q.speed : Int) - p.speed := by
    refine Int.lt_add_one_iff.1 (Int.ediv_lt_of_lt_mul (by omega) ?_)
    have hle := Int.mul_le_mul_of_nonneg_right (show x - p.value ≤ q.value - p.value by omega)
      (show (0 : Int) ≤ (q.speed : Int) - p.speed by omega)
    rw [Int.add_mul, Int.mul_comm ((q.speed : Int) - p.speed) (q.value - p.value)]
    omega
  unfold ceilingOnSegment
  omega

theorem ceilingOnSegment_eq (hs : p.speed ≤ q.speed) (hp : p.value ≤ x) (hq : x < q.value) :
    (ceilingOnSegment p q x : Int) =
      (p.speed : Int) + (x - p.value) * ((q.speed : Int) - p.speed) / (q.value - p.value) := by
  have hnonneg : 0 ≤ (x - p.value) * ((q.speed : Int) - p.speed) / (q.value - p.value) :=
    Int.ediv_nonneg (Int.mul_nonneg (by omega) (by omega)) (by omega)
  unfold ceilingOnSegment
  push_cast
  rw [Int.toNat_of_nonneg hnonneg]

theorem ceilingFrom_le (hs : (p :: l).Pairwise fun a b => a.speed < b.speed) (hb : ∀ b ∈ l, b.speed ≤ 1500)
    (hp : p.value ≤ x) : ceilingFrom p x l ≤ 1500 := by
  induction l generalizing p with
  | nil => exact Nat.le_refl 1500
  | cons q l ih =>
    obtain ⟨hpq, hrest⟩ := List.pairwise_cons.1 hs
    unfold ceilingFrom
    split
    · next hq =>
      exact Nat.le_trans (ceilingOnSegment_le (Nat.le_of_lt (hpq q (.head _))) hp hq) (hb q (.head _))
    · next hq => exact ih hrest (fun b hmem => hb b (.tail _ hmem)) (Int.not_lt.1 hq)

theorem formedCeiling_le (hs : SoundSchedule l) (thread : Nat) (x : Int) :
    formedCeiling l thread x ≤ max thread 1500 := by
  obtain ⟨-, hb, hrise⟩ := hs
  cases l with
  | nil => exact Nat.le_max_left ..
  | cons p l =>
    show (if x < p.value then thread else ceilingFrom p x l) ≤ _
    split
    · exact Nat.le_max_left ..
    · next hp =>
      exact Nat.le_trans (ceilingFrom_le hrise (fun b hmem => hb b (.tail _ hmem)) (Int.not_lt.1 hp)) (Nat.le_max_right ..)

/-- With rising values the search reaches the last breakpoint the temperature has reached. -/
theorem ceilingFrom_skip (hs : (p :: (before ++ q :: after)).Pairwise fun a b => a.value ≤ b.value) (h : q.value ≤ x) :
    ceilingFrom p x (before ++ q :: after) = ceilingFrom q x after := by
  induction before generalizing p with
  | nil => exact if_neg (Int.not_lt.2 h)
  | cons b before ih =>
    obtain ⟨-, hrest⟩ := List.pairwise_cons.1 hs
    have hbq : b.value ≤ q.value := (List.pairwise_cons.1 hrest).1 q (List.mem_append_right _ (.head _))
    exact (if_neg (Int.not_lt.2 (Int.le_trans hbq h))).trans (ih hrest)

theorem formedCeiling_skip (thread : Nat) (hs : RisingValues (before ++ q :: after)) (h : q.value ≤ x) :
    formedCeiling (before ++ q :: after) thread x = ceilingFrom q x after := by
  cases before with
  | nil => exact if_neg (Int.not_lt.2 h)
  | cons b before =>
    have hbq : b.value ≤ q.value := (List.pairwise_cons.1 hs).1 q (List.mem_append_right _ (.head _))
    exact (if_neg (Int.not_lt.2 (Int.le_trans hbq h))).trans (ceilingFrom_skip hs h)

/-- The table of R66 over a sound schedule whose values never fall, and its bounds over any schedule. -/
theorem thermalCeiling_sound (l : List Breakpoint) (thread tolerance : Nat) (x : Option Int) :
    thread ≤ thermalCeiling l thread tolerance x ∧ thermalCeiling l thread tolerance none = thread
    ∧ (SoundSchedule l → thermalCeiling l thread tolerance x ≤ max thread 1500)
    ∧ ∀ v y, SoundSchedule l → RisingValues l → x = some v → y = v + (tolerance : Int) →
      (∀ p, l.getLast? = some p → p.value ≤ y → thermalCeiling l thread tolerance x = max thread 1500)
      ∧ (∀ p, l.head? = some p → y < p.value → thermalCeiling l thread tolerance x = thread)
      ∧ ∀ before after p q, l = before ++ p :: q :: after → p.value ≤ y → y < q.value →
          (thermalCeiling l thread tolerance x : Int) = max (thread : Int)
            ((p.speed : Int) + (y - p.value) * ((q.speed : Int) - p.speed) / (q.value - p.value)) := by
  refine ⟨?_, rfl, fun hs => ?_, fun v y hs hrise hx hy => ⟨fun p hp hle => ?_, fun p hp hlt => ?_,
    fun before after p q hl hp hq => ?_⟩⟩
  · cases x with
    | none => exact Nat.le_refl _
    | some v => exact Nat.le_max_left ..
  · cases x with
    | none => exact Nat.le_max_left ..
    | some v => exact Nat.max_le.2 ⟨Nat.le_max_left .., formedCeiling_le hs thread _⟩
  · obtain ⟨before, rfl⟩ := List.getLast?_eq_some_iff.1 hp
    rw [hx, thermalCeiling, ← hy, formedCeiling_skip thread hrise hle]
    rfl
  · obtain ⟨rest, rfl⟩ := List.head?_eq_some_iff.1 hp
    rw [hx, thermalCeiling, ← hy, formedCeiling, if_pos hlt, Nat.max_self]
  · subst hl
    obtain ⟨-, -, hspeeds⟩ := hs
    have hpq : p.speed < q.speed := (List.pairwise_cons.1 (List.pairwise_append.1 hspeeds).2.1).1 q (.head _)
    have hseg : ceilingFrom p y (q :: after) = ceilingOnSegment p q y := if_pos hq
    rw [hx, thermalCeiling, ← hy, formedCeiling_skip thread hrise hp, hseg,
      show ((max thread (ceilingOnSegment p q y) : Nat) : Int) = max (thread : Int) (ceilingOnSegment p q y) by omega,
      ceilingOnSegment_eq (Nat.le_of_lt hpq) hp hq]

end Sys2Proof.Machine
end

section
/-! PROOF. A watch over a list of places, each with a count and a flag; the deviation and shortfall watches of the
Schedule Unit are two (R68, R69). -/

namespace Sys2Proof.Machine

open Sys2Proof Sys2Proof.Machine

variable {s t u : State} {r : Refresh} {x : Recipe}

/-! ## A watch over a list -/

/-- A judgement `f` of one place after another: each moves the count and the flag of its own place by `next`, reports
an onset, and is told by the parts `P` fixes. -/
structure Watch {κ : Type} (P : State → Prop) (f : State → κ → State) (cell : State → κ → Nat × Bool)
    (next : κ → Nat × Bool → Nat × Bool) (report : κ → Incident → Prop) : Prop where
  keeps : ∀ s k, P s → P (f s k)
  own : ∀ s k, P s → cell (f s k) k = next k (cell s k)
  other : ∀ s j k, j ≠ k → cell (f s j) k = cell s k
  adds : ∀ s k, Adds 1 s (f s k)
  quiet : ∀ s k, P s → ((next k (cell s k)).2 = true → (cell s k).2 = true) → (f s k).log = s.log
  offers : ∀ s k, P s → (next k (cell s k)).2 = true → (cell s k).2 = false → s.log.queue.length < 32 →
    ∃ i ∈ (f s k).log.queue, report k i

section Watches
variable {κ : Type} {P : State → Prop} {f : State → κ → State} {cell : State → κ → Nat × Bool}
  {next : κ → Nat × Bool → Nat × Bool} {report : κ → Incident → Prop} {k : κ} {l : List κ}

theorem Watch.foldl_keeps (w : Watch P f cell next report) (h : P s) : P (l.foldl f s) := by
  induction l generalizing s with
  | nil => exact h
  | cons j l ih => exact ih (w.keeps s j h)

theorem Watch.foldl_other (w : Watch P f cell next report) (h : k ∉ l) : cell (l.foldl f s) k = cell s k := by
  induction l generalizing s with
  | nil => rfl
  | cons j l ih =>
    obtain ⟨hj, hl⟩ := not_or.1 (mt List.mem_cons.2 h)
    exact (ih hl).trans (w.other s j k (Ne.symm hj))

theorem Watch.foldl_own (w : Watch P f cell next report) (hs : P s) (hd : l.Nodup) (h : k ∈ l) :
    cell (l.foldl f s) k = next k (cell s k) := by
  induction l generalizing s with
  | nil => cases h
  | cons j l ih =>
    obtain ⟨hj, hl⟩ := List.nodup_cons.1 hd
    obtain rfl | h := List.mem_cons.1 h
    · exact (w.foldl_other hj).trans (w.own s _ hs)
    · have hne : j ≠ k := fun e => hj (e ▸ h)
      exact (ih (w.keeps s j hs) hl h).trans (congrArg (next k) (w.other s j k hne))

theorem Watch.foldl_adds (w : Watch P f cell next report) (l : List κ) (s : State) : Adds l.length s (l.foldl f s) := by
  induction l generalizing s with
  | nil => exact .refl 0 s
  | cons j l ih =>
    rw [List.length_cons, Nat.add_comm]
    exact (w.adds s j).trans (ih _)

/-- Without an onset the log stands. -/
theorem Watch.foldl_quiet (w : Watch P f cell next report) (hs : P s) (hd : l.Nodup)
    (h : ∀ k ∈ l, (next k (cell s k)).2 = true → (cell s k).2 = true) : (l.foldl f s).log = s.log := by
  induction l generalizing s with
  | nil => rfl
  | cons j l ih =>
    obtain ⟨hj, hl⟩ := List.nodup_cons.1 hd
    refine (ih (w.keeps s j hs) hl fun k hk => ?_).trans (w.quiet s j hs (h j (.head _)))
    rw [w.other s j k fun e => hj (e ▸ hk)]
    exact h k (.tail _ hk)

/-- Every onset is in the queue at the end, while there is room for all. -/
theorem Watch.foldl_offers (w : Watch P f cell next report) (hs : P s) (hd : l.Nodup) (hk : k ∈ l)
    (hnew : (next k (cell s k)).2 = true) (hold : (cell s k).2 = false) (hroom : s.log.queue.length + l.length ≤ 32) :
    ∃ i ∈ (l.foldl f s).log.queue, report k i := by
  induction l generalizing s with
  | nil => cases hk
  | cons j l ih =>
    obtain ⟨hj, hl⟩ := List.nodup_cons.1 hd
    rw [List.length_cons] at hroom
    obtain ⟨new, hqueue, hlen⟩ := w.adds s j (by omega)
    have hroom' : (f s j).log.queue.length + l.length ≤ 32 := by rw [hqueue, List.length_append]; omega
    obtain rfl | hk := List.mem_cons.1 hk
    · obtain ⟨i, hi, hrep⟩ := w.offers s _ hs hnew hold (by omega)
      exact ⟨i, (w.foldl_adds l _).mem hroom' hi, hrep⟩
    · have hcell := w.other s j k fun e => hj (e ▸ hk)
      exact ih (w.keeps s j hs) hl hk (hcell ▸ hnew) (hcell ▸ hold) hroom'

end Watches

/-! ## The two watches (R68, R69) -/

theorem Four.set_get_self {α : Type} (q : Four α) (k : Fin 4) : q.set k (q.get k) = q :=
  Four.ext_get fun j => by rw [Four.get_set]; split <;> simp [*]

theorem Three.set_get_self {α : Type} (q : Three α) (k : Fin 3) : q.set k (q.get k) = q := by
  match k with | 0 => rfl | 1 => rfl | 2 => rfl

/-- A count and a flag after a judgement: idle or within, without a reading, or beyond (R68, R69). -/
def watched (running : Bool) (beyond : Option Bool) (top limit step : Nat) (c : Nat × Bool) : Nat × Bool :=
  if running then
    match beyond with
    | none => (0, c.2)
    | some false => (0, false)
    | some true => (min top (c.1 + step), c.2 || decide (limit ≤ min top (c.1 + step)))
  else (0, false)

/-- How far a zone's temperature stands from its setpoint, where both are known. -/
def State.deviationOf (s : State) (k : Zone) : Option Int :=
  (s.cmds.lastValue (.zoneTempSp k)).bind fun sp => (s.board.fresh (.zoneTemp k)).map fun v => v - sp

/-- The deviation watch of a zone: its count and flag. -/
def deviationCell (s : State) (k : Zone) : Nat × Bool := (s.sched.devCount.get k, s.sched.deviation.get k)

/-- The next count and flag of a zone, by what the state shows of it. -/
def deviationNext (x : Recipe) (r : Refresh) (s : State) (k : Zone) : Nat × Bool → Nat × Bool :=
  watched (decide (s.web.state = .running)) ((s.deviationOf k).map fun d => decide (x.devBand < d.natAbs)) 500
    x.devConfirm r.step

/-- The Schedule Unit with the count and the flag of a zone. -/
def withDeviation (k : Zone) (c : Nat × Bool) (s : State) : State :=
  { s with sched.devCount := s.sched.devCount.set k c.1, sched.deviation := s.sched.deviation.set k c.2 }

theorem withDeviation_keeps (k : Zone) (n : Nat) (s : State) :
    withDeviation k (n, s.sched.deviation.get k) s = { s with sched.devCount := s.sched.devCount.set k n } := by
  unfold withDeviation
  rw [Four.set_get_self]

theorem judgeDeviation_eq (x : Recipe) (r : Refresh) (s : State) (k : Zone) : judgeDeviation x r s k =
    if (deviationNext x r s k (deviationCell s k)).2 = true ∧ s.sched.deviation.get k = false then
      offer .zoneDeviation (.role (.zoneTemp k)) (.num ((s.deviationOf k).getD 0))
        (withDeviation k (deviationNext x r s k (deviationCell s k)) s)
    else withDeviation k (deviationNext x r s k (deviationCell s k)) s := by
  unfold judgeDeviation deviationNext
  dsimp only
  by_cases hweb : s.web.state = .running
  · rw [if_neg (Classical.not_not.2 hweb), hweb]
    cases hsp : s.cmds.lastValue (.zoneTempSp k) with
    | none =>
      have hd : s.deviationOf k = none := by rw [State.deviationOf, hsp]; rfl
      simp only [hd, Option.map_none, decide_true, watched, if_true, deviationCell, withDeviation_keeps]
      rw [if_neg (fun h => by simp [h.2] at h)]
    | some sp =>
      cases hv : s.board.fresh (.zoneTemp k) with
      | none =>
        have hd : s.deviationOf k = none := by rw [State.deviationOf, hsp, hv]; rfl
        simp only [hd, Option.map_none, decide_true, watched, if_true, deviationCell, withDeviation_keeps]
        rw [if_neg (fun h => by simp [h.2] at h)]
      | some v =>
        have hd : s.deviationOf k = some (v - sp) := by rw [State.deviationOf, hsp, hv]; rfl
        simp only [hd, Option.map_some, decide_true, watched, if_true, deviationCell, Option.getD_some]
        by_cases hband : (v - sp).natAbs ≤ x.devBand
        · simp only [hband, if_true, Nat.not_lt.2 hband, decide_false, Bool.false_eq_true, false_and, if_false]
          rfl
        · simp only [hband, if_false, Nat.not_le.1 hband, decide_true]
          cases hflag : s.sched.deviation.get k with
          | true =>
            simp only [Bool.true_eq_false, and_false, if_false, Bool.true_or]
            rw [← hflag, withDeviation_keeps]
            rfl
          | false =>
            have hkeep := withDeviation_keeps k (min 500 (s.sched.devCount.get k + r.step)) s
            rw [hflag] at hkeep
            simp only [and_true, Bool.false_or]
            by_cases hn : x.devConfirm ≤ min 500 (s.sched.devCount.get k + r.step)
            · simp only [satAdd, hn, if_true, decide_true]
              rfl
            · simp only [satAdd, hn, if_false, decide_false, Bool.false_eq_true]
              exact hkeep.symm
  · rw [if_pos hweb]
    simp only [hweb, decide_false, watched, Bool.false_eq_true, if_false, false_and]
    rfl

/-- The shortfall watch of a circuit: its count and flag. -/
def shortfallCell (s : State) (j : Circuit) : Nat × Bool := (s.sched.shortCount.get j, s.sched.shortfall.get j)

/-- The next count and flag of a circuit, by what the state shows of it. -/
def shortfallNext (x : Recipe) (r : Refresh) (s : State) (j : Circuit) : Nat × Bool → Nat × Bool :=
  watched (decide (s.web.state = .running))
    ((s.board.current (.chillWebTemp j)).map fun v => decide ((x.circuitProfiles.get j).limit < v)) 100 100 r.step

/-- The Schedule Unit with the count and the flag of a circuit. -/
def withShortfall (j : Circuit) (c : Nat × Bool) (s : State) : State :=
  { s with sched.shortCount := s.sched.shortCount.set j c.1, sched.shortfall := s.sched.shortfall.set j c.2 }

theorem withShortfall_keeps (j : Circuit) (n : Nat) (s : State) :
    withShortfall j (n, s.sched.shortfall.get j) s = { s with sched.shortCount := s.sched.shortCount.set j n } := by
  unfold withShortfall
  rw [Three.set_get_self]

theorem judgeShortfall_eq (x : Recipe) (r : Refresh) (s : State) (j : Circuit) : judgeShortfall x r s j =
    if (shortfallNext x r s j (shortfallCell s j)).2 = true ∧ s.sched.shortfall.get j = false then
      offer .chillShortfall (.role (.chillWebTemp j)) (.num ((s.board.current (.chillWebTemp j)).getD 0))
        (withShortfall j (shortfallNext x r s j (shortfallCell s j)) s)
    else withShortfall j (shortfallNext x r s j (shortfallCell s j)) s := by
  unfold judgeShortfall shortfallNext
  dsimp only
  by_cases hweb : s.web.state = .running
  · rw [if_neg (Classical.not_not.2 hweb), hweb]
    cases hv : s.board.current (.chillWebTemp j) with
    | none =>
      simp only [Option.map_none, decide_true, watched, if_true, shortfallCell, withShortfall_keeps]
      rw [if_neg (fun h => by simp [h.2] at h)]
    | some v =>
      simp only [Option.map_some, decide_true, watched, if_true, shortfallCell, Option.getD_some]
      by_cases hlimit : v ≤ (x.circuitProfiles.get j).limit
      · simp only [hlimit, if_true, Int.not_lt.2 hlimit, decide_false, Bool.false_eq_true, false_and, if_false]
        rfl
      · simp only [hlimit, if_false, Int.not_le.1 hlimit, decide_true]
        cases hflag : s.sched.shortfall.get j with
        | true =>
          simp only [Bool.true_eq_false, and_false, if_false, Bool.true_or]
          rw [← hflag, withShortfall_keeps]
          rfl
        | false =>
          have hkeep := withShortfall_keeps j (min 100 (s.sched.shortCount.get j + r.step)) s
          rw [hflag] at hkeep
          simp only [and_true, Bool.false_or]
          by_cases hn : 100 ≤ min 100 (s.sched.shortCount.get j + r.step)
          · simp only [satAdd, hn, if_true, decide_true]
            rfl
          · simp only [satAdd, hn, if_false, decide_false, Bool.false_eq_true]
            exact hkeep.symm
  · rw [if_pos hweb]
    simp only [hweb, decide_false, watched, Bool.false_eq_true, if_false, false_and]
    rfl

/-- What the watches are told by: the web, the board and the Command Table, as they stand at the refresh. -/
def SeenAs (s u : State) : Prop := u.web = s.web ∧ u.board = s.board ∧ u.cmds = s.cmds

theorem SeenAs.deviation (h : SeenAs s u) (k : Zone) :
    u.deviationOf k = s.deviationOf k ∧ deviationNext x r u k = deviationNext x r s k := by
  obtain ⟨hweb, hboard, hcmds⟩ := h
  have hd : u.deviationOf k = s.deviationOf k := by rw [State.deviationOf, State.deviationOf, hboard, hcmds]
  refine ⟨hd, ?_⟩
  rw [deviationNext, deviationNext, hweb, hd]

theorem SeenAs.shortfall (h : SeenAs s u) (j : Circuit) : shortfallNext x r u j = shortfallNext x r s j := by
  obtain ⟨hweb, hboard, -⟩ := h
  rw [shortfallNext, shortfallNext, hweb, hboard]

/-- The zones' watch. -/
theorem deviationWatch (x : Recipe) (r : Refresh) (s : State) :
    Watch (SeenAs s) (judgeDeviation x r) deviationCell (deviationNext x r s) fun k i =>
      i.code = .zoneDeviation ∧ i.subject = .role (.zoneTemp k) ∧ i.value = .num ((s.deviationOf k).getD 0) where
  keeps u k h := by
    obtain ⟨hweb, hboard, hcmds⟩ := h
    exact ⟨by simp [hweb], by simp [hboard], by simp [hcmds]⟩
  own u k h := by
    rw [judgeDeviation_eq, (h.deviation k).2]
    split <;> simp [deviationCell, withDeviation]
  other u j k h := by
    rw [judgeDeviation_eq]
    split <;> simp [deviationCell, withDeviation, Four.get_set_ne _ _ (Ne.symm h)]
  adds u k := by
    rw [judgeDeviation_eq]
    split
    · exact .same (by rfl) (offer_adds _ _ _ _)
    · exact .of_log rfl
  quiet u k h hq := by
    rw [judgeDeviation_eq, (h.deviation k).2, if_neg fun hn => absurd (hq hn.1) (by simp [deviationCell, hn.2])]
    rfl
  offers u k h hnew hold hroom := by
    rw [judgeDeviation_eq, (h.deviation k).2, if_pos ⟨hnew, hold⟩, (h.deviation (x := x) (r := r) k).1]
    refine ⟨incidentOf .zoneDeviation (.role (.zoneTemp k)) (.num ((s.deviationOf k).getD 0))
      (withDeviation k (deviationNext x r s k (deviationCell u k)) u), ?_, rfl, rfl, rfl⟩
    rw [(offer_room (withDeviation k (deviationNext x r s k (deviationCell u k)) u) _ _ rfl hroom).1]
    exact List.mem_append_right _ (.head _)

/-- The circuits' watch. -/
theorem shortfallWatch (x : Recipe) (r : Refresh) (s : State) :
    Watch (SeenAs s) (judgeShortfall x r) shortfallCell (shortfallNext x r s) fun j i =>
      i.code = .chillShortfall ∧ i.subject = .role (.chillWebTemp j)
        ∧ i.value = .num ((s.board.current (.chillWebTemp j)).getD 0) where
  keeps u k h := by
    obtain ⟨hweb, hboard, hcmds⟩ := h
    exact ⟨by simp [hweb], by simp [hboard], by simp [hcmds]⟩
  own u k h := by
    rw [judgeShortfall_eq, h.shortfall k]
    split <;> simp [shortfallCell, withShortfall]
  other u j k h := by
    rw [judgeShortfall_eq]
    split <;> simp [shortfallCell, withShortfall, Three.get_set_ne _ _ (Ne.symm h)]
  adds u k := by
    rw [judgeShortfall_eq]
    split
    · exact .same (by rfl) (offer_adds _ _ _ _)
    · exact .of_log rfl
  quiet u k h hq := by
    rw [judgeShortfall_eq, h.shortfall k, if_neg fun hn => absurd (hq hn.1) (by simp [shortfallCell, hn.2])]
    rfl
  offers u k h hnew hold hroom := by
    rw [judgeShortfall_eq, h.shortfall k, if_pos ⟨hnew, hold⟩, h.2.1]
    refine ⟨incidentOf .chillShortfall (.role (.chillWebTemp k)) (.num ((s.board.current (.chillWebTemp k)).getD 0))
      (withShortfall k (shortfallNext x r s k (shortfallCell u k)) u), ?_, rfl, rfl, rfl⟩
    rw [(offer_room (withShortfall k (shortfallNext x r s k (shortfallCell u k)) u) _ _ rfl hroom).1]
    exact List.mem_append_right _ (.head _)

/-- Neither watch touches the job, the publication or the other watch. -/
theorem judgeDeviation_shortfall (x : Recipe) (r : Refresh) (u : State) (k : Zone) :
    (judgeDeviation x r u k).sched.job = u.sched.job ∧ (judgeDeviation x r u k).sched.publication = u.sched.publication
    ∧ (judgeDeviation x r u k).sched.shortCount = u.sched.shortCount
    ∧ (judgeDeviation x r u k).sched.shortfall = u.sched.shortfall := by
  rw [judgeDeviation_eq]
  split <;> simp [withDeviation]

theorem judgeShortfall_deviation (x : Recipe) (r : Refresh) (u : State) (j : Circuit) :
    (judgeShortfall x r u j).sched.job = u.sched.job ∧ (judgeShortfall x r u j).sched.publication = u.sched.publication
    ∧ (judgeShortfall x r u j).sched.devCount = u.sched.devCount
    ∧ (judgeShortfall x r u j).sched.deviation = u.sched.deviation := by
  rw [judgeShortfall_eq]
  split <;> simp [withShortfall]

end Sys2Proof.Machine
end

section
/-! PROOF. The Schedule Unit's evaluation and its reaction to a refresh (R59 to R62, R68, R69). -/

namespace Sys2Proof.Machine

open Sys2Proof Sys2Proof.Machine

variable {s t u : State} {r : Refresh} {x : Recipe} {b : BankNo} {k : Zone} {j : Circuit}

theorem mem_zones : k ∈ s.zones ↔ k.val < s.zoneCount := by
  simp [State.zones, mem_zoneNumbers]

theorem mem_circuits : j ∈ s.circuits ↔ j.val < s.circuitCount := by
  simp [State.circuits, mem_circuitNumbers]

theorem zones_nodup (s : State) : s.zones.Nodup := List.Pairwise.filter _ (by decide)

theorem circuits_nodup (s : State) : s.circuits.Nodup := List.Pairwise.filter _ (by decide)

theorem zones_length (s : State) : s.zones.length ≤ 4 := List.length_filter_le ..

theorem circuits_length (s : State) : s.circuits.length ≤ 3 := List.length_filter_le ..

/-- Without a judged refresh, or with no bank ACTIVE, nothing is watched. -/
theorem watch_idle (h : judged r s = false ∨ activeBank s.banks = none) : watch r s = s := by
  unfold watch
  cases ha : activeBank s.banks with
  | none => rw [State.activeRecipe, ha]; rfl
  | some b =>
    rw [State.activeRecipe, ha]
    exact if_neg (by simp [h.resolve_right (by simp [ha])])

/-- The state between the zones' watch and the circuits'. -/
def zonesWatched (x : Recipe) (r : Refresh) (s : State) : State := s.zones.foldl (judgeDeviation x r) s

theorem watch_active (hj : judged r s = true) (ha : activeBank s.banks = some b) : watch r s =
    s.circuits.foldl (judgeShortfall (s.banks.get b).recipe r) (zonesWatched (s.banks.get b).recipe r s) := by
  unfold watch
  rw [State.activeRecipe, ha]
  exact if_pos hj

theorem zonesWatched_seen (x : Recipe) (r : Refresh) (s : State) : SeenAs s (zonesWatched x r s) :=
  (deviationWatch x r s).foldl_keeps ⟨rfl, rfl, rfl⟩

theorem zonesWatched_shortfall (x : Recipe) (r : Refresh) (s : State) (j : Circuit) :
    shortfallCell (zonesWatched x r s) j = shortfallCell s j :=
  foldl_keeps (judgeDeviation x r) (fun u => shortfallCell u j) (fun u k => by
    obtain ⟨-, -, hcount, hflag⟩ := judgeDeviation_shortfall x r u k
    simp only [shortfallCell, hcount, hflag]) _ _

/-- What a judged refresh leaves of the watches with a bank ACTIVE. -/
theorem watch_cells (hj : judged r s = true) (ha : activeBank s.banks = some b) (hx : x = (s.banks.get b).recipe) :
    (∀ k, deviationCell (watch r s) k =
      if k.val < s.zoneCount then deviationNext x r s k (deviationCell s k) else deviationCell s k)
    ∧ ∀ j, shortfallCell (watch r s) j =
      if j.val < s.circuitCount then shortfallNext x r s j (shortfallCell s j) else shortfallCell s j := by
  have hwatch := watch_active hj ha
  rw [← hx] at hwatch
  have hs : SeenAs s s := ⟨rfl, rfl, rfl⟩
  refine ⟨fun k => ?_, fun j => ?_⟩
  · have hkeep : deviationCell (watch r s) k = deviationCell (zonesWatched x r s) k := by
      rw [hwatch]
      exact foldl_keeps (judgeShortfall x r) (fun u => deviationCell u k) (fun u j => by
        obtain ⟨-, -, hcount, hflag⟩ := judgeShortfall_deviation x r u j
        simp only [deviationCell, hcount, hflag]) _ _
    rw [hkeep]
    split
    · next hk => exact (deviationWatch x r s).foldl_own hs (zones_nodup s) (mem_zones.2 hk)
    · next hk => exact (deviationWatch x r s).foldl_other fun h => hk (mem_zones.1 h)
  · rw [hwatch, ← zonesWatched_shortfall x r s j]
    split
    · next hk => exact (shortfallWatch x r s).foldl_own (zonesWatched_seen x r s) (circuits_nodup s) (mem_circuits.2 hk)
    · next hk => exact (shortfallWatch x r s).foldl_other fun h => hk (mem_circuits.1 h)

theorem watch_unit (r : Refresh) (s : State) : (watch r s).sched.job = s.sched.job
    ∧ (watch r s).sched.publication = s.sched.publication := by
  unfold watch
  split
  · split
    · exact ⟨(foldl_keeps _ (fun u => u.sched.job) (fun u j => (judgeShortfall_deviation _ r u j).1) _ _).trans
        (foldl_keeps _ (fun u => u.sched.job) (fun u k => (judgeDeviation_shortfall _ r u k).1) _ _),
        (foldl_keeps _ (fun u => u.sched.publication) (fun u j => (judgeShortfall_deviation _ r u j).2.1) _ _).trans
        (foldl_keeps _ (fun u => u.sched.publication) (fun u k => (judgeDeviation_shortfall _ r u k).2.1) _ _)⟩
    · exact ⟨rfl, rfl⟩
  · exact ⟨rfl, rfl⟩

/-- Without an onset the watches offer nothing. -/
theorem watch_quiet (hj : judged r s = true) (ha : activeBank s.banks = some b) (hx : x = (s.banks.get b).recipe)
    (hz : ∀ k, (deviationCell (watch r s) k).2 = true → (deviationCell s k).2 = true)
    (hc : ∀ j, (shortfallCell (watch r s) j).2 = true → (shortfallCell s j).2 = true) : (watch r s).log = s.log := by
  obtain ⟨hzones, hcircuits⟩ := watch_cells hj ha hx
  rw [watch_active hj ha, ← hx]
  refine ((shortfallWatch x r s).foldl_quiet (zonesWatched_seen x r s) (circuits_nodup s) fun j hjmem => ?_).trans
    ((deviationWatch x r s).foldl_quiet ⟨rfl, rfl, rfl⟩ (zones_nodup s) fun k hk => ?_)
  · rw [zonesWatched_shortfall]
    have h := hc j
    rwa [hcircuits j, if_pos (mem_circuits.1 hjmem)] at h
  · have h := hz k
    rwa [hzones k, if_pos (mem_zones.1 hk)] at h

theorem watch_offersDeviation (hj : judged r s = true) (ha : activeBank s.banks = some b)
    (hx : x = (s.banks.get b).recipe) (hk : k.val < s.zoneCount)
    (hnew : (deviationNext x r s k (deviationCell s k)).2 = true) (hold : s.sched.deviation.get k = false)
    (hroom : s.log.queue.length ≤ 25) : ∃ i ∈ (watch r s).log.queue,
      i.code = .zoneDeviation ∧ i.subject = .role (.zoneTemp k) ∧ i.value = .num ((s.deviationOf k).getD 0) := by
  have hz := zones_length s
  have hc := circuits_length s
  obtain ⟨i, hi, hrecord⟩ := (deviationWatch x r s).foldl_offers ⟨rfl, rfl, rfl⟩ (zones_nodup s) (mem_zones.2 hk) hnew
    hold (by omega)
  obtain ⟨new, hqueue, hlen⟩ := (deviationWatch x r s).foldl_adds s.zones s (by omega)
  refine ⟨i, ?_, hrecord⟩
  rw [watch_active hj ha, ← hx]
  refine ((shortfallWatch x r s).foldl_adds s.circuits _).mem ?_ hi
  rw [zonesWatched, hqueue, List.length_append]
  omega

theorem watch_offersShortfall (hj : judged r s = true) (ha : activeBank s.banks = some b)
    (hx : x = (s.banks.get b).recipe) (hk : j.val < s.circuitCount)
    (hnew : (shortfallNext x r s j (shortfallCell s j)).2 = true) (hold : s.sched.shortfall.get j = false)
    (hroom : s.log.queue.length ≤ 25) : ∃ i ∈ (watch r s).log.queue,
      i.code = .chillShortfall ∧ i.subject = .role (.chillWebTemp j)
        ∧ i.value = .num ((s.board.current (.chillWebTemp j)).getD 0) := by
  have hz := zones_length s
  have hc := circuits_length s
  obtain ⟨new, hqueue, hlen⟩ := (deviationWatch x r s).foldl_adds s.zones s (by omega)
  have hcell := zonesWatched_shortfall x r s j
  rw [watch_active hj ha, ← hx]
  refine (shortfallWatch x r s).foldl_offers (zonesWatched_seen x r s) (circuits_nodup s) (mem_circuits.2 hk)
    (by rw [hcell]; exact hnew) (by rw [hcell]; exact hold) ?_
  rw [zonesWatched, hqueue, List.length_append]
  omega

/-! ## The reaction (R59, R60) -/

theorem scheduleReaction_eq (r : Refresh) (s : State) : scheduleReaction r s = { s with
    sched := { (watch r s).sched with job := (activeBank s.banks).map fun b => schedInputs b r s }
    log := (watch r s).log } := by
  have hinputs : ∀ b, schedInputs b r (watch r s) = schedInputs b r s := fun b => by
    have hzones : (watch r s).zoneCount = s.zoneCount := by simp [State.zoneCount, State.scalars?]
    have hcircuits : (watch r s).circuitCount = s.circuitCount := by simp [State.circuitCount, State.scalars?]
    simp only [schedInputs, hzones, hcircuits, watch_frame]
  have hjob : ((activeBank (watch r s).banks).map fun b => schedInputs b r (watch r s)) =
      (activeBank s.banks).map fun b => schedInputs b r s := by
    rw [funext hinputs]
    simp
  unfold scheduleReaction startSchedule
  rw [hjob]
  simp

/-- A zone that is idle, without a reading, within or beyond its band. -/
theorem deviationNext_idle (h : s.web.state ≠ .running) (c : Nat × Bool) : deviationNext x r s k c = (0, false) := by
  simp [deviationNext, watched, h]

theorem deviationNext_unread (h : s.web.state = .running)
    (hno : s.cmds.lastValue (.zoneTempSp k) = none ∨ s.board.fresh (.zoneTemp k) = none) (c : Nat × Bool) :
    deviationNext x r s k c = (0, c.2) := by
  have hd : s.deviationOf k = none := by
    unfold State.deviationOf
    obtain hno | hno := hno
    · rw [hno]; rfl
    · rw [hno]; cases s.cmds.lastValue (.zoneTempSp k) <;> rfl
  simp [deviationNext, watched, h, hd]

theorem deviationOf_eq {sp v : Int} (hsp : s.cmds.lastValue (.zoneTempSp k) = some sp)
    (hv : s.board.fresh (.zoneTemp k) = some v) : s.deviationOf k = some (v - sp) := by
  rw [State.deviationOf, hsp, hv]; rfl

theorem deviationNext_within {d : Int} (h : s.web.state = .running) (hd : s.deviationOf k = some d)
    (hband : d.natAbs ≤ x.devBand) (c : Nat × Bool) : deviationNext x r s k c = (0, false) := by
  simp [deviationNext, watched, h, hd, Nat.not_lt.2 hband]

theorem deviationNext_beyond {d : Int} (h : s.web.state = .running) (hd : s.deviationOf k = some d)
    (hband : x.devBand < d.natAbs) (c : Nat × Bool) : deviationNext x r s k c =
      (min 500 (c.1 + r.step), c.2 || decide (x.devConfirm ≤ min 500 (c.1 + r.step))) := by
  simp only [deviationNext, watched, h, decide_true, if_true, hd, Option.map_some, hband]

theorem shortfallNext_idle (h : s.web.state ≠ .running) (c : Nat × Bool) : shortfallNext x r s j c = (0, false) := by
  simp [shortfallNext, watched, h]

theorem shortfallNext_unread (h : s.web.state = .running) (hv : s.board.current (.chillWebTemp j) = none)
    (c : Nat × Bool) : shortfallNext x r s j c = (0, c.2) := by
  simp [shortfallNext, watched, h, hv]

theorem shortfallNext_within {v : Int} (h : s.web.state = .running) (hv : s.board.current (.chillWebTemp j) = some v)
    (hlimit : v ≤ (x.circuitProfiles.get j).limit) (c : Nat × Bool) : shortfallNext x r s j c = (0, false) := by
  simp [shortfallNext, watched, h, hv, Int.not_lt.2 hlimit]

theorem shortfallNext_beyond {v : Int} (h : s.web.state = .running) (hv : s.board.current (.chillWebTemp j) = some v)
    (hlimit : (x.circuitProfiles.get j).limit < v) (c : Nat × Bool) : shortfallNext x r s j c =
      (min 100 (c.1 + r.step), c.2 || decide (100 ≤ min 100 (c.1 + r.step))) := by
  simp only [shortfallNext, watched, h, decide_true, if_true, hv, Option.map_some, hlimit]

/-- Settles O48: the publication, the schedule read at a speed, the thermal ceiling, and the watches of a refresh. -/
theorem scheduleCompletes : Obligations.ScheduleCompletes := by
  unfold Obligations.ScheduleCompletes
  refine ⟨fun s j hjob => ?_, fun l v hs => interpolate_sound hs, thermalCeiling_sound, fun r s t ht => ?_⟩
  · refine congrArg Host.Outcome.next ?_
    simp only [scheduleEvaluationComplete, hjob]
    rfl
  · have heq : t = _ := ht.trans (scheduleReaction_eq r s)
    have hsched : t.sched = { (watch r s).sched with job := (activeBank s.banks).map fun b => schedInputs b r s } :=
      congrArg State.sched heq
    have hlog : t.log = (watch r s).log := by rw [heq]
    obtain ⟨-, hpub⟩ := watch_unit r s
    refine ⟨by rw [heq], by rw [hsched]; exact hpub, fun ha => ?_, fun hj => ?_, fun b ha => ⟨?_, fun x hj hx => ?_⟩⟩
    · rw [hsched, hlog, watch_idle (.inr ha), ha]
      exact ⟨rfl, rfl⟩
    · rw [hsched, hlog, watch_idle (.inl hj)]
      exact ⟨rfl, rfl⟩
    · rw [hsched, ha]; rfl
    · obtain ⟨hzones, hcircuits⟩ := watch_cells hj ha hx
      have hdev : ∀ k, (t.sched.devCount.get k, t.sched.deviation.get k) = deviationCell (watch r s) k := fun k => by
        rw [hsched]; rfl
      have hshort : ∀ j, (t.sched.shortCount.get j, t.sched.shortfall.get j) = shortfallCell (watch r s) j := fun j => by
        rw [hsched]; rfl
      refine ⟨fun k hk => ?_, fun j hk => ?_, fun hz hc => ?_, fun k hk => ?_, fun j hk => ?_⟩
      · have h := (hdev k).trans ((hzones k).trans (if_neg (Nat.not_lt.2 hk)))
        exact Prod.mk.inj h
      · have h := (hshort j).trans ((hcircuits j).trans (if_neg (Nat.not_lt.2 hk)))
        exact Prod.mk.inj h
      · rw [hlog]
        exact watch_quiet hj ha hx (fun k => by rw [← hdev k]; exact hz k) fun j => by rw [← hshort j]; exact hc j
      · have h := (hdev k).trans ((hzones k).trans (if_pos hk))
        refine ⟨fun hweb => ?_, fun hweb => ⟨fun hno => ?_, fun sp v hsp hv => ⟨fun hband => ?_, fun hband n hn => ?_⟩⟩⟩
        · rw [deviationNext_idle hweb] at h
          exact Prod.mk.inj h
        · rw [deviationNext_unread hweb hno] at h
          exact Prod.mk.inj h
        · rw [deviationNext_within hweb (deviationOf_eq hsp hv) hband] at h
          exact Prod.mk.inj h
        · have hnext := deviationNext_beyond (r := r) hweb (deviationOf_eq hsp hv) hband (deviationCell s k)
          rw [hnext] at h
          obtain ⟨hcount, hflag⟩ := Prod.mk.inj h
          subst hn
          refine ⟨hcount, hflag, fun hle hold hroom => ?_⟩
          have hrecord := watch_offersDeviation hj ha hx hk (by rw [hnext]; simp [deviationCell, hle]) hold hroom
          rw [deviationOf_eq hsp hv] at hrecord
          rw [hlog]
          exact hrecord
      · have h := (hshort j).trans ((hcircuits j).trans (if_pos hk))
        refine ⟨fun hweb => ?_, fun hweb => ⟨fun hno => ?_, fun v hv => ⟨fun hlimit => ?_, fun hlimit n hn => ?_⟩⟩⟩
        · rw [shortfallNext_idle hweb] at h
          exact Prod.mk.inj h
        · rw [shortfallNext_unread hweb hno] at h
          exact Prod.mk.inj h
        · rw [shortfallNext_within hweb hv hlimit] at h
          exact Prod.mk.inj h
        · have hnext := shortfallNext_beyond (r := r) hweb hv hlimit (shortfallCell s j)
          rw [hnext] at h
          obtain ⟨hcount, hflag⟩ := Prod.mk.inj h
          subst hn
          refine ⟨hcount, hflag, fun hle hold hroom => ?_⟩
          have hrecord := watch_offersShortfall hj ha hx hk (by rw [hnext]; simp [shortfallCell, hle]) hold hroom
          rw [hv] at hrecord
          rw [hlog]
          exact hrecord

end Sys2Proof.Machine
end

section
/-! PROOF. The Solvent Unit: the figures of a publication, its own judgements of it, and the Dryer Safety Unit's
reaction to it (R75 to R90, R121). -/

namespace Sys2Proof.Machine

open Sys2Proof Sys2Proof.Machine

variable {s t u : State} {r : Refresh} {j : SolvJob} {n : Nat} {pub : Option SchedPub} {p : SolvPub}

/-! ## The figures (R78 to R83) -/

theorem predictedLel_pos {g lg q : Nat} (h : 0 < q) :
    predictedLel g lg (some q) = some (min 1000 ((g * 1000 + (q * lg - 1)) / (q * lg))) := by
  rw [predictedLel]
  exact if_neg (Nat.ne_of_gt h)

theorem predictedLel_still (g lg : Nat) : predictedLel g lg (some 0) = some (if g = 0 then 0 else 1000) := by
  cases g <;> rfl

theorem exhaustFloor_eq (d : DryerState) (q m f : Nat) : exhaustFloor d q m f =
    if d = .firing then max ((q * (100 + m) + 99) / 100) f else (q * (100 + m) + 99) / 100 := rfl

theorem solventCeiling_dry (q : Option Nat) (w e l f : Nat) : solventCeiling q 0 w e l f = 1500 := rfl

theorem solventCeiling_flow {c : Nat} (hc : c ≠ 0) (q w e l f : Nat) :
    solventCeiling (some q) c w e l f = min 1500 (q * l * f * 1000000 / (w * c * e * 60)) := if_neg hc

theorem solventCeiling_noFlow {c : Nat} (hc : c ≠ 0) {q : Option Nat} (hq : q = none ∨ q = some 0) (w e l f : Nat) :
    solventCeiling q c w e l f = 0 := by
  obtain rfl | rfl := hq
  · exact if_neg hc
  · rw [solventCeiling_flow hc]
    simp

theorem measuredCeiling_idle {w : WebState} {m : AnalyzerMode} {l : Option Nat}
    (h : w ≠ .running ∨ m = .unmonitored ∨ l = some 0) (v f : Nat) : measuredCeiling w m l v f = 1500 := by
  unfold measuredCeiling
  split
  · next hrun =>
    obtain h | h | h := h
    · exact absurd hrun.1 h
    · rw [h] at hrun; exact absurd hrun.2 nofun
    · rw [h]; rfl
  · rfl

theorem measuredCeiling_running {l : Nat} (h : 0 < l) (v f : Nat) :
    measuredCeiling .running .monitored (some l) v f = min 1500 (v * f * 10 / l) :=
  if_neg (Nat.ne_of_gt h)

theorem measuredCeiling_le (w : WebState) (m : AnalyzerMode) (l : Option Nat) (v f : Nat) :
    measuredCeiling w m l v f ≤ 1500 := by
  unfold measuredCeiling
  split
  · split
    · split
      · exact Nat.le_refl _
      · exact Nat.min_le_left ..
    · exact Nat.le_refl _
  · exact Nat.le_refl _

/-- The least of a list of figures under a bound. -/
theorem foldl_min {κ : Type} (f : κ → Nat) (l : List κ) (m : Nat) :
    l.foldl (fun a k => min a (f k)) m ≤ m ∧ (∀ k ∈ l, l.foldl (fun a k => min a (f k)) m ≤ f k)
      ∧ (l.foldl (fun a k => min a (f k)) m = m ∨ ∃ k ∈ l, l.foldl (fun a k => min a (f k)) m = f k) := by
  induction l generalizing m with
  | nil => exact ⟨Nat.le_refl m, fun _ h => (nomatch h), .inl rfl⟩
  | cons x l ih =>
    obtain ⟨hle, hall, heq⟩ := ih (min m (f x))
    rw [List.foldl_cons]
    refine ⟨Nat.le_trans hle (Nat.min_le_left ..), fun k hk => ?_, ?_⟩
    · obtain rfl | hk := List.mem_cons.1 hk
      · exact Nat.le_trans hle (Nat.min_le_right ..)
      · exact hall k hk
    · obtain heq | ⟨k, hk, heq⟩ := heq
      · obtain hm | hm := Nat.le_total m (f x)
        · exact .inl (heq.trans (Nat.min_eq_left hm))
        · exact .inr ⟨x, .head _, heq.trans (Nat.min_eq_right hm)⟩
      · exact .inr ⟨k, .tail _ hk, heq⟩

/-- The thermal ceiling of a zone as an evaluation takes it: the standing publication's, or the thread speed (R83). -/
def zoneCeiling (pub : Option SchedPub) (thread : Nat) (k : Zone) : Nat :=
  match pub with
  | some p => (p.ceiling.get k).getD thread
  | none => thread

theorem lowestThermal_eq (pub : Option SchedPub) (thread zones : Nat) : lowestThermal pub thread zones =
    (zoneNumbers.filter fun k => decide (k.val < zones)).foldl (fun a k => min a (zoneCeiling pub thread k)) 1500 := by
  cases pub <;> rfl

theorem lowestThermal_least (pub : Option SchedPub) (thread zones : Nat) : lowestThermal pub thread zones ≤ 1500
    ∧ (∀ k : Zone, k.val < zones → lowestThermal pub thread zones ≤ zoneCeiling pub thread k)
    ∧ (lowestThermal pub thread zones = 1500
      ∨ ∃ k : Zone, k.val < zones ∧ lowestThermal pub thread zones = zoneCeiling pub thread k) := by
  have hmem : ∀ k : Zone, k ∈ zoneNumbers.filter (fun k => decide (k.val < zones)) ↔ k.val < zones := fun k => by
    simp [mem_zoneNumbers]
  obtain ⟨hle, hall, heq⟩ :=
    foldl_min (zoneCeiling pub thread) (zoneNumbers.filter fun k => decide (k.val < zones)) 1500
  rw [lowestThermal_eq]
  exact ⟨hle, fun k hk => hall k ((hmem k).2 hk), heq.imp_right fun ⟨k, hk, h⟩ => ⟨k, (hmem k).1 hk, h⟩⟩

/-- The combined ceiling is the least of the solvent, the measured and every thermal ceiling (R83). -/
theorem combined_least (j : SolvJob) (n : Nat) (pub : Option SchedPub) :
    (solvResult j n pub).combined ≤ (solvResult j n pub).solventCeiling
    ∧ (solvResult j n pub).combined ≤ (solvResult j n pub).measuredCeiling
    ∧ (solvResult j n pub).combined ≤ 1500
    ∧ (∀ k : Zone, k.val < j.zones → (solvResult j n pub).combined ≤ zoneCeiling pub j.thread k)
    ∧ ((solvResult j n pub).combined = (solvResult j n pub).solventCeiling
      ∨ (solvResult j n pub).combined = (solvResult j n pub).measuredCeiling
      ∨ ∃ k : Zone, k.val < j.zones ∧ (solvResult j n pub).combined = zoneCeiling pub j.thread k) := by
  obtain ⟨hle, hall, heq⟩ := lowestThermal_least pub j.thread j.zones
  have hcombined : (solvResult j n pub).combined = min (solvResult j n pub).solventCeiling
      (min (solvResult j n pub).measuredCeiling (lowestThermal pub j.thread j.zones)) := rfl
  have hmeasured : (solvResult j n pub).measuredCeiling ≤ 1500 := measuredCeiling_le ..
  rw [hcombined]
  refine ⟨Nat.min_le_left .., Nat.le_trans (Nat.min_le_right ..) (Nat.min_le_left ..), by omega, fun k hk => ?_, ?_⟩
  · exact Nat.le_trans (Nat.le_trans (Nat.min_le_right ..) (Nat.min_le_right ..)) (hall k hk)
  · obtain heq | ⟨k, hk, heq⟩ := heq
    · omega
    · by_cases hlow : min (solvResult j n pub).solventCeiling
          (min (solvResult j n pub).measuredCeiling (lowestThermal pub j.thread j.zones)) =
            lowestThermal pub j.thread j.zones
      · exact .inr (.inr ⟨k, hk, hlow.trans heq⟩)
      · omega

/-! ## The unit's own judgements (R87, R88, R90) -/

/-- DRYER_LIMITED moves its flag and the log alone; its onset is offered. -/
theorem judgeLimited_eq (q : Nat) (p : SolvPub) (s : State) : judgeLimited q p s =
    if p.line = .online ∧ q < p.floor ∧ s.solv.limited = false then
      offer .dryerLimited .none (.num (p.floor : Int)) { s with solv.limited := true }
    else { s with solv.limited := if p.line = .online then decide (q < p.floor) else s.solv.limited } := by
  unfold judgeLimited
  by_cases hl : p.line = .online
  · by_cases hq : q < p.floor
    · cases hf : s.solv.limited with
      | true =>
        simp only [hl, hq, if_true, and_false, if_false, decide_true, Bool.true_eq_false]
        exact congrArg (fun b => { s with solv := { s.solv with limited := b } }) hf
      | false => simp only [hl, hq, if_true, and_self, Bool.false_eq_true, if_false]
    · simp only [hl, hq, if_true, if_false, false_and, and_false, decide_false]
  · simp only [hl, if_false, false_and]

/-- The count and the flag of SOLVENT_MISMATCH after a publication (R88). -/
def mismatchNext (p : SolvPub) (c : Nat × Bool) : Nat × Bool :=
  if p.line ≠ .online then c
  else
    match p.web, p.mode, p.lel with
    | .running, .monitored, some m =>
      match p.predicted with
      | none => (0, c.2)
      | some q => if m ≤ q + 100 then (0, false) else
          (min 50 (c.1 + p.covered), c.2 || decide (50 ≤ min 50 (c.1 + p.covered)))
    | _, _, _ => (0, false)

/-- By how much the measured LEL stands above the predicted one. -/
def mismatchBy (p : SolvPub) : Int := ((p.lel.getD 0 : Nat) : Int) - ((p.predicted.getD 0 : Nat) : Int)

/-- The unit with a count and a flag of SOLVENT_MISMATCH. -/
def withMismatch (c : Nat × Bool) (s : State) : State := { s with solv.mismatchCount := c.1, solv.mismatch := c.2 }

def mismatchCell (s : State) : Nat × Bool := (s.solv.mismatchCount, s.solv.mismatch)

theorem mismatchNext_offline (h : p.line ≠ .online) (c : Nat × Bool) : mismatchNext p c = c := if_pos h

theorem mismatchNext_still (hl : p.line = .online)
    (h : ∀ m, p.web = .running → p.mode = .monitored → p.lel = some m → False) (c : Nat × Bool) :
    mismatchNext p c = (0, false) := by
  rw [mismatchNext, if_neg (Classical.not_not.2 hl)]
  split
  · next m hweb hmode hlel => exact (h m hweb hmode hlel).elim
  · rfl

section Monitored
variable {m q : Nat} (hl : p.line = .online) (hweb : p.web = .running) (hmode : p.mode = .monitored)
  (hlel : p.lel = some m)
include hl hweb hmode hlel

theorem mismatchNext_blind (hp : p.predicted = none) (c : Nat × Bool) : mismatchNext p c = (0, c.2) := by
  rw [mismatchNext, if_neg (Classical.not_not.2 hl), hweb, hmode, hlel, hp]

theorem mismatchNext_predicted (hp : p.predicted = some q) (c : Nat × Bool) : mismatchNext p c =
    if m ≤ q + 100 then (0, false)
    else (min 50 (c.1 + p.covered), c.2 || decide (50 ≤ min 50 (c.1 + p.covered))) := by
  rw [mismatchNext, if_neg (Classical.not_not.2 hl), hweb, hmode, hlel, hp]

end Monitored

theorem judgeMismatch_eq (p : SolvPub) (s : State) : judgeMismatch p s =
    if (mismatchNext p (mismatchCell s)).2 = true ∧ s.solv.mismatch = false then
      offer .solventMismatch .none (.num (mismatchBy p)) (withMismatch (mismatchNext p (mismatchCell s)) s)
    else withMismatch (mismatchNext p (mismatchCell s)) s := by
  have hkeep : ∀ {b : Bool}, s.solv.mismatch = b → ¬ (b = true ∧ s.solv.mismatch = false) := fun h hn => by
    rw [h] at hn; simp [hn.1] at hn
  unfold judgeMismatch
  split
  · next hl =>
    rw [mismatchNext_offline hl]
    exact (if_neg (hkeep rfl)).symm
  · next hl =>
    rw [Classical.not_not] at hl
    split
    · next m hweb hmode hlel =>
      split
      · next hpred =>
        rw [mismatchNext_blind hl hweb hmode hlel hpred]
        exact (if_neg (hkeep rfl)).symm
      · next q hpred =>
        dsimp only
        have hby : mismatchBy p = (m : Int) - (q : Int) := by simp [mismatchBy, hlel, hpred]
        rw [mismatchNext_predicted hl hweb hmode hlel hpred, hby]
        by_cases hd : m ≤ q + 100
        · rw [if_pos (by omega), if_pos hd, if_neg (fun h => by simp at h)]
          rfl
        · rw [if_neg (by omega), if_neg hd]
          cases hflag : s.solv.mismatch with
          | true =>
            simp only [mismatchCell, hflag, Bool.true_or, Bool.true_eq_false, and_false, if_false]
            rfl
          | false =>
            by_cases hn : 50 ≤ min 50 (s.solv.mismatchCount + p.covered)
            · simp only [satAdd, mismatchCell, hflag, Bool.false_or, hn, decide_true, and_self, if_true]
              rfl
            · simp only [satAdd, mismatchCell, hflag, Bool.false_or, hn, decide_false, false_and, if_false,
                Bool.false_eq_true]
              rfl
    · next hother =>
      rw [mismatchNext_still hl hother, if_neg (fun h => by simp at h)]
      rfl

/-! ## The whole judgement of a publication -/

/-- The histogram after a publication (R90). -/
def histogramNext (p : SolvPub) (g : Histogram) : Histogram :=
  match p.web, p.predicted with
  | .running, some v => countBucket v g
  | _, _ => g

theorem judgeHistogram_eq (p : SolvPub) (s : State) :
    judgeHistogram p s = { s with solv.histogram := histogramNext p s.solv.histogram } := by
  unfold judgeHistogram histogramNext
  cases p.web <;> cases p.predicted <;> rfl

/-- The flag of DRYER_LIMITED after a publication (R87). -/
def limitedNext (q : Nat) (p : SolvPub) (b : Bool) : Bool := if p.line = .online then decide (q < p.floor) else b

/-- The Solvent Unit after its own judgements of a publication. -/
def judgedUnit (q : Nat) (p : SolvPub) (v : SolvUnit) : SolvUnit :=
  { v with
    limited := limitedNext q p v.limited
    mismatchCount := (mismatchNext p (v.mismatchCount, v.mismatch)).1
    mismatch := (mismatchNext p (v.mismatchCount, v.mismatch)).2
    histogram := histogramNext p v.histogram }

theorem judgeLimited_solv (q : Nat) (p : SolvPub) (s : State) :
    (judgeLimited q p s).solv = { s.solv with limited := limitedNext q p s.solv.limited } := by
  rw [judgeLimited_eq]
  split
  · next h => simp [limitedNext, h.1, h.2.1]
  · rfl

theorem judgeMismatch_solv (p : SolvPub) (s : State) : (judgeMismatch p s).solv = { s.solv with
    mismatchCount := (mismatchNext p (mismatchCell s)).1, mismatch := (mismatchNext p (mismatchCell s)).2 } := by
  rw [judgeMismatch_eq]
  split
  · simp [withMismatch]
  · rfl

theorem judgePublication_solv (q : Nat) (p : SolvPub) (s : State) :
    (judgePublication q p s).solv = judgedUnit q p s.solv := by
  have hlimited := judgeLimited_solv q p s
  have hcell : mismatchCell (judgeLimited q p s) = mismatchCell s := by simp only [mismatchCell, hlimited]
  rw [judgePublication, judgeHistogram_eq]
  simp only [judgeMismatch_solv, hcell, hlimited]
  rfl

theorem judgeLimited_adds (q : Nat) (p : SolvPub) (s : State) : Adds 1 s (judgeLimited q p s) := by
  rw [judgeLimited_eq]; split
  · exact .same (by rfl) (offer_adds _ _ _ _)
  · exact .of_log rfl

theorem judgeMismatch_adds (p : SolvPub) (s : State) : Adds 1 s (judgeMismatch p s) := by
  rw [judgeMismatch_eq]; split
  · exact .same (by rfl) (offer_adds _ _ _ _)
  · exact .of_log rfl

theorem judgePublication_log (q : Nat) (p : SolvPub) (s : State) :
    (judgePublication q p s).log = (judgeMismatch p (judgeLimited q p s)).log := by
  rw [judgePublication, judgeHistogram_eq]

theorem judgePublication_adds (q : Nat) (p : SolvPub) (s : State) : Adds 2 s (judgePublication q p s) := by
  intro h
  rw [judgePublication_log]
  exact (judgeLimited_adds q p s).trans (judgeMismatch_adds p _) h

/-- The onsets of a publication are offered. -/
theorem judgePublication_offers (q : Nat) (p : SolvPub) (s : State) (hroom : s.log.queue.length ≤ 30) :
    (p.line = .online → q < p.floor → s.solv.limited = false → ∃ i ∈ (judgePublication q p s).log.queue,
      i.code = .dryerLimited ∧ i.subject = .none ∧ i.value = .num (p.floor : Int))
    ∧ ((mismatchNext p (mismatchCell s)).2 = true → s.solv.mismatch = false →
      ∃ i ∈ (judgePublication q p s).log.queue,
        i.code = .solventMismatch ∧ i.subject = .none ∧ i.value = .num (mismatchBy p)) := by
  obtain ⟨new, hqueue, hlen⟩ := judgeLimited_adds q p s (by omega)
  rw [judgePublication_log]
  refine ⟨fun hl hq hf => ?_, fun hnew hf => ?_⟩
  · refine ⟨incidentOf .dryerLimited .none (.num (p.floor : Int)) { s with solv.limited := true },
      (judgeMismatch_adds p _).mem (by rw [hqueue, List.length_append]; omega) ?_, rfl, rfl, rfl⟩
    rw [judgeLimited_eq, if_pos ⟨hl, hq, hf⟩,
      (offer_room { s with solv.limited := true } _ _ rfl (by show s.log.queue.length < 32; omega)).1]
    exact List.mem_append_right _ (.head _)
  · have hlimited := judgeLimited_solv q p s
    have hcell : mismatchCell (judgeLimited q p s) = mismatchCell s := by simp only [mismatchCell, hlimited]
    have hflag : (judgeLimited q p s).solv.mismatch = false := by rw [hlimited]; exact hf
    rw [judgeMismatch_eq, hcell, if_pos ⟨hnew, hflag⟩]
    refine ⟨incidentOf .solventMismatch .none (.num (mismatchBy p))
      (withMismatch (mismatchNext p (mismatchCell s)) (judgeLimited q p s)), ?_, rfl, rfl, rfl⟩
    rw [(offer_room (withMismatch (mismatchNext p (mismatchCell s)) (judgeLimited q p s)) _ _ rfl
      (by show (judgeLimited q p s).log.queue.length < 32; rw [hqueue, List.length_append]; omega)).1]
    exact List.mem_append_right _ (.head _)

end Sys2Proof.Machine
end

section
/-! PROOF. The announcement of a publication to the Dryer Safety Unit (R121), the two orders of the reactions to it
(R160), the start of an evaluation and ANALYZER_DISAGREE at a refresh (R75, R76, R89); and O49. -/

namespace Sys2Proof.Machine

open Sys2Proof Sys2Proof.Machine

variable {s t u : State} {r : Refresh} {j : SolvJob} {n q v : Nat} {p : SolvPub} {e : EffParams}

/-! ## LEL_PREDICTED_HIGH at a publication -/

/-- LEL_PREDICTED_HIGH after a publication, and whether that is its onset (R121). -/
def predictedNext (p : SolvPub) (s : State) : Cond × Bool :=
  if p.web = .stopped ∨ p.web = .break then (Cond.clear, false)
  else
    match p.predicted, s.solv.eff with
    | some v, some e =>
      if e.trip ≤ v then confirm s.confirmCount p.covered s.dryer.lelPredicted else (Cond.clear, false)
    | _, _ => (s.dryer.lelPredicted, false)

/-- The unit with LEL_PREDICTED_HIGH at a value. -/
def withPredicted (c : Cond) (s : State) : State := { s with dryer.lelPredicted := c }

theorem predictedNext_still (h : p.web = .stopped ∨ p.web = .break) (s : State) :
    predictedNext p s = (Cond.clear, false) := if_pos h

section Moving
variable (h1 : p.web ≠ .stopped) (h2 : p.web ≠ .break)
include h1 h2

theorem predictedNext_blind (h : p.predicted = none) (s : State) :
    predictedNext p s = (s.dryer.lelPredicted, false) := by
  rw [predictedNext, if_neg (by simp [h1, h2]), h]

theorem predictedNext_judged (hp : p.predicted = some v) (he : s.solv.eff = some e) : predictedNext p s =
    if e.trip ≤ v then confirm s.confirmCount p.covered s.dryer.lelPredicted else (Cond.clear, false) := by
  rw [predictedNext, if_neg (by simp [h1, h2]), hp, he]

end Moving

/-- An announced publication moves LEL_PREDICTED_HIGH, and the onset trips. -/
theorem judgePredicted_eq (p : SolvPub) (s : State) : judgePredicted p s =
    if (predictedNext p s).2 = true then
      onset .lelPredictedHigh .none (p.predicted.map Int.ofNat) (withPredicted (predictedNext p s).1 s)
    else withPredicted (predictedNext p s).1 s := by
  by_cases hstill : p.web = .stopped ∨ p.web = .break
  · rw [predictedNext_still hstill, if_neg (by simp)]
    obtain h | h := hstill <;> simp only [judgePredicted, h] <;> rfl
  · have hmove : judgePredicted p s = match p.predicted, s.solv.eff with
        | some v, some e =>
          if e.trip ≤ v then
            if (confirm s.confirmCount p.covered s.dryer.lelPredicted).2 then
              onset .lelPredictedHigh .none (some (v : Int))
                (withPredicted (confirm s.confirmCount p.covered s.dryer.lelPredicted).1 s)
            else withPredicted (confirm s.confirmCount p.covered s.dryer.lelPredicted).1 s
          else withPredicted Cond.clear s
        | _, _ => s := by
      unfold judgePredicted
      cases hweb : p.web with
      | stopped => exact absurd (.inl hweb) hstill
      | threading | running | resuming => cases p.predicted <;> cases s.solv.eff <;> rfl
      | _ => exact absurd (.inr hweb) hstill -- BREAK
    obtain ⟨h1, h2⟩ := not_or.1 hstill
    rw [hmove]
    cases hp : p.predicted with
    | none =>
      rw [predictedNext_blind h1 h2 hp]
      rfl
    | some v =>
      cases he : s.solv.eff with
      | none => simp [predictedNext, hp, he, hstill, withPredicted]
      | some e =>
        rw [predictedNext_judged h1 h2 hp he]
        by_cases htrip : e.trip ≤ v
        · simp only [htrip, if_true]
          rfl
        · simp only [htrip, if_false, Bool.false_eq_true]

/-- What an announced publication makes of the dryer, the resume record and the released flags. -/
structure Predicts (p : SolvPub) (s u : State) : Prop where
  quiet : (predictedNext p s).2 = false →
    u.dryer = { s.dryer with lelPredicted := (predictedNext p s).1 } ∧ u.web = s.web ∧ u.cmds = s.cmds
  onset : (predictedNext p s).2 = true → u.dryer.lelPredicted = (predictedNext p s).1 ∧ u.dryer.state = .tripped
  further : (predictedNext p s).2 = true → s.dryer.state = .tripped → u.web = s.web ∧ u.cmds = s.cmds
  trip : (predictedNext p s).2 = true → s.dryer.state ≠ .tripped → u.cmds = clearReleased s.cmds
    ∧ u.web = if s.dryer.state.burning = true ∧ s.web.record ≠ none then withoutRecord s.web else s.web

theorem setDryer_tripped_web (s : State) : (setDryer .tripped s).web =
    if s.dryer.state.burning = true ∧ s.web.record ≠ none then withoutRecord s.web else s.web := by
  by_cases hb : s.dryer.state.burning = true
  · cases hr : s.web.record with
    | none => rw [setDryer_tripped_plain (.inr hr), if_neg (by simp)]
    | some x => rw [setDryer_tripped_discard hb hr, if_pos ⟨hb, by simp⟩]; simp
  · rw [setDryer_tripped_plain (.inl (by simpa using hb)), if_neg (by simp [hb])]

theorem judgePredicted_predicts (p : SolvPub) (s : State) : Predicts p s (judgePredicted p s) := by
  rw [judgePredicted_eq]
  cases hnew : (predictedNext p s).2 with
  | false => exact ⟨fun _ => ⟨rfl, rfl, rfl⟩, fun h => by simp [hnew] at h, fun h => by simp [hnew] at h,
      fun h => by simp [hnew] at h⟩
  | true =>
    refine ⟨fun h => by simp [hnew] at h, fun _ => ⟨?_, onset_tripped _ _ _ _⟩, fun _ ht => ?_, fun _ ht => ⟨?_, ?_⟩⟩
    · rw [if_pos rfl, (onset_conditions ..).2.1]
      rfl
    · rw [if_pos rfl, onset_of_tripped (s := withPredicted (predictedNext p s).1 s) _ _ _ ht]
      simp [withPredicted]
    · rw [if_pos rfl, onset_cmds]
      exact if_neg ht
    · rw [if_pos rfl, onset_web (s := withPredicted (predictedNext p s).1 s) _ _ _ ht, setDryer_tripped_web]
      rfl

theorem predictedNext_of_eq {s' : State} (hcomm : s'.comm = s.comm) (heff : s'.solv.eff = s.solv.eff)
    (hd : s'.dryer = s.dryer) : predictedNext p s' = predictedNext p s := by
  simp only [predictedNext, State.confirmCount, State.scalars?, hcomm, heff, hd]

/-- The announcement reads the dryer, the web, the Command Table, the record in force and the effective parameters. -/
theorem Predicts.of_eq (h : Predicts p s u) {s' u' : State} (hcomm : s'.comm = s.comm) (heff : s'.solv.eff = s.solv.eff)
    (hd : s'.dryer = s.dryer) (hw : s'.web = s.web) (hc : s'.cmds = s.cmds)
    (hd' : u'.dryer = u.dryer) (hw' : u'.web = u.web) (hc' : u'.cmds = u.cmds) : Predicts p s' u' := by
  have hnext := predictedNext_of_eq (p := p) hcomm heff hd
  constructor <;> simp only [hnext, hd, hw, hc, hd', hw', hc']
  · exact h.quiet
  · exact h.onset
  · exact h.further
  · exact h.trip

theorem judgePredicted_adds (p : SolvPub) (s : State) : Adds 2 s (judgePredicted p s) := by
  rw [judgePredicted_eq]
  split
  · exact .same (by rfl) (onset_adds _ _ _ _).1
  · exact .of_log rfl

theorem judgePredicted_offers (hnew : (predictedNext p s).2 = true) (hp : p.predicted = some v)
    (hroom : s.log.queue.length ≤ 30) : ∃ i ∈ (judgePredicted p s).log.queue,
      i.code = .lelPredictedHigh ∧ i.subject = .none ∧ i.value = .num (v : Int) := by
  rw [judgePredicted_eq, if_pos hnew, hp]
  exact (onset_adds .lelPredictedHigh .none (some (v : Int)) (withPredicted (predictedNext p s).1 s)).2
    (by show s.log.queue.length + 2 ≤ 32; omega)

/-! ## The two orders of the reactions (R160) -/

/-- The queue after at most two records more. -/
theorem Adds.room (h : Adds 2 s t) (hs : s.log.queue.length ≤ 28) : t.log.queue.length ≤ 30 := by
  obtain ⟨l, hl, hlen⟩ := h (by omega)
  rw [hl, List.length_append]
  omega

/-- The unit at the end of an evaluation, before its judgements. -/
def published (p : SolvPub) (s : State) : State :=
  { s with
    choices := s.choices + 1
    solv := { s.solv with job := none, pendingCycles := 0, publication := some p } }

/-- What the end of an evaluation makes of the part. -/
structure Publishes (q : Nat) (p : SolvPub) (s u : State) : Prop where
  solv : u.solv = judgedUnit q p (published p s).solv
  predicts : Predicts p s u
  rest : u = { s with
    choices := s.choices + 1, solv := u.solv, dryer := u.dryer, log := u.log, web := u.web, cmds := u.cmds }
  roles : u.cmds.entries.map Prod.fst = s.cmds.entries.map Prod.fst
  limited : s.log.queue.length ≤ 28 → p.line = .online → q < p.floor → s.solv.limited = false →
    ∃ i ∈ u.log.queue, i.code = .dryerLimited ∧ i.subject = .none ∧ i.value = .num (p.floor : Int)
  mismatch : s.log.queue.length ≤ 28 → (mismatchNext p (mismatchCell s)).2 = true → s.solv.mismatch = false →
    ∃ i ∈ u.log.queue, i.code = .solventMismatch ∧ i.subject = .none ∧ i.value = .num (mismatchBy p)
  predicted : s.log.queue.length ≤ 28 → (predictedNext p s).2 = true → ∀ v, p.predicted = some v →
    ∃ i ∈ u.log.queue, i.code = .lelPredictedHigh ∧ i.subject = .none ∧ i.value = .num (v : Int)

/-- The Dryer Safety Unit's reaction first. -/
theorem publishes_dryerFirst (q : Nat) (p : SolvPub) (s : State) :
    Publishes q p s (judgePublication q p (judgePredicted p (published p s))) where
  solv := by rw [judgePublication_solv]; simp
  predicts := (judgePredicted_predicts p (published p s)).of_eq rfl rfl rfl rfl rfl (by simp) (by simp) (by simp)
  rest := by refine State.eq_of_blocks ?_ ?_ ?_ ?_ ?_ ?_ ?_ ?_ ?_ ?_ ?_ ?_ ?_ ?_ ?_ ?_ <;> simp [published]
  roles := by
    simp only [judgePublication_frame]
    exact roles_of_aside (judgePredicted_aside p (published p s))
  limited hroom hl hq hf := by
    have hmid := (judgePredicted_adds p (published p s)).room (by exact hroom)
    exact (judgePublication_offers q p _ hmid).1 hl hq (by simpa [published] using hf)
  mismatch hroom hnew hf := by
    have hmid := (judgePredicted_adds p (published p s)).room (by exact hroom)
    exact (judgePublication_offers q p _ hmid).2
      (by simpa [published, mismatchCell] using hnew) (by simpa [published] using hf)
  predicted hroom hnew v hv := by
    obtain ⟨i, hi, hcode⟩ := judgePredicted_offers (s := published p s) hnew hv (by show s.log.queue.length ≤ 30; omega)
    have hmid := (judgePredicted_adds p (published p s)).room (by exact hroom)
    exact ⟨i, (judgePublication_adds q p _).mem (by omega) hi, hcode⟩

/-- The unit's own judgements first. -/
theorem publishes_dryerLast (q : Nat) (p : SolvPub) (s : State) :
    Publishes q p s (judgePredicted p (judgePublication q p (published p s))) where
  solv := by
    rw [← judgePublication_solv]
    simp
  predicts := (judgePredicted_predicts p (judgePublication q p (published p s))).of_eq (by simp [published])
    (by rw [judgePublication_solv]; rfl) (by simp [published]) (by simp [published]) (by simp [published]) rfl rfl rfl
  rest := by refine State.eq_of_blocks ?_ ?_ ?_ ?_ ?_ ?_ ?_ ?_ ?_ ?_ ?_ ?_ ?_ ?_ ?_ ?_ <;> simp [published]
  roles := by
    rw [roles_of_aside (judgePredicted_aside p _)]
    simp [published]
  limited hroom hl hq hf := by
    have hmid := (judgePublication_adds q p (published p s)).room (by exact hroom)
    obtain ⟨i, hi, hcode⟩ := (judgePublication_offers q p (published p s) (by show s.log.queue.length ≤ 30; omega)).1
      hl hq hf
    exact ⟨i, (judgePredicted_adds p _).mem (by omega) hi, hcode⟩
  mismatch hroom hnew hf := by
    have hmid := (judgePublication_adds q p (published p s)).room (by exact hroom)
    obtain ⟨i, hi, hcode⟩ := (judgePublication_offers q p (published p s) (by show s.log.queue.length ≤ 30; omega)).2
      hnew hf
    exact ⟨i, (judgePredicted_adds p _).mem (by omega) hi, hcode⟩
  predicted hroom hnew v hv := by
    have hmid := (judgePublication_adds q p (published p s)).room (by exact hroom)
    have hnext : predictedNext p (judgePublication q p (published p s)) = predictedNext p s :=
      predictedNext_of_eq (by simp [published]) (by rw [judgePublication_solv]; rfl) (by simp [published])
    exact judgePredicted_offers (by rw [hnext, hnew]) hv hmid

/-- The end of an evaluation, in either order. -/
theorem solventEvaluationComplete_publishes (n : Nat) (hj : s.solv.job = some j) :
    Publishes j.qCap (solvResult j s.solv.pendingCycles s.sched.publication) s (solventEvaluationComplete n s) := by
  unfold solventEvaluationComplete publishSolvent
  simp only [takeChoice, hj]
  split
  · exact publishes_dryerFirst ..
  · exact publishes_dryerLast ..

/-! ## What follows from them -/

/-- A publication that leaves the dryer's state leaves the web and the Command Table. -/
theorem Predicts.state_kept (h : Predicts p s u) (hs : u.dryer.state = s.dryer.state) :
    u.web = s.web ∧ u.cmds = s.cmds := by
  cases hnew : (predictedNext p s).2 with
  | false => exact (h.quiet hnew).2
  | true => exact h.further hnew (hs ▸ (h.onset hnew).2)

/-- One that moves it trips. -/
theorem Predicts.state_moved (h : Predicts p s u) (hs : u.dryer.state ≠ s.dryer.state) :
    u.dryer.state = .tripped ∧ u.cmds = clearReleased s.cmds
      ∧ u.web = if s.dryer.state.burning = true ∧ s.web.record ≠ none then withoutRecord s.web else s.web := by
  cases hnew : (predictedNext p s).2 with
  | false => exact absurd (congrArg DryerUnit.state (h.quiet hnew).1) hs
  | true =>
    have htripped := (h.onset hnew).2
    exact ⟨htripped, h.trip hnew fun ht => hs (htripped.trans ht.symm)⟩

theorem confirm_below {limit k : Nat} {c : Cond} (h : min 50 (c.count + k) < limit ∨ c.active = true) :
    confirm limit k c = ({ c with count := min 50 (c.count + k) }, false) := by
  refine if_neg fun hn => ?_
  obtain h | h := h
  · exact absurd hn.1 (Nat.not_le.2 h)
  · rw [h] at hn; exact nomatch hn.2

theorem confirm_onset {limit k : Nat} {c : Cond} (h : limit ≤ min 50 (c.count + k)) (ha : c.active = false) :
    confirm limit k c = (⟨true, min 50 (c.count + k)⟩, true) := if_pos ⟨h, ha⟩

theorem countBucket_eq (v : Nat) (g : Histogram) : countBucket v g =
    { b1 := if v < 100 then min 4294967295 (g.b1 + 1) else g.b1
      b2 := if 100 ≤ v ∧ v < 200 then min 4294967295 (g.b2 + 1) else g.b2
      b3 := if 200 ≤ v ∧ v < 250 then min 4294967295 (g.b3 + 1) else g.b3
      b4 := if 250 ≤ v ∧ v < 300 then min 4294967295 (g.b4 + 1) else g.b4
      b5 := if 300 ≤ v ∧ v < 400 then min 4294967295 (g.b5 + 1) else g.b5
      b6 := if 400 ≤ v then min 4294967295 (g.b6 + 1) else g.b6 } := by
  unfold countBucket
  by_cases h1 : v < 100
  · rw [if_pos h1, if_pos h1, if_neg (by omega), if_neg (by omega), if_neg (by omega), if_neg (by omega), if_neg (by omega)]
    rfl
  rw [if_neg h1]
  by_cases h2 : v < 200
  · rw [if_pos h2, if_neg h1, if_pos (by omega), if_neg (by omega), if_neg (by omega), if_neg (by omega), if_neg (by omega)]
    rfl
  rw [if_neg h2]
  by_cases h3 : v < 250
  · rw [if_pos h3, if_neg h1, if_neg (by omega), if_pos (by omega), if_neg (by omega), if_neg (by omega), if_neg (by omega)]
    rfl
  rw [if_neg h3]
  by_cases h4 : v < 300
  · rw [if_pos h4, if_neg h1, if_neg (by omega), if_neg (by omega), if_pos (by omega), if_neg (by omega), if_neg (by omega)]
    rfl
  rw [if_neg h4]
  by_cases h5 : v < 400
  · rw [if_pos h5, if_neg h1, if_neg (by omega), if_neg (by omega), if_neg (by omega), if_pos (by omega), if_neg (by omega)]
    rfl
  rw [if_neg h5]
  rw [if_neg h1, if_neg (by omega), if_neg (by omega), if_neg (by omega), if_neg (by omega), if_pos (by omega)]
  rfl

end Sys2Proof.Machine
end

section
/-! PROOF. The Solvent Unit at a refresh: the start of an evaluation and ANALYZER_DISAGREE (R75, R76, R89); and O49. -/

namespace Sys2Proof.Machine

open Sys2Proof Sys2Proof.Machine

variable {s t u : State} {r : Refresh} {j : SolvJob} {n q v : Nat} {p : SolvPub} {e : EffParams}

/-! ## A refresh -/

/-- The inputs stand as at the refresh; ANALYZER_DISAGREE and the effective parameters are judged first (R75). -/
theorem solventReaction_eq (r : Refresh) (s : State) : solventReaction r s =
    startSolvent r (if judged r s = true then judgeDisagree (formParams s) else formParams s) := rfl

/-- The part with the effective parameters formed, ANALYZER_DISAGREE judged. -/
def disagreeJudged (r : Refresh) (s : State) : State :=
  if judged r s = true then judgeDisagree (formParams s) else formParams s

theorem startSolvent_idle (h : activeBank s.banks = none) : startSolvent r s = { s with solv.job := none } := by
  unfold startSolvent
  rw [h]

theorem startSolvent_running {b : BankNo} {c : Scalars} (hb : activeBank s.banks = some b) (hc : s.scalars? = some c)
    (he : s.solv.eff = some e) : startSolvent r s = { s with
      solv.job := some (solvInputs b c e r s), solv.pendingCycles := satAdd 65535 s.solv.pendingCycles r.step } := by
  unfold startSolvent
  rw [hb, hc, he]

theorem judgeDisagree_lost (h : s.board.quality (.lel 0) = .lost ∨ s.board.quality (.lel 1) = .lost) :
    judgeDisagree s = { s with solv.disagree := false } := by
  unfold judgeDisagree
  obtain h | h := h <;> rw [h]
  cases s.board.quality (.lel 0) <;> rfl

theorem judgeDisagree_held (h0 : s.board.quality (.lel 0) ≠ .lost) (h1 : s.board.quality (.lel 1) ≠ .lost)
    (h : s.board.quality (.lel 0) = .held ∨ s.board.quality (.lel 1) = .held) : judgeDisagree s = s := by
  unfold judgeDisagree
  split <;> simp_all

/-- Two GOOD records are compared. -/
theorem judgeDisagree_good {a b : Int} (h0 : s.board.fresh (.lel 0) = some a) (h1 : s.board.fresh (.lel 1) = some b) :
    judgeDisagree s = if 50 < (a - b).natAbs then
        if s.solv.disagree then s else offer .analyzerDisagree .none (.num (a - b)) { s with solv.disagree := true }
      else { s with solv.disagree := false } := by
  unfold judgeDisagree
  rw [Board.quality_of_fresh h0, Board.quality_of_fresh h1, h0, h1]

/-- The judgement moves the flag and the log alone. -/
theorem judgeDisagree_moves (s : State) : { (judgeDisagree s) with solv.disagree := s.solv.disagree, log := s.log } = s := by
  unfold judgeDisagree
  repeat' split
  all_goals first | rfl | (rw [offer_eq_log])

/-- The effective parameters after a refresh (R74). -/
def formedEff (s : State) : Option EffParams :=
  s.scalars?.map fun c => effectiveParams c s.agent.overrides s.board.mode

theorem disagreeJudged_rest (r : Refresh) (s : State) : disagreeJudged r s = { s with
    solv := { s.solv with eff := formedEff s, disagree := (disagreeJudged r s).solv.disagree }
    log := (disagreeJudged r s).log } := by
  unfold disagreeJudged
  split
  · have h := judgeDisagree_moves (formParams s)
    have hback := congrArg (fun w : State => ({ w with
      solv.disagree := (judgeDisagree (formParams s)).solv.disagree, log := (judgeDisagree (formParams s)).log } : State)) h
    exact hback
  · rfl

/-- The evaluation after a refresh, in terms of the state the refresh found (R75, R76). -/
theorem solventReaction_start (r : Refresh) (s : State) : solventReaction r s = { disagreeJudged r s with
    solv.job := (solventReaction r s).solv.job
    solv.pendingCycles := (solventReaction r s).solv.pendingCycles } := by
  rw [solventReaction_eq, ← disagreeJudged]
  unfold startSolvent
  split <;> rfl

theorem solventReaction_idle (h : activeBank s.banks = none) :
    (solventReaction r s).solv.job = none ∧ (solventReaction r s).solv.pendingCycles = s.solv.pendingCycles := by
  have hrest := disagreeJudged_rest r s
  rw [solventReaction_eq, ← disagreeJudged, hrest, startSolvent_idle (by exact h)]
  exact ⟨rfl, rfl⟩

theorem solventReaction_running {b : BankNo} {c : Scalars} (hb : activeBank s.banks = some b)
    (hc : s.scalars? = some c) : (solventReaction r s).solv.job =
        some (solvInputs b c (effectiveParams c s.agent.overrides s.board.mode) r s)
      ∧ (solventReaction r s).solv.pendingCycles = min 65535 (s.solv.pendingCycles + r.step) := by
  have hrest := disagreeJudged_rest r s
  have heff : formedEff s = some (effectiveParams c s.agent.overrides s.board.mode) := by rw [formedEff, hc]; rfl
  rw [solventReaction_eq, ← disagreeJudged, hrest, startSolvent_running (by exact hb) (by exact hc) (by exact heff)]
  exact ⟨rfl, rfl⟩

theorem coverageWith_recipe (x : Recipe) {b : Board} (h : b.fresh .liveCoverage = none) :
    coverageWith x b = x.films.sum := by
  simp only [coverageWith, natOf_none h]
  rfl

theorem coverageWith_live (x : Recipe) {b : Board} {v : Int} (h : b.fresh .liveCoverage = some v) :
    coverageWith x b = max x.films.sum v.toNat := by
  simp only [coverageWith, natOf_some h]
  rfl

/-- ANALYZER_DISAGREE and the log after a refresh are those of the judgement. -/
theorem solventReaction_judged (r : Refresh) (s : State) :
    (solventReaction r s).solv.disagree = (disagreeJudged r s).solv.disagree
      ∧ (solventReaction r s).log = (disagreeJudged r s).log := by
  rw [solventReaction_start]
  exact ⟨rfl, rfl⟩

/-! ## The end of an evaluation, judgement by judgement -/

namespace Publishes
variable {g : Histogram} (h : Publishes q p s u)
include h

theorem limited_offline (hl : p.line ≠ .online) : u.solv.limited = s.solv.limited ∧ u.solv.mismatch = s.solv.mismatch
    ∧ u.solv.mismatchCount = s.solv.mismatchCount := by
  rw [h.solv]
  simp only [judgedUnit, mismatchNext_offline hl]
  exact ⟨if_neg hl, rfl, rfl⟩

theorem limited_online (hl : p.line = .online) : u.solv.limited = decide (q < p.floor) := by
  rw [h.solv]
  exact if_pos hl

theorem mismatch_eq : (u.solv.mismatchCount, u.solv.mismatch) = mismatchNext p (mismatchCell s) := by
  rw [h.solv]
  rfl

theorem mismatch_still (hl : p.line = .online) (hs : p.web ≠ .running ∨ p.mode = .unmonitored) :
    u.solv.mismatchCount = 0 ∧ u.solv.mismatch = false := by
  refine Prod.ext_iff.1 (h.mismatch_eq.trans (mismatchNext_still hl (fun m hweb hmode _ => ?_) _))
  obtain hs | hs := hs
  · exact hs hweb
  · rw [hs] at hmode; exact nomatch hmode

/-- The count and the flag of SOLVENT_MISMATCH while it is judged (R88). -/
theorem mismatch_judged {m : Nat} (hl : p.line = .online) (hweb : p.web = .running) (hmode : p.mode = .monitored)
    (hlel : p.lel = some m) :
    (p.predicted = none → u.solv.mismatchCount = 0 ∧ u.solv.mismatch = s.solv.mismatch)
    ∧ ∀ q, p.predicted = some q →
      (m ≤ q + 100 → u.solv.mismatchCount = 0 ∧ u.solv.mismatch = false)
      ∧ (q + 100 < m → ∀ n, n = min 50 (s.solv.mismatchCount + p.covered) →
        u.solv.mismatchCount = n ∧ u.solv.mismatch = (s.solv.mismatch || decide (50 ≤ n))
        ∧ (50 ≤ n → s.solv.mismatch = false → s.log.queue.length ≤ 28 →
            ∃ i ∈ u.log.queue, i.code = .solventMismatch ∧ i.subject = .none
              ∧ i.value = .num ((m : Int) - (q : Int)))) := by
  refine ⟨fun hp => Prod.ext_iff.1 (h.mismatch_eq.trans (mismatchNext_blind hl hweb hmode hlel hp _)), fun q hp => ?_⟩
  have hnext := mismatchNext_predicted hl hweb hmode hlel hp (mismatchCell s)
  refine ⟨fun hd => Prod.ext_iff.1 (h.mismatch_eq.trans (hnext.trans (if_pos hd))), fun hd n hn => ?_⟩
  rw [if_neg (by omega)] at hnext
  obtain ⟨hcount, hflag⟩ := Prod.ext_iff.1 (h.mismatch_eq.trans hnext)
  refine ⟨hcount.trans hn.symm, hflag.trans (by rw [hn]; rfl), fun h50 hf hroom => ?_⟩
  have hby : mismatchBy p = (m : Int) - (q : Int) := by rw [mismatchBy, hlel, hp]; rfl
  rw [← hby]
  refine h.mismatch hroom ?_ hf
  rw [hnext]
  show (s.solv.mismatch || decide (50 ≤ min 50 (s.solv.mismatchCount + p.covered))) = true
  rw [← hn, decide_eq_true h50, Bool.or_true]

theorem histogram_still (hs : p.web ≠ .running ∨ p.predicted = none) : u.solv.histogram = s.solv.histogram := by
  rw [h.solv]
  show histogramNext p s.solv.histogram = s.solv.histogram
  unfold histogramNext
  obtain hs | hs := hs
  · split
    · exact absurd ‹p.web = .running› hs
    · rfl
  · rw [hs]
    cases p.web <;> rfl

theorem histogram_running (hw : p.web = .running) (hp : p.predicted = some v) :
    u.solv.histogram = countBucket v s.solv.histogram := by
  rw [h.solv]
  show histogramNext p s.solv.histogram = _
  rw [histogramNext, hw, hp]

/-- LEL_PREDICTED_HIGH while it is judged (R121). -/
theorem predicted_judged {c : Scalars} (h1 : p.web ≠ .stopped) (h2 : p.web ≠ .break) (hp : p.predicted = some v)
    (he : s.solv.eff = some e) (hc : s.scalars? = some c) :
    (v < e.trip → u.dryer = { s.dryer with lelPredicted := ⟨false, 0⟩ })
    ∧ (e.trip ≤ v → ∀ n, n = min 50 (s.dryer.lelPredicted.count + p.covered) →
      (n < c.confirm ∨ s.dryer.lelPredicted.active = true →
        u.dryer = { s.dryer with lelPredicted := { s.dryer.lelPredicted with count := n } })
      ∧ (c.confirm ≤ n → s.dryer.lelPredicted.active = false →
        u.dryer.lelPredicted = ⟨true, n⟩ ∧ u.dryer.state = .tripped
        ∧ (s.log.queue.length ≤ 28 → ∃ i ∈ u.log.queue, i.code = .lelPredictedHigh
            ∧ i.subject = .none ∧ i.value = .num (v : Int)))) := by
  have hnext := predictedNext_judged h1 h2 hp he
  have hcount : s.confirmCount = c.confirm := by simp only [State.confirmCount, hc]
  rw [hcount] at hnext
  refine ⟨fun hlow => ?_, fun htrip n hn => ?_⟩
  · rw [if_neg (by omega)] at hnext
    rw [(h.predicts.quiet (by rw [hnext])).1, hnext]
    rfl
  · rw [if_pos htrip] at hnext
    subst hn
    refine ⟨fun hb => ?_, fun hconf hact => ?_⟩
    · rw [confirm_below hb] at hnext
      rw [(h.predicts.quiet (by rw [hnext])).1, hnext]
    · rw [confirm_onset hconf hact] at hnext
      obtain ⟨hcond, hstate⟩ := h.predicts.onset (by rw [hnext])
      exact ⟨hcond.trans (by rw [hnext]), hstate, fun hroom => h.predicted hroom (by rw [hnext]) v hp⟩

end Publishes

/-! ## The figures, read off the inputs -/

/-- A combined ceiling without an exhaust flow is 0 (R83). -/
theorem combined_noFlow {pub : Option SchedPub} (hf : j.flow = none) (hc : j.coverage ≠ 0) :
    (solvResult j n pub).combined = 0 := by
  have hle := (combined_least j n pub).1
  have hzero : (solvResult j n pub).solventCeiling = 0 := solventCeiling_noFlow hc (.inl hf) ..
  omega

/-- A zone of the standing publication bounds the combined ceiling. -/
theorem combined_le_zone {pub : SchedPub} {k : Zone} (hk : k.val < j.zones) (hv : pub.ceiling.get k = some v) :
    (solvResult j n (some pub)).combined ≤ v := by
  have hle := (combined_least j n (some pub)).2.2.2.1 k hk
  rw [show zoneCeiling (some pub) j.thread k = v by simp [zoneCeiling, hv]] at hle
  exact hle

/-- Settles O49: the figures, then what the judgements in either order make of every block, and the refresh. -/
theorem solventCompletes : Obligations.SolventCompletes := by
  unfold Obligations.SolventCompletes
  refine ⟨fun s j thermal hj hthermal => ?_, fun r s t ht => ?_⟩
  · obtain rfl : thermal = zoneCeiling s.sched.publication j.thread := by
      funext k
      rw [hthermal k]
      cases s.sched.publication <;> rfl
    obtain ⟨p, hp⟩ : ∃ p, p = solvResult j s.solv.pendingCycles s.sched.publication := ⟨_, rfl⟩
    obtain ⟨u, hu⟩ : ∃ u, u = solventEvaluationComplete (Config.reactionOrder s.choices) s := ⟨_, rfl⟩
    have hpub : Publishes j.qCap p s u := by rw [hu, hp]; exact solventEvaluationComplete_publishes _ hj
    obtain ⟨hsolvent, hmeasured, htop, hthermal, hleast⟩ :=
      combined_least j s.solv.pendingCycles s.sched.publication
    rw [← hp] at hsolvent hmeasured htop hthermal hleast
    have hflow : p.predicted = predictedLel p.rate j.lg j.flow := by rw [hp]; rfl
    have hceiling : p.solventCeiling = solventCeiling j.flow j.coverage j.width j.evap j.lg j.eff.fEff := by rw [hp]; rfl
    have hlel : p.measuredCeiling = measuredCeiling j.web j.mode j.lel j.speed j.eff.fEff := by rw [hp]; rfl
    have hframe := solventEvaluationComplete_frame s (Config.reactionOrder s.choices)
    rw [← hu] at hframe
    obtain ⟨-, -, -, hpins, hline, hcomm, hboard, hbanks, hsched, hagent⟩ := hframe
    refine ⟨u, p, by rw [hu]; rfl, by rw [hpub.solv]; rfl, by rw [hpub.solv]; rfl, by rw [hpub.solv]; rfl,
      by rw [hpub.solv]; rfl, by rw [hp]; rfl, by rw [hp]; rfl, by rw [hp]; rfl, by rw [hp]; rfl, by rw [hp]; rfl,
      by rw [hp]; rfl, by rw [hp]; rfl, by rw [hp]; rfl, by rw [hp]; rfl, by rw [hp]; rfl, by rw [hp]; rfl,
      by rw [hp]; rfl, by rw [hp]; rfl, by rw [hp]; rfl, fun h => ?_, fun q h hq => ?_, fun h => ?_,
      by rw [hp]; rfl, ?_, fun h => ?_, fun hc h => ?_, fun q hc h _ => ?_, fun h => ?_, fun m hw hm hl h0 => ?_,
      ?_, hsolvent, hmeasured, htop, fun q k v hq hk hv => ?_, hthermal, hleast, fun hf hc => ?_,
      hboard, hbanks, hsched, hline, hcomm, hagent, hpins, hpub.roles, hpub.rest, by rw [hpub.solv]; rfl,
      hpub.predicts.state_kept, fun hmove => ?_, hpub.limited_offline, fun hl => ⟨hpub.limited_online hl,
        hpub.mismatch_still hl, fun m => hpub.mismatch_judged hl⟩, fun hl hq hf hroom => hpub.limited hroom hl hq hf,
      hpub.histogram_still, fun v g hw hv hg => ?_, fun hw => ?_, fun h1 h2 => ⟨fun hnone => ?_,
        fun v e c hv he hc => hpub.predicted_judged h1 h2 hv he hc⟩⟩
    · rw [hflow, h]; rfl
    · rw [hflow, h, predictedLel_pos hq]
    · rw [hflow, h, predictedLel_still]
    · rw [hp]; exact exhaustFloor_eq ..
    · rw [hceiling, h, solventCeiling_dry]
    · rw [hceiling, solventCeiling_noFlow hc h]
    · rw [hceiling, h, solventCeiling_flow hc]
    · rw [hlel, measuredCeiling_idle h]
    · rw [hlel, hw, hm, hl, measuredCeiling_running h0]
    · rw [hp]
      show ceilingSource s.sched.publication j.thread = _
      cases s.sched.publication <;> rfl
    · rw [hp, hq]
      exact combined_le_zone hk hv
    · rw [hp]
      exact combined_noFlow hf hc
    · obtain ⟨htripped, hcmds, hweb⟩ := hpub.predicts.state_moved hmove
      refine ⟨htripped, hcmds, fun h => ?_, fun hb hr => ?_⟩
      · rw [hweb, if_neg]
        rintro ⟨hb, hr⟩
        obtain h | h := h
        · rw [hb] at h; exact nomatch h
        · exact hr h
      · rw [hweb, if_pos ⟨hb, hr⟩]
        rfl
    · rw [hpub.histogram_running hw hv, countBucket_eq, hg]
    · have hstill := predictedNext_still hw s
      rw [(hpub.predicts.quiet (by rw [hstill])).1, hstill]
      rfl
    · have hblind := predictedNext_blind h1 h2 hnone s
      rw [(hpub.predicts.quiet (by rw [hblind])).1, hblind]
  · obtain ⟨hdisagree, hlog⟩ := solventReaction_judged r s
    have hreact : t = solventReaction r s := ht
    rw [← hreact] at hdisagree hlog
    have hrest := disagreeJudged_rest r s
    refine ⟨?_, ?_, fun hnone => ?_, fun b c x hb hc hx => ?_, fun hoff => ?_, fun hon => ⟨fun h => ?_, fun h0 h1 h => ?_,
      fun a b ha hb => ?_⟩⟩
    · rw [hreact, solventReaction_start, hrest]
    · rw [hreact, solventReaction_start, hrest]
      rfl
    · rw [hreact]; exact solventReaction_idle hnone
    · obtain ⟨hjob, hcycles⟩ := solventReaction_running (r := r) hb hc
      rw [← hreact] at hjob hcycles
      refine ⟨hcycles, coverageWith x s.board, ?_, coverageWith_recipe x, fun v => coverageWith_live x⟩
      rw [hjob, hx]
      rfl
    · have hw : disagreeJudged r s = formParams s := if_neg (by rw [hoff]; exact nofun)
      rw [hdisagree, hlog, hw]
      exact ⟨rfl, rfl⟩
    · have hw : disagreeJudged r s = { formParams s with solv.disagree := false } :=
        (if_pos hon).trans (judgeDisagree_lost (by exact h))
      rw [hdisagree, hlog, hw]
      exact ⟨rfl, rfl⟩
    · have hw : disagreeJudged r s = formParams s :=
        (if_pos hon).trans (judgeDisagree_held (by exact h0) (by exact h1) (by exact h))
      rw [hdisagree, hlog, hw]
      exact ⟨rfl, rfl⟩
    · have hw : disagreeJudged r s = _ := (if_pos hon).trans (judgeDisagree_good (by exact ha) (by exact hb))
      refine ⟨fun hle => ?_, fun hgt => ?_⟩
      · rw [hdisagree, hlog, hw, if_neg (by omega)]
        exact ⟨rfl, rfl⟩
      · have hflag : (formParams s).solv.disagree = s.solv.disagree := rfl
        rw [hdisagree, hlog, hw, if_pos hgt, hflag]
        cases hd : s.solv.disagree with
        | true => exact ⟨hd, rfl⟩
        | false =>
          rw [if_neg (by decide), if_neg (by decide)]
          exact ⟨by simp, offer_log_congr _ _ _ rfl rfl rfl rfl rfl rfl⟩

end Sys2Proof.Machine
end

section
/-! PROOF. The completion of a STORE in every block (R55, R97, R136, R185); and O21. -/

namespace Sys2Proof.Machine

open Sys2Proof Sys2Proof.Machine

variable {s t u : State} {w : CommRecord} {k : Zone}

/-! ## The working copy comes into force -/

/-- The part with the working copy stored and in force, before any block takes notice. -/
def forced (s : State) : State :=
  { s with
    comm := ⟨some s.comm.working, some s.comm.working, s.comm.working⟩
    agent.storeRunning := false }

/-- Whether the counts of zones and circuits in force are those of the working copy (R55). -/
def SameCounts (s : State) : Prop :=
  s.comm.working.scalars.zones = s.zoneCount ∧ s.comm.working.scalars.circuits = s.circuitCount

theorem bringIntoForce_same (h : SameCounts s) : bringIntoForce s = forced s := if_pos h

theorem bringIntoForce_changed (h : ¬ SameCounts s) : bringIntoForce s = demoteAll (forced s) := if_neg h

theorem bringIntoForce_comm (s : State) :
    (bringIntoForce s).comm = ⟨some s.comm.working, some s.comm.working, s.comm.working⟩
      ∧ (bringIntoForce s).agent = { s.agent with storeRunning := false } := by
  by_cases h : SameCounts s
  · rw [bringIntoForce_same h]; exact ⟨rfl, rfl⟩
  · rw [bringIntoForce_changed h]; simp [forced]

/-! ## The blocks -/

/-- The part when every block has taken the new record, before ALERT is judged. -/
def storeTaken (s : State) : State :=
  formParams (flamesAtStore (webAtStore s.scalars? s.comm.working.scalars
    (commandsAtStore (boardAtStore (bringIntoForce s)))))

theorem storeCompletion_eq (s : State) :
    storeCompletion s = offer .storeFinished .none .written (judgeAlert (storeTaken s)) := rfl

/-- After ALERT and the report every block is as it was taken, but for the log. -/
theorem storeCompletion_blocks (s : State) : (storeCompletion s).now = (storeTaken s).now
    ∧ (storeCompletion s).choices = (storeTaken s).choices ∧ (storeCompletion s).phase = (storeTaken s).phase
    ∧ (storeCompletion s).pins = (storeTaken s).pins ∧ (storeCompletion s).line = (storeTaken s).line
    ∧ (storeCompletion s).comm = (storeTaken s).comm ∧ (storeCompletion s).board = (storeTaken s).board
    ∧ (storeCompletion s).banks = (storeTaken s).banks ∧ (storeCompletion s).sched = (storeTaken s).sched
    ∧ (storeCompletion s).solv = (storeTaken s).solv ∧ (storeCompletion s).web = (storeTaken s).web
    ∧ (storeCompletion s).dryer = (storeTaken s).dryer ∧ (storeCompletion s).cmds = (storeTaken s).cmds
    ∧ (storeCompletion s).agent = (storeTaken s).agent := by
  simp [storeCompletion_eq]

theorem storeTaken_frame (s : State) : (storeTaken s).pending = s.pending ∧ (storeTaken s).now = s.now
    ∧ (storeTaken s).choices = s.choices ∧ (storeTaken s).phase = s.phase ∧ (storeTaken s).pins = s.pins
    ∧ (storeTaken s).line = s.line ∧ (storeTaken s).log = s.log := by
  simp [storeTaken, formParams]

theorem storeTaken_comm (s : State) :
    (storeTaken s).comm = ⟨some s.comm.working, some s.comm.working, s.comm.working⟩
      ∧ (storeTaken s).agent = { s.agent with storeRunning := false } := by
  simpa [storeTaken, formParams] using bringIntoForce_comm s

theorem storeTaken_units (s : State) : (storeTaken s).banks = (bringIntoForce s).banks
    ∧ (storeTaken s).sched = (bringIntoForce s).sched
    ∧ (storeTaken s).solv = { (bringIntoForce s).solv with eff := (storeTaken s).solv.eff } := by
  simp [storeTaken, formParams]

theorem storeTaken_eff (s : State) : (storeTaken s).solv.eff =
    some (effectiveParams s.comm.working.scalars s.agent.overrides s.board.mode) := by
  obtain ⟨hcomm, hagent⟩ := bringIntoForce_comm s
  simp [storeTaken, formParams, State.scalars?, hcomm, hagent]

/-! ### Where a count changed (R55, R63, R85) -/

theorem demoteAll_banks (b : BankNo) (s : State) : (demoteAll s).banks.get b = demoteBank (s.banks.get b) := by
  simp [demoteAll]

theorem demoteAll_units (s : State) : (demoteAll s).sched = SchedUnit.afterReset
    ∧ (demoteAll s).solv = { s.solv with
        publication := none, job := none, pendingCycles := 0, mismatchCount := 0
        limited := false, mismatch := false } := ⟨rfl, rfl⟩

/-! ### The board and the Command Table (R31, R136) -/

/-- A list keyed by its own keys is read by a key that stands in it, and by no other. -/
theorem lookupKey_keyed {κ α : Type} [DecidableEq κ] (f : κ → α) (k : κ) (l : List κ) :
    lookupKey k (l.map fun x => (x, f x)) = if k ∈ l then some (f k) else none := by
  induction l with
  | nil => rfl
  | cons x l ih =>
    by_cases h : x = k
    · subst h; simp [lookupKey]
    · simp [lookupKey, h, ih, Ne.symm h]

theorem storeTaken_board (s : State) : (storeTaken s).board =
    { s.board with records := rebuildRecords s.comm.working.map s.board.records } := by
  have hmap : (bringIntoForce s).map = s.comm.working.map := by simp [State.map, bringIntoForce_comm]
  simp [storeTaken, formParams, hmap]

/-- Whether EXHAUST_SP leaves UNRESPONSIVE with the new table (R123). -/
def exhaustLeaves (s : State) : Bool :=
  exhaustStandsUnresponsive s.cmds.entries
    && !exhaustStandsUnresponsive (rebuildEntries s.comm.working.map s.cmds.entries)

theorem exhaustStandsUnresponsive_iff {es : List (Role × CmdEntry)} : exhaustStandsUnresponsive es = true ↔
    ∃ e, lookupKey Role.exhaustSp es = some e ∧ e.responsiveness = .unresponsive := by
  unfold exhaustStandsUnresponsive
  cases lookupKey Role.exhaustSp es <;> simp

theorem commandsAtStore_cmds (s : State) :
    (commandsAtStore s).cmds = { s.cmds with entries := rebuildEntries s.map s.cmds.entries } := by
  unfold commandsAtStore exhaustResponsiveReport
  dsimp only
  split <;> rfl

theorem commandsAtStore_dryer (s : State) : (commandsAtStore s).dryer =
    if exhaustStandsUnresponsive s.cmds.entries && !exhaustStandsUnresponsive (rebuildEntries s.map s.cmds.entries)
    then { s.dryer with exhaustUnresponsive := false } else s.dryer := by
  unfold commandsAtStore exhaustResponsiveReport
  dsimp only
  split <;> rfl

theorem storeTaken_cmds (s : State) : (storeTaken s).cmds =
    { s.cmds with entries := rebuildEntries s.comm.working.map s.cmds.entries } := by
  have hmap : (boardAtStore (bringIntoForce s)).map = s.comm.working.map := by
    simp [State.map, bringIntoForce_comm]
  simp [storeTaken, formParams, commandsAtStore_cmds, hmap]

/-! ### The dryer (R123, R124) -/

theorem storeTaken_exhaust (s : State) : (storeTaken s).dryer.exhaustUnresponsive =
    if exhaustLeaves s then false else s.dryer.exhaustUnresponsive := by
  have hmap : (boardAtStore (bringIntoForce s)).map = s.comm.working.map := by
    simp [State.map, bringIntoForce_comm]
  have hdryer : (storeTaken s).dryer.exhaustUnresponsive =
      (commandsAtStore (boardAtStore (bringIntoForce s))).dryer.exhaustUnresponsive := by
    simp [storeTaken, formParams, flamesAtStore]
  rw [hdryer, commandsAtStore_dryer, hmap]
  unfold exhaustLeaves
  simp only [boardAtStore_cmds, boardAtStore_dryer, bringIntoForce_frame]
  split <;> rfl

/-- The zones whose flame is judged, by the record in force (R124). -/
theorem mem_flameZones_of_comm (h : s.comm.inForce = some w) : k ∈ s.flameZones ↔
    k.val < w.scalars.zones ∧ ∃ e ∈ w.map, e.role = .zoneFlame k ∧ e.kind = .sample := by
  have hscalars : s.scalars? = some w.scalars := by rw [State.scalars?, h]; rfl
  have hcount : s.zoneCount = w.scalars.zones := by simp only [State.zoneCount, hscalars]
  have hmap : s.map = w.map := by simp only [State.map, h]
  rw [State.flameZones, List.mem_filter, State.zones, List.mem_filter, hcount, hmap]
  simp [mem_zoneNumbers, sampleEntry, kind_eq_sample]

theorem storeTaken_flame (k : Zone) (s : State) : (storeTaken s).dryer.flame.get k =
    if k.val < s.comm.working.scalars.zones
        ∧ ∃ e ∈ s.comm.working.map, e.role = .zoneFlame k ∧ e.kind = .sample then s.dryer.flame.get k
    else Cond.clear := by
  have hmem : k ∈ (webAtStore s.scalars? s.comm.working.scalars
      (commandsAtStore (boardAtStore (bringIntoForce s)))).flameZones ↔ k.val < s.comm.working.scalars.zones
        ∧ ∃ e ∈ s.comm.working.map, e.role = .zoneFlame k ∧ e.kind = .sample :=
    mem_flameZones_of_comm (by simp [bringIntoForce_comm])
  have hflame : (commandsAtStore (boardAtStore (bringIntoForce s))).dryer.flame = s.dryer.flame := by
    rw [commandsAtStore_dryer]
    split <;> simp
  simp only [storeTaken, formParams, flamesAtStore, Four.get_ofFn, hmem, webAtStore_frame, hflame]

theorem storeTaken_dryer (s : State) : (storeTaken s).dryer =
    { s.dryer with
      flame := (storeTaken s).dryer.flame
      exhaustUnresponsive := (storeTaken s).dryer.exhaustUnresponsive } := by
  have hdryer : (commandsAtStore (boardAtStore (bringIntoForce s))).dryer = { s.dryer with
      exhaustUnresponsive := (commandsAtStore (boardAtStore (bringIntoForce s))).dryer.exhaustUnresponsive } := by
    rw [commandsAtStore_dryer]
    split <;> simp
  simp only [storeTaken, formParams, flamesAtStore, webAtStore_frame]
  rw [hdryer]

/-! ### The web (R97, R112) -/

theorem storeTaken_web (s : State) : (storeTaken s).web =
    (webAtStore s.scalars? s.comm.working.scalars
      (commandsAtStore (boardAtStore (bringIntoForce s)))).web := rfl

section Web
variable {o n : Scalars}

theorem webAtStore_same (hl : o.pinLevel = n.pinLevel) (hm : o.pinMode = n.pinMode) :
    webAtStore (some o) n s = s := if_pos ⟨hl, hm⟩

theorem webAtStore_changed (h : o.pinLevel ≠ n.pinLevel ∨ o.pinMode ≠ n.pinMode) : webAtStore (some o) n s =
    { s with web := { s.web with latch := false, memPin := false, countDue := false, reference := s.pins.breakIn } } :=
  if_neg fun hn => h.elim (fun h => h hn.1) fun h => h hn.2

end Web

/-! ### The log (R162, R185) -/

theorem storeTaken_states (s : State) :
    (storeTaken s).web.state = s.web.state ∧ (storeTaken s).dryer.state = s.dryer.state := by
  refine ⟨?_, by rw [storeTaken_dryer]⟩
  rw [storeTaken_web, (webAtStore_standing _ _ _).2.1]
  simp

/-- ALERT judged under the new threshold and gap (R162, R163). -/
def alertAtStore (w : CommRecord) (s : State) : IncidentLog :=
  if s.log.alert = true then
    if s.log.queue.any (qualifies w.scalars.threshold) = true then s.log
    else { s.log with
      alert := false
      gap := if w.scalars.gap = 0 then none else some (s.now + 1000 * w.scalars.gap) }
  else if s.log.gap = none then { s.log with alert := s.log.queue.any (qualifies w.scalars.threshold) } else s.log

theorem storeJudged_log (s : State) : (judgeAlert (storeTaken s)).log = alertAtStore s.comm.working s := by
  obtain ⟨-, hnow, -, -, -, -, hlog⟩ := storeTaken_frame s
  have hscalars : (storeTaken s).scalars? = some s.comm.working.scalars := by
    rw [State.scalars?, (storeTaken_comm s).1]
    rfl
  have hthreshold : (storeTaken s).alertThreshold = s.comm.working.scalars.threshold := by
    simp only [State.alertThreshold, hscalars]
  have hgap : (storeTaken s).alertGap = s.comm.working.scalars.gap := by simp only [State.alertGap, hscalars]
  rw [judgeAlert_log_eq, hlog, hthreshold, hgap, State.after, hnow, alertAtStore]
  split
  · rfl
  · next halert =>
    cases hg : s.log.gap with
    | some d => rfl
    | none =>
      rw [if_pos rfl]
      cases s.log.queue.any (qualifies s.comm.working.scalars.threshold) with
      | true => rfl
      | false =>
        have hoff : s.log.alert = false := by simpa using halert
        show s.log = { s.log with alert := false }
        rw [← hoff]

theorem storeCompletion_log (s : State) : (storeCompletion s).log =
    (offer .storeFinished .none .written { s with
      comm := ⟨some s.comm.working, some s.comm.working, s.comm.working⟩
      log := alertAtStore s.comm.working s }).log := by
  obtain ⟨-, hnow, -, -, -, hline, -⟩ := storeTaken_frame s
  obtain ⟨hweb, hdryer⟩ := storeTaken_states s
  rw [storeCompletion_eq]
  refine offer_log_congr _ _ _ (storeJudged_log s) ?_ ?_ ?_ ?_ ?_
  · simp [hline]
  · simp [hweb]
  · simp [hdryer]
  · simp [(storeTaken_comm s).1]
  · simp [hnow]

theorem storeCompletion_queue (h : s.log.queue.length < 32) : (storeCompletion s).log.queue = s.log.queue ++
    [{ seq := s.log.nextSeq, cycle := s.line.refreshCycle, code := .storeFinished, subject := .none,
       value := .written, web := s.web.state, dryer := s.dryer.state }] := by
  have hqueue : (alertAtStore s.comm.working s).queue = s.log.queue
      ∧ (alertAtStore s.comm.working s).nextSeq = s.log.nextSeq := by
    unfold alertAtStore
    repeat' split
    all_goals exact ⟨rfl, rfl⟩
  rw [storeCompletion_log]
  refine (offer_room _ _ _ rfl (by rw [hqueue.1]; exact h)).1.trans ?_
  rw [hqueue.1, incidentOf, hqueue.2]

/-! ## O21 -/

theorem storeWriteComplete_running (h : s.agent.storeRunning = true) : storeWriteComplete s = storeCompletion s :=
  if_pos h

theorem rebuildRecords_lookup (m : List SlotEntry) (old : List (RecKey × BoardRec)) (k : RecKey) :
    lookupKey k (rebuildRecords m old) =
      if k ∈ recordKeys m then some ((lookupKey k old).getD BoardRec.fresh) else none :=
  lookupKey_keyed (fun k => (lookupKey k old).getD BoardRec.fresh) k (recordKeys m)

theorem rebuildEntries_lookup (m : List SlotEntry) (old : List (Role × CmdEntry)) (r : Role) :
    lookupKey r (rebuildEntries m old) =
      if r ∈ commandRoles m then some (repair m r ((lookupKey r old).getD CmdEntry.fresh)) else none :=
  lookupKey_keyed (fun r => repair m r ((lookupKey r old).getD CmdEntry.fresh)) r (commandRoles m)

/-- EXHAUST_SP leaves UNRESPONSIVE when it stood so and its entry, if it has one, no longer does (R123). -/
theorem exhaustLeaves_iff : exhaustLeaves s = true ↔
    (∃ e, s.cmds.entry? .exhaustSp = some e ∧ e.responsiveness = .unresponsive)
      ∧ ∀ e, (storeTaken s).cmds.entry? .exhaustSp = some e → e.responsiveness ≠ .unresponsive := by
  rw [exhaustLeaves, Bool.and_eq_true, Bool.not_eq_true', exhaustStandsUnresponsive_iff, Bool.eq_false_iff, ne_eq,
    exhaustStandsUnresponsive_iff, storeTaken_cmds]
  refine and_congr Iff.rfl ?_
  simp [CmdTable.entry?]

/-- The counts in force after the completion are those of the working copy. -/
theorem storeTaken_counts (s : State) : (storeTaken s).zoneCount = s.comm.working.scalars.zones
    ∧ (storeTaken s).circuitCount = s.comm.working.scalars.circuits := by
  simp [State.zoneCount, State.circuitCount, State.scalars?, storeTaken_comm]

/-- Settles O21: the table of R185, block by block. -/
theorem storeWriteCompletes : Obligations.StoreWriteCompletes := by
  unfold Obligations.StoreWriteCompletes
  rintro s w rfl hrun
  obtain ⟨u, hu⟩ : ∃ u, u = storeCompletion s := ⟨_, rfl⟩
  obtain ⟨hnow, hchoices, hphase, hpins, hline, hcomm, hboard, hbanks, hsched, hsolv, hweb, hdryer, hcmds, hagent⟩ :=
    storeCompletion_blocks s
  rw [← hu] at hnow hchoices hphase hpins hline hcomm hboard hbanks hsched hsolv hweb hdryer hcmds hagent
  obtain ⟨-, fnow, fchoices, fphase, fpins, fline, -⟩ := storeTaken_frame s
  obtain ⟨tcomm, tagent⟩ := storeTaken_comm s
  obtain ⟨tbanks, tsched, tsolv⟩ := storeTaken_units s
  have hcounts : u.zoneCount = s.comm.working.scalars.zones ∧ u.circuitCount = s.comm.working.scalars.circuits := by
    obtain ⟨hz, hc⟩ := storeTaken_counts s
    exact ⟨(counts_of_comm hcomm).1.trans hz, (counts_of_comm hcomm).2.trans hc⟩
  refine ⟨u, by rw [hu, ← storeWriteComplete_running hrun]; rfl, hcomm.trans tcomm, hagent.trans tagent,
    fun hz hc => ?_, fun hne => ?_, by rw [hsolv, storeTaken_eff], fun k hk => ?_, fun k hk => ?_, ?_, fun r hr => ?_,
    fun r hr => ?_, ?_, ?_, fun k hk => ?_, fun k hk => ?_, fun left hleft => ⟨fun h => ?_, fun h => ?_⟩,
    fun c hc => ⟨fun hl hm => ?_, fun h => ?_⟩, fun hnone => ?_, fun any l hany hl => ⟨?_, fun hroom => ?_⟩,
    hline.trans fline, hpins.trans fpins, hphase.trans fphase, hnow.trans fnow, hchoices.trans fchoices⟩
  · have hsame : SameCounts s := ⟨hcounts.1 ▸ hz, hcounts.2 ▸ hc⟩
    rw [hbanks, hsched, hsolv, tbanks, tsched, tsolv, bringIntoForce_same hsame]
    exact ⟨rfl, rfl, rfl⟩
  · have hchanged : ¬ SameCounts s := fun h => hne ⟨hcounts.1.trans h.1, hcounts.2.trans h.2⟩
    rw [hbanks, hsched, hsolv, tbanks, tsched, tsolv, bringIntoForce_changed hchanged, (demoteAll_units _).1,
      (demoteAll_units _).2]
    refine ⟨fun b => ?_, rfl, rfl, fun k => ?_, fun j => ?_, rfl⟩
    · rw [demoteAll_banks]
      exact ⟨rfl, rfl, rfl⟩
    · simp [SchedUnit.afterReset]
    · simp [SchedUnit.afterReset]
  · rw [hboard, storeTaken_board, rebuildRecords_lookup, if_pos hk]
  · rw [hboard, storeTaken_board, rebuildRecords_lookup, if_neg hk]
  · rw [hboard, storeTaken_board]
  · rw [hcmds, storeTaken_cmds, rebuildEntries_lookup, if_pos hr]
  · rw [hcmds, storeTaken_cmds, rebuildEntries_lookup, if_neg hr]
  · rw [hcmds, storeTaken_cmds]
  · rw [hdryer]; exact storeTaken_dryer s
  · rw [hdryer, storeTaken_flame, if_pos hk]
  · rw [hdryer, storeTaken_flame, if_neg hk]
    rfl
  · rw [hcmds, ← exhaustLeaves_iff] at hleft
    rw [hdryer, storeTaken_exhaust, if_pos (hleft.1 h)]
  · rw [hcmds, ← exhaustLeaves_iff] at hleft
    rw [hdryer, storeTaken_exhaust, if_neg fun hn => h (hleft.2 hn)]
  · rw [hweb, storeTaken_web, hc, webAtStore_same hl hm]
    simp
  · rw [hweb, storeTaken_web, hc, webAtStore_changed h]
    simp
  · rw [hweb, storeTaken_web, hnone]
    simp [webAtStore]
  · subst hany
    rw [hu, storeCompletion_log, hl]
    rfl
  · rw [hu]
    exact storeCompletion_queue hroom

end Sys2Proof.Machine
end
